-- ==== Sys2Proof/Word.lean ====
section
/-!
DEFINITION. The words of the model: a byte of a frame, controller time, and the
total read and write of a fixed table.
-/

namespace Sys2Proof

/-- The content of one character: eight data bits (01:R1). -/
abbrev Byte := BitVec 8

/-- One character of a link: its eight data bits and its mark bit (01:R1). -/
structure Character where
  data : Byte
  mark : Bool
deriving DecidableEq, Repr

/-- Controller time: a free-running count of milliseconds, differences modulo 2^32 (00_scope, Conventions). -/
abbrev Time := BitVec 32

/-- Place `i` of a table, or `d` where the table has no such place. -/
def look {α : Type} {n : Nat} (v : Vector α n) (i : Nat) (d : α) : α := v[i]?.getD d

/-- The table with place `i` replaced; a table with no such place is left as it is. -/
def put {α : Type} {n : Nat} (v : Vector α n) (i : Nat) (a : α) : Vector α n := v.setIfInBounds i a

/-- Every place of a table rewritten from its number and its content. -/
def mapTable {α β : Type} {n : Nat} (f : Nat → α → β) (v : Vector α n) : Vector β n :=
  ⟨⟨v.toArray.toList.mapIdx f⟩, by simp⟩

end Sys2Proof
end

