-- ==== Sys2Proof/Syntax.lean ====
section
/-!
DEFINITION. The commands: one constructor for each row of spec/opcode_table.json, in the table's order.
A row that an outside party causes carries what that party supplies; every other row
takes what it needs from the state (the head of a queue, a timer that is due, a hand-out that waits).
-/

namespace Sys2Proof

/-- The two serial links (01_links). -/
inductive Link | console | field
deriving DecidableEq, Repr

/-- The two hardwired inputs that pass through the 20 ms filter (10:R170). -/
inductive HardLine | estop | maintKey
deriving DecidableEq, Repr

/-- The raw level of a hardwired line; both inputs are active low (10:R170). -/
inductive LineLevel | low | high
deriving DecidableEq, Repr

/-- The two ways of a warm reset (10:R181). -/
inductive ResetSource | resetLine | restart
deriving DecidableEq, Repr

/-- The commands. -/
inductive Instr
  /-- FRAME_COMPLETE: the second check character of a frame arrives (01:R3, R4). -/
  | frameComplete (link : Link) (data : Byte)
  /-- BAD_STOP_BIT: a character with a bad stop bit (01:R4). -/
  | badStopBit (link : Link)
  /-- GAP_FAULT: more than three idle character times inside a frame (01:R5). -/
  | gapFault (link : Link)
  /-- TRUNCATED_FAULT: a marked character while ASSEMBLING (01:R6). -/
  | truncatedFault (link : Link) (data : Byte)
  /-- LENGTH_FAULT: a length character that ends its frame (01:R7). -/
  | lengthFault (link : Link) (data : Byte)
  /-- CONSOLE_FRAME_RECEIVED: a good ORDER or MGMT REQUEST reaches the ingress queue (01:R13). -/
  | consoleFrameReceived
  /-- MOTION_HOLD: a good MOTION HOLD reaches the Span Supervisor (06:R115). -/
  | motionHold
  /-- LINE_BREAK: 22 bit times of space on the console line (01:R9). -/
  | lineBreak
  /-- LINE_MARK: the console line returns to mark (01:R9). -/
  | lineMark
  /-- FIELD_BREAK: a break on the field line that the controller did not send (01:R10). -/
  | fieldBreak
  /-- EGRESS_FRAME_START: the console transmitter begins the head frame (01:R16). -/
  | egressFrameStart
  /-- EGRESS_FRAME_SENT: the last check character of a console frame has been sent (01:R16). -/
  | egressFrameSent
  /-- ARBITER_CHOICE: the transmit arbiter chooses (02:R27). -/
  | arbiterChoice
  /-- FRAME_FULLY_SENT: the last check character of a field frame is read back right (02:R20). -/
  | frameFullySent
  /-- CONTENTION: a field character reads back wrong or not at all (02:R25). -/
  | contention
  /-- TURNAROUND_END: the turnaround period ends (02:R19). -/
  | turnaroundEnd
  /-- REPLY_TIMEOUT: the reply timeout expires with the receiver HUNTING (02:R21). -/
  | replyTimeout
  /-- FIELD_FRAME_RECEIVED: a good field frame is judged (01:R8, 02:R22, R23). -/
  | fieldFrameReceived
  /-- ALL_STOP_BREAK: the field transmitter begins the break (02:R32). -/
  | allStopBreak
  /-- BREAK_IDLE_END: the idle period after a break ends (01:R11). -/
  | breakIdleEnd
  /-- STOP_TIMER_EXPIRY (06:R101). -/
  | stopTimerExpiry
  /-- START_WINDOW_EXPIRY (06:R114). -/
  | startWindowExpiry
  /-- HOLD_TIMER_EXPIRY (06:R115). -/
  | holdTimerExpiry
  /-- PROVING_END (04:R63). -/
  | provingEnd
  /-- COUNTER_CHANGE: a raised counter change is walked (09:R165). -/
  | counterChange
  /-- HOLD_RELEASE: the Order Gate takes a condition change set (05:R85). -/
  | holdRelease
  /-- ADVANCE_TEST: the Crossing Sequencer takes a condition change set (07:R128). -/
  | advanceTest
  /-- PASSAGE: the Channel Controller takes a condition change set (08:R150). -/
  | passage
  /-- CONDITION_TRUE_EVENT: the Duty Counter Unit takes a condition change set (09:R159). -/
  | conditionTrueEvent
  /-- CONSOLE_ORDER_ADMISSION: an ORDER is served from the ingress queue (05:R77). -/
  | consoleOrderAdmission
  /-- HOLD_DEADLINE_EXPIRY (05:R86). -/
  | holdDeadlineExpiry
  /-- GATE_STANDDOWN_CANCEL (05:R91). -/
  | gateStanddownCancel
  /-- DWELL_EXPIRY (07:R129). -/
  | dwellExpiry
  /-- PHASE_LIMIT_EXPIRY (07:R129). -/
  | phaseLimitExpiry
  /-- SEQUENCER_STANDDOWN (07:R132). -/
  | sequencerStanddown
  /-- GREEN_TIMER_EXPIRY (08:R151). -/
  | greenTimerExpiry
  /-- CHANGEOVER_TIMER_EXPIRY (08:R151). -/
  | changeoverTimerExpiry
  /-- RETRY_TIMER_EXPIRY (08:R149). -/
  | retryTimerExpiry
  /-- CHANNEL_STANDDOWN_CLOSE (08:R152). -/
  | channelStanddownClose
  /-- MILLISECOND_ADVANCE: controller time advances by one (09:R160, R167). -/
  | millisecondAdvance
  /-- ESTOP_ASSERTED (10:R170). -/
  | estopAsserted
  /-- ESTOP_RELEASED (10:R170). -/
  | estopReleased
  /-- MAINT_KEY_ON (10:R173). -/
  | maintKeyOn
  /-- MAINT_KEY_OFF (10:R171). -/
  | maintKeyOff
  /-- POWER_ON_RESET (10:R181). -/
  | powerOnReset
  /-- WARM_RESET (10:R181). -/
  | warmReset (source : ResetSource)
  /-- UNKNOWN_REQUEST (11:R183). -/
  | unknownRequest
  /-- WRITE_ENTRY_POINT_MAP (03:R43). -/
  | writeEntryPointMap
  /-- CLEAR_ENTRY_POINT_MAP (03:R43). -/
  | clearEntryPointMap
  /-- WRITE_ENTRY_CONDITION (04:R71). -/
  | writeEntryCondition
  /-- CLEAR_ENTRY_CONDITION (04:R71). -/
  | clearEntryCondition
  /-- WRITE_ENTRY_PERMIT (05:R74). -/
  | writeEntryPermit
  /-- CLEAR_ENTRY_PERMIT (05:R74). -/
  | clearEntryPermit
  /-- WRITE_ENTRY_SCAN_LIST (02:R34). -/
  | writeEntryScanList
  /-- CLEAR_ENTRY_SCAN_LIST (02:R34). -/
  | clearEntryScanList
  /-- WRITE_ENTRY_PHASE (07:R123). -/
  | writeEntryPhase
  /-- CLEAR_ENTRY_PHASE (07:R123). -/
  | clearEntryPhase
  /-- WRITE_ENTRY_COUNTER_CONTROL (09:R157). -/
  | writeEntryCounterControl
  /-- CLEAR_ENTRY_COUNTER_CONTROL (09:R157). -/
  | clearEntryCounterControl
  /-- WRITE_ENTRY_SPAN_RECORD (06:R96). -/
  | writeEntrySpanRecord
  /-- CLEAR_ENTRY_SPAN_RECORD (06:R96). -/
  | clearEntrySpanRecord
  /-- WRITE_ENTRY_CHANNEL_RECORD (08:R143). -/
  | writeEntryChannelRecord
  /-- CLEAR_ENTRY_CHANNEL_RECORD (08:R143). -/
  | clearEntryChannelRecord
  /-- READ_ENTRY (11:R185). -/
  | readEntry
  /-- WRITE_LIMITS (10:R175). -/
  | writeLimits
  /-- READ_LIMITS (11:R185). -/
  | readLimits
  /-- READ_POINTS (11:R186). -/
  | readPoints
  /-- READ_STATUS (11:R187). -/
  | readStatus
  /-- READ_NODES (11:R186). -/
  | readNodes
  /-- READ_COUNTERS (11:R186). -/
  | readCounters
  /-- READ_RESIDENCY (11:R186). -/
  | readResidency
  /-- READ_VESSELS (11:R186). -/
  | readVessels
  /-- COUNTER_CLEAR (09:R164). -/
  | counterClear
  /-- UNFREEZE (09:R163). -/
  | unfreeze
  /-- SCAN_CONTROL (11:R188). -/
  | scanControl
  /-- OPEN (07:R134). -/
  | openRequest
  /-- CLOSE (07:R134). -/
  | closeRequest
  /-- HALT (07:R135). -/
  | haltRequest
  /-- RESUME (07:R136). -/
  | resumeRequest
  /-- REVERSE (07:R137). -/
  | reverseRequest
  /-- RECOVER (07:R138). -/
  | recoverRequest
  /-- VESSEL_ADD (08:R148). -/
  | vesselAdd
  /-- VESSEL_REMOVE (08:R148). -/
  | vesselRemove
  /-- CLEAR_STANDDOWN (10:R178). -/
  | clearStanddown
  /-- START_SERVICE (10:R171). -/
  | startService
  /-- RESTART (10:R181). -/
  | restartRequest
  /-- VALID_CHARACTER: a valid character that does not complete a frame (01:R4), or one read back on the field link
  (01:R12). -/
  | validCharacter (link : Link) (markBit : Bool) (data : Byte)
  /-- FIELD_LINE_MARK (01:R10). -/
  | fieldLineMark
  /-- RAW_LINE_CHANGE (10:R170). -/
  | rawLineChange (line : HardLine) (level : LineLevel)
  /-- RESET_LINE_RELEASED (10:R181). -/
  | resetLineReleased
  /-- SUPPLY_LOSS (10:R180). -/
  | supplyLoss
deriving DecidableEq, Repr

end Sys2Proof
end

