-- ==== Sys2Proof/Config.lean ====
section
/-!
DEFINITION. The numbers the manual fixes for the part, each with its rule, and the free value.
-/

namespace Sys2Proof.Config

/-- The ingress queue holds up to 4 frames (01:R13). -/
def ingressCapacity : Nat := 4
/-- Service of the ingress queue starts only below this egress occupancy (01:R14). -/
def serviceBelow : Nat := 24
/-- A report is admitted only below this egress occupancy (01:R15). -/
def reportHeadroom : Nat := 16
/-- The egress queue never holds more than this (01:R15). -/
def egressCapacity : Nat := 48
/-- Largest payload on the field link (01:R7). -/
def fieldPayloadMax : Nat := 24
/-- Largest payload on the console link (01:R7). -/
def consolePayloadMax : Nat := 200
/-- The order queue holds up to 8 orders (05:R82). -/
def orderCapacity : Nat := 8
/-- The hold queue holds up to 8 orders (05:R83). -/
def holdCapacity : Nat := 8
/-- The own-order queue holds up to 12 orders (05:R88). -/
def ownCapacity : Nat := 12
/-- The vessel queue holds up to 8 entries (08:R146). -/
def vesselCapacity : Nat := 8
/-- Attempts of one field transaction (02:R25). -/
def attempts : Nat := 3
/-- Contended transactions in a row that report FIELD CONTENTION (02:R26). -/
def contentionLimit : Nat := 8
/-- The poll credit stops counting here (02:R28). -/
def creditMax : Nat := 3
/-- The cycle count wraps here (02:R35). -/
def cycles : Nat := 840
/-- The filter of the hardwired inputs, ms (10:R170). -/
def filterTime : Nat := 20
/-- The hold-to-run interval while the limit record is absent, ms (06:R115). -/
def defaultHoldInterval : Nat := 300
/-- Standstill pairs that end STOPPING (06:R100). -/
def standstillPairs : Nat := 3
/-- Failed trims in a row that stop the motion (06:R118). -/
def trimLossLimit : Nat := 3
/-- Pairs above the zone limit that stop the motion (06:R117). -/
def overspeedPairs : Nat := 2
/-- Lowest and highest height of a tower end, mm (06:R103). -/
def heightMin : Int := -5000
def heightMax : Int := 80000
/-- Clamp of the speed, mm/s (06:R107). -/
def speedMax : Int := 3000
/-- Largest contents of a 32-bit counter (09:R161). -/
def counterMax : Nat := 4294967295
/-- Largest contents of a link count and of the call counts (01:R17, 08:R144). -/
def countMax : Nat := 65535

/-- FREE VALUE (DESIGN CHOICE, log 9): what residency counter `phase` holds after it counts past 2^48 − 1.
09:R167 says only that no counter fills in the service life of a bridge. -/
opaque residencyOverflow : Nat → BitVec 48

end Sys2Proof.Config
end

