-- ==== Sys2Proof/Machine/Tables.lean ====
section
/-!
DEFINITION. The named values of the manual (01_links, "Codes of named values") and the contents of its tables and
records, as plain data.
-/

namespace Sys2Proof.Machine

/-! ### Named values -/

/-- The controller's mode (10:R169). -/
inductive Mode | init | maintenance | service
deriving DecidableEq, Repr

/-- Point 123 (03, section 3.6). -/
def Mode.num : Mode → Nat
  | .init => 0
  | .maintenance => 1
  | .service => 2

/-- The stand-down causes (10, section 10.6). -/
inductive Cause | estopLine | consoleBreak | skewTrip | stopFailed | fieldContention | channelSignal
deriving DecidableEq, Repr

/-- The code of a cause on the console link (01, section 1.10). -/
def Cause.code : Cause → Nat
  | .estopLine => 1
  | .consoleBreak => 2
  | .skewTrip => 3
  | .stopFailed => 4
  | .fieldContention => 5
  | .channelSignal => 6

/-- The set of latched causes (10:R169). -/
structure CauseSet where
  estopLine : Bool
  consoleBreak : Bool
  skewTrip : Bool
  stopFailed : Bool
  fieldContention : Bool
  channelSignal : Bool
deriving DecidableEq, Repr

/-- The motion states (06:R97), point 119. -/
inductive MotionState | idle | raising | lowering | stopping | stopped
deriving DecidableEq, Repr

def MotionState.num : MotionState → Nat
  | .idle => 0
  | .raising => 1
  | .lowering => 2
  | .stopping => 3
  | .stopped => 4

/-- Whether STOPPING ends in STOPPED or IDLE (06:R97). -/
inductive StopKind | fault | arrival
deriving DecidableEq, Repr

/-- The correction modes (06:R110), point 118. -/
inductive Correction | acquire | track
deriving DecidableEq, Repr

def Correction.num : Correction → Nat
  | .acquire => 0
  | .track => 1

/-- The level indicator (06:R109), point 117. -/
inductive Level | notLevel | level
deriving DecidableEq, Repr

def Level.num : Level → Nat
  | .notLevel => 0
  | .level => 1

/-- The causes of a motion stop (06:R98). -/
inductive MotionCause
  | holdLapse | overspeed | encoderStallA | encoderStallB | skewUnknown | startFailed | heightRange | trimLost | haltRequest
deriving DecidableEq, Repr

def MotionCause.code : MotionCause → Nat
  | .holdLapse => 1
  | .overspeed => 2
  | .encoderStallA => 3
  | .encoderStallB => 4
  | .skewUnknown => 5
  | .startFailed => 6
  | .heightRange => 7
  | .trimLost => 8
  | .haltRequest => 9

/-- The two towers, each with its hoist and its encoder. -/
inductive Tower | a | b
deriving DecidableEq, Repr

def Tower.other : Tower → Tower
  | .a => .b
  | .b => .a

/-- The two directions of the channel, and the signals that face them (08, section 8.1). -/
inductive Direction | north | south
deriving DecidableEq, Repr

def Direction.num : Direction → Nat
  | .north => 1
  | .south => 2

def Direction.opposite : Direction → Direction
  | .north => .south
  | .south => .north

/-- The fourteen phases (07, section 7.1), point 120. -/
inductive Phase
  | roadOpen | warning | entryGates | exitGates | roadProof | lifting | channelOpen | channelClosing
  | lowering | seating | gatesRaising | roadRelease | halted | inactive
deriving DecidableEq, Repr

def Phase.num : Phase → Nat
  | .roadOpen => 0
  | .warning => 1
  | .entryGates => 2
  | .exitGates => 3
  | .roadProof => 4
  | .lifting => 5
  | .channelOpen => 6
  | .channelClosing => 7
  | .lowering => 8
  | .seating => 9
  | .gatesRaising => 10
  | .roadRelease => 11
  | .halted => 12
  | .inactive => 13

/-- Phases 0 to 11 are the working phases (07, section 7.1). -/
def Phase.working (p : Phase) : Bool := p.num ≤ 11

/-- What a HALTED crossing remembers (07:R124). -/
inductive Interrupted
  | phase (p : Phase)
  | unknown
deriving DecidableEq, Repr

/-- The causes carried by a PHASE REPORT (01, section 1.10). -/
inductive PhaseCause
  | advance | adopted | entryRefused | entryFailed | limit | motionStop | haltRequest | standdown | resume | reverse
  | recover | mode
deriving DecidableEq, Repr

def PhaseCause.code : PhaseCause → Nat
  | .advance => 0
  | .adopted => 1
  | .entryRefused => 2
  | .entryFailed => 3
  | .limit => 4
  | .motionStop => 5
  | .haltRequest => 6
  | .standdown => 7
  | .resume => 8
  | .reverse => 9
  | .recover => 10
  | .mode => 11

/-- The final results of an order (01, section 1.10, "Result codes"). -/
inductive Result
  | done | nodeRefused | noAnswer | garbled | linkFault | notReady | noPermit | maintenance | standdown | owned
  | motionBusy | argument | refusedCondition | queueFull | expired | superseded | revoked | cancelled
deriving DecidableEq, Repr

def Result.code : Result → Nat
  | .done => 0
  | .nodeRefused => 1
  | .noAnswer => 2
  | .garbled => 3
  | .linkFault => 4
  | .notReady => 5
  | .noPermit => 6
  | .maintenance => 7
  | .standdown => 8
  | .owned => 9
  | .motionBusy => 10
  | .argument => 11
  | .refusedCondition => 12
  | .queueFull => 13
  | .expired => 14
  | .superseded => 15
  | .revoked => 16
  | .cancelled => 17

/-- The code of the interim result HELD. -/
def heldCode : Nat := 128

/-- The refusal codes of management requests (11, section 11.5). -/
inductive Denial
  | wrongMode | wrongPhase | badTable | badEntry | range | locked | queueFull | unknownTag | invalid
deriving DecidableEq, Repr

def Denial.code : Denial → Nat
  | .wrongMode => 1
  | .wrongPhase => 2
  | .badTable => 3
  | .badEntry => 4
  | .range => 5
  | .locked => 6
  | .queueFull => 7
  | .unknownTag => 8
  | .invalid => 9

/-- The alert kinds (11, section 11.6), each with its detail. -/
inductive Alert
  | standdown (c : Cause)
  | motionStop (c : MotionCause)
  | nodeSilent (node : Nat)
  | nodeAnswering (node : Nat)
  | vesselQueueFull (tag : Nat)
  | unexpectedPassage (d : Direction)
  | counterThreshold (k : Nat)
  | maintenancePending
  | scanDone
  | validationFailed (check : Nat)
  | channelGreenFailed (d : Direction)
deriving DecidableEq, Repr

def Alert.code : Alert → Nat
  | .standdown _ => 1
  | .motionStop _ => 2
  | .nodeSilent _ => 3
  | .nodeAnswering _ => 4
  | .vesselQueueFull _ => 5
  | .unexpectedPassage _ => 6
  | .counterThreshold _ => 7
  | .maintenancePending => 8
  | .scanDone => 9
  | .validationFailed _ => 10
  | .channelGreenFailed _ => 11

def Alert.detail : Alert → Nat
  | .standdown c => c.code
  | .motionStop c => c.code
  | .nodeSilent n => n
  | .nodeAnswering n => n
  | .vesselQueueFull t => t
  | .unexpectedPassage d => d.num
  | .counterThreshold k => k
  | .maintenancePending => 0
  | .scanDone => 0
  | .validationFailed n => n
  | .channelGreenFailed d => d.num

/-! ### Point map (03, section 3.2) -/

inductive Width | bit | u8 | u16 | s16 | u24 | call
deriving DecidableEq, Repr

/-- Bytes read by a width (03, section 3.1). -/
def Width.bytes : Width → Nat
  | .bit => 1
  | .u8 => 1
  | .u16 => 2
  | .s16 => 2
  | .u24 => 3
  | .call => 3

structure PointEntry where
  node : Nat
  offset : Nat
  width : Width
  bitIndex : Nat
  invert : Bool
  debounce : Nat
  staleLimit : Nat
deriving DecidableEq, Repr

/-! ### Conditions (04, sections 4.1 and 4.2) -/

/-- The operators of a POINT TEST with their constants (04:R59). `inSet` holds its mask as sixteen bits. -/
inductive PointOp
  | eq (a : Int)
  | ne (a : Int)
  | lt (a : Int)
  | ge (a : Int)
  | inRange (a b : Int)
  | outRange (a b : Int)
  | inSet (mask : BitVec 16)
deriving DecidableEq, Repr

inductive Term
  | point (n : Nat) (op : PointOp)
  | condition (j : Nat)
  | counterBelow (k : Nat)
deriving DecidableEq, Repr

structure CondEntry where
  terms : List Term
  hold : Nat
  report : Bool
deriving DecidableEq, Repr

/-! ### Permits (05, section 5.1) -/

structure Permit where
  /-- `none` is ANY. -/
  node : Option Nat
  cls : Nat
  argMin : Int
  argMax : Int
  /-- The argument policy: CLAMP, else REFUSE. -/
  clamp : Bool
  required : List Nat
  /-- The unmet policy: HOLD, else REFUSE. -/
  hold : Bool
  /-- Seconds. -/
  holdLimit : Nat
  maint : Bool
  standdown : Bool
  owned : Bool
deriving DecidableEq, Repr

/-! ### Scan list (02, section 2.5) -/

structure ScanSlot where
  node : Nat
  divisor : Nat
  enabled : Bool
deriving DecidableEq, Repr

inductive ScanMode | continuous | single | stopped
deriving DecidableEq, Repr

/-! ### Phase table (07:R122) -/

structure EntryOrder where
  node : Nat
  cls : Nat
  arg : Int
deriving DecidableEq, Repr

structure PhaseEntry where
  orders : List EntryOrder
  advance : Option Nat
  /-- Milliseconds. -/
  dwell : Nat
  /-- Seconds; 0 is none. -/
  limit : Nat
  proof : Option Nat
deriving DecidableEq, Repr

/-! ### Counter control (09:R156) -/

inductive DutyEventKind
  | orderOutcome | conditionTrue | phaseEntry | nodeMiss | linkFault | pairMiss | trimSent | motionStop | vesselPassage
  | queueOccupancy
deriving DecidableEq, Repr

inductive DutyAction | none | report | freeze
deriving DecidableEq, Repr

structure DutyRecord where
  event : DutyEventKind
  /-- `none` is ANY. -/
  filter : Option Nat
  mask : BitVec 18
  /-- The counting mode: TIME, else COUNT. -/
  time : Bool
  invert : Bool
  threshold : Nat
  action : DutyAction
  freezable : Bool
deriving DecidableEq, Repr

/-! ### Span record (06, section 6.1) -/

/-- What the span record says of one tower. -/
structure TowerRecord where
  encoder : Nat
  zero : Nat
  scale : Nat
  /-- The sign: −1, else +1. -/
  negative : Bool
  hoist : Nat
deriving DecidableEq, Repr

structure SpanRecord where
  a : TowerRecord
  b : TowerRecord
  startUp : Nat
  startDown : Nat
  stop : Nat
  trim : Nat
  gainAcquire : Nat
  gainTrack : Nat
  deadband : Nat
  top : Int
  seat : Int
  arrival : Nat
  startWindow : Nat
  stallLimit : Nat
  stallGrace : Nat
  standstill : Nat
  b1 : Nat
  b2 : Nat
  b3 : Nat
  b4 : Nat
deriving DecidableEq, Repr

def SpanRecord.tower (r : SpanRecord) : Tower → TowerRecord
  | .a => r.a
  | .b => r.b

/-! ### Channel record (08:R143) -/

structure ChannelRecord where
  northNode : Nat
  southNode : Nat
  cls : Nat
  northPassage : Nat
  southPassage : Nat
  /-- Seconds. -/
  changeover : Nat
  /-- Seconds. -/
  greenLimit : Nat
deriving DecidableEq, Repr

def ChannelRecord.node (r : ChannelRecord) : Direction → Nat
  | .north => r.northNode
  | .south => r.southNode

def ChannelRecord.passage (r : ChannelRecord) : Direction → Nat
  | .north => r.northPassage
  | .south => r.southPassage

/-! ### Limit record (10:R175) -/

structure Zone where
  bound : Int
  speed : Nat
deriving DecidableEq, Repr

structure LimitRecord where
  eTrk : Nat
  xTrk : Nat
  lTol : Nat
  aSkew : Nat
  tSkew : Nat
  nTrk : Nat
  nLvl : Nat
  uMax : Nat
  window : Nat
  missLimit : Nat
  /-- Milliseconds. -/
  holdInterval : Nat
  /-- Seconds. -/
  stopLimit : Nat
  z1 : Zone
  z2 : Zone
  z3 : Zone
  z4 : Zone
deriving DecidableEq, Repr

end Sys2Proof.Machine
end

