-- ==== Sys2Proof/Machine/Blocks.lean ====
section
/-!
DEFINITION. What each of the eleven blocks holds, as plain data, and its state right after a power-on reset.
-/

namespace Sys2Proof.Machine

/-! ### The links -/

/-- A frame without its check (01, section 1.2): the length is that of the payload. -/
structure Frame where
  kind : Byte
  node : Byte
  tag : Byte
  payload : List Byte
deriving DecidableEq, Repr

/-- The frame receiver of a link with the bytes taken so far (01:R4). -/
inductive Receiver
  | hunting
  | assembling (bytes : List Byte)
deriving DecidableEq, Repr

/-- The state of a break detector (01:R9, R10). -/
inductive LineState | mark | broken
deriving DecidableEq, Repr

/-- The four fault counts of a link (01:R17). -/
structure LinkCounts where
  check : Nat
  gap : Nat
  truncated : Nat
  length : Nat
deriving DecidableEq, Repr

/-- A good frame with its reception time (01:R8). -/
structure Arrival where
  frame : Frame
  time : Time
deriving DecidableEq, Repr

/-- How far an accepted RESTART has gone (10:R181). -/
inductive Restart | none | waiting | sent
deriving DecidableEq, Repr

def LinkCounts.reset : LinkCounts := { check := 0, gap := 0, truncated := 0, length := 0 }

/-- The Console Port. -/
structure Console where
  receiver : Receiver
  line : LineState
  /-- Good frames delivered and not yet taken (log 2). -/
  arrivals : List Arrival
  ingress : List Frame
  egress : List Frame
  sending : Bool
  counts : LinkCounts
  ingressOverflows : Nat
  reportsLost : Nat
  reportSeq : Byte
  restart : Restart
deriving DecidableEq, Repr

/-- The Console Port after either reset (01:R18). -/
def Console.reset : Console where
  receiver := .hunting
  line := .mark
  arrivals := []
  ingress := []
  egress := []
  sending := false
  counts := LinkCounts.reset
  ingressOverflows := 0
  reportsLost := 0
  reportSeq := 0
  restart := .none

/-! ### Orders -/

/-- The two orders the Channel Controller gives a signal (08:R143). -/
inductive SignalKind | red | green
deriving DecidableEq, Repr

/-- Where an order came from, with the tag or the originator's reference (05:R76). -/
inductive Origin
  | console (tag : Byte)
  | sequencer (serial : BitVec 16) (place : Nat)
  | channel (signal : Direction) (kind : SignalKind)
deriving DecidableEq, Repr

/-- The record of an order in the gate's keeping (05:R76). Its place is the queue it stands in, or the transaction
in flight, which also holds the transmitted mark. -/
structure OrderRecord where
  origin : Origin
  node : Nat
  cls : Nat
  arg : Int
  clamped : Bool
  entry : Nat
  required : List Nat
  deadline : Option Time
  /-- The signal whose last-order memory records this order (08:R145). -/
  memory : Option Direction
deriving DecidableEq, Repr

/-- The Order Gate. -/
structure Gate where
  permits : Vector (Option Permit) 96
  orders : List OrderRecord
  held : List OrderRecord
  own : List OrderRecord
  /-- Condition change sets handed over and not yet taken (log 2). -/
  sets : Nat
  /-- Stand-down entries handed over and not yet taken (log 2). -/
  standdowns : Nat
deriving DecidableEq, Repr

/-- The Order Gate after a power-on reset (05:R94). -/
def Gate.reset : Gate where
  permits := Vector.replicate 96 none
  orders := []
  held := []
  own := []
  sets := 0
  standdowns := 0

/-! ### The Field Engine -/

/-- The source a transaction belongs to (02, section 2.1). -/
inductive TxSource
  | poll
  | order (r : OrderRecord)
  | trim (t : Tower)
  | stop (t : Tower)
deriving DecidableEq, Repr

/-- The transaction in flight (02:R20, R25). -/
structure Transaction where
  source : TxSource
  node : Nat
  cls : Nat
  arg : Int
  tag : Byte
  /-- Attempts abandoned by contention. -/
  abandoned : Nat
  transmitted : Bool
deriving DecidableEq, Repr

/-- The link states (02, section 2.1); AWAITING holds when its reply timeout expires. -/
inductive LinkState
  | idle
  | sending
  | awaiting (expiry : Time)
  | turnaround
  | breaking
deriving DecidableEq, Repr

/-- An order waiting in a trim slot or a stop slot (02:R30, R31). -/
structure SlotOrder where
  node : Nat
  cls : Nat
  arg : Int
deriving DecidableEq, Repr

inductive NodeState | unknown | answering | silent
deriving DecidableEq, Repr

/-- A record of the node status table (02, section 2.7). -/
structure NodeRecord where
  state : NodeState
  misses : Nat
  lastGood : Option Time
deriving DecidableEq, Repr

def NodeRecord.reset : NodeRecord := { state := .unknown, misses := 0, lastGood := none }

/-- The Field Engine. Place n − 1 of `nodes` is node n. -/
structure Field where
  receiver : Receiver
  line : LineState
  /-- Good frames delivered and not yet taken (log 2). -/
  arrivals : List Arrival
  counts : LinkCounts
  link : LinkState
  /-- The characters of the frame being sent that have been read back (01:R12). -/
  echo : List Character
  tx : Option Transaction
  allStop : Bool
  trimA : Option SlotOrder
  trimB : Option SlotOrder
  stopA : Option SlotOrder
  stopB : Option SlotOrder
  credit : Nat
  contention : Nat
  nextTag : Byte
  scanList : Vector (Option ScanSlot) 32
  scanMode : ScanMode
  pointer : Nat
  cycle : Nat
  sweep : Nat
  replyTimeout : Nat
  silentLimit : Nat
  nodes : Vector NodeRecord 100
deriving DecidableEq, Repr

/-- The Field Engine after a power-on reset (02:R41). -/
def Field.reset : Field where
  receiver := .hunting
  line := .mark
  arrivals := []
  counts := LinkCounts.reset
  link := .idle
  echo := []
  tx := none
  allStop := false
  trimA := none
  trimB := none
  stopA := none
  stopB := none
  credit := 0
  contention := 0
  nextTag := 0
  scanList := Vector.replicate 32 none
  scanMode := .continuous
  pointer := 0
  cycle := 0
  sweep := 0
  replyTimeout := 8
  silentLimit := 3
  nodes := Vector.replicate 100 NodeRecord.reset

/-! ### The Point Image -/

inductive Freshness | never | fresh | stale
deriving DecidableEq, Repr

/-- A debounce run (03:R42). -/
structure Run where
  candidate : Int
  count : Nat
deriving DecidableEq, Repr

/-- One point (03:R42). -/
structure Point where
  value : Int
  freshness : Freshness
  age : Nat
  run : Option Run
  received : Option Time
  /-- The call direction. -/
  direction : Nat
deriving DecidableEq, Repr

/-- The first state of a field point (03:R43, R56). -/
def Point.first : Point :=
  { value := 0, freshness := .never, age := 0, run := none, received := none, direction := 0 }

/-- The Point Image. -/
structure PointImage where
  map : Vector (Option PointEntry) 112
  points : Vector Point 128
  firstPair : Bool
  pairLoss : Bool
  /-- The point change being gathered inside one event: the points changed so far; absent between events (log 7). -/
  gather : Option (List Nat)
deriving DecidableEq, Repr

/-- Point n after either reset (03:R56): 117 to 127 mirror the reset state of their owners. -/
def Point.reset (n : Nat) : Point :=
  if n < 117 then Point.first
  else { Point.first with value := if n = 120 then 13 else 0, freshness := .fresh }

def PointImage.reset : PointImage where
  map := Vector.replicate 112 none
  points := mapTable (fun n _ => Point.reset n) (Vector.replicate 128 Point.first)
  firstPair := false
  pairLoss := false
  gather := none

/-! ### The Condition Evaluator -/

/-- The state of a condition (04:R57). -/
inductive CondState
  | isFalse
  | proving (start : Time)
  | isTrue
deriving DecidableEq, Repr

/-- A condition change set: each changed condition with its new standing (04:R68). -/
abbrev ChangeSet := List (Nat × Bool)

structure Conditions where
  table : Vector (Option CondEntry) 64
  states : Vector CondState 64
  /-- Counter changes raised and not yet walked (log 2). -/
  counterChanges : List Nat
deriving DecidableEq, Repr

def Conditions.reset : Conditions where
  table := Vector.replicate 64 none
  states := Vector.replicate 64 .isFalse
  counterChanges := []

/-! ### The Span Supervisor -/

/-- The last encoder update taken for a tower (06:R97). -/
structure Update where
  raw : Nat
  height : Int
  time : Time
deriving DecidableEq, Repr

/-- What the Supervisor holds for one tower (06:R97). -/
structure TowerState where
  latest : Option Update
  unchanged : Nat
  trimLoss : Nat
deriving DecidableEq, Repr

def TowerState.reset : TowerState := { latest := none, unchanged := 0, trimLoss := 0 }

/-- The basis of the next speed (06:R97). -/
structure PairBase where
  mean : Int
  time : Time
deriving DecidableEq, Repr

/-- The wait for the second hoist (06:R97). -/
structure StartWindow where
  hoist : Tower
  up : Bool
  expiry : Time
deriving DecidableEq, Repr

/-- The Span Supervisor (06:R97). -/
structure Span where
  record : Option SpanRecord
  motion : MotionState
  stopKind : Option StopKind
  correction : Correction
  level : Level
  levelChanges : Nat
  towerA : TowerState
  towerB : TowerState
  previous : Option PairBase
  speed : Int
  lastSkew : Option Int
  pairMisses : Nat
  pairLost : Bool
  trackRun : Nat
  levelRun : Nat
  overspeedRun : Nat
  standstillRun : Nat
  lastTrim : Int
  motionStart : Option Time
  startWindow : Option StartWindow
  stopTimer : Option Time
  lastHold : Option Time
  /-- The hold timer runs (06:R115). -/
  holdRunning : Bool
deriving DecidableEq, Repr

/-- The Span Supervisor after a power-on reset (06:R121). -/
def Span.reset : Span where
  record := none
  motion := .idle
  stopKind := none
  correction := .acquire
  level := .notLevel
  levelChanges := 0
  towerA := TowerState.reset
  towerB := TowerState.reset
  previous := none
  speed := 0
  lastSkew := none
  pairMisses := 0
  pairLost := false
  trackRun := 0
  levelRun := 0
  overspeedRun := 0
  standstillRun := 0
  lastTrim := 0
  motionStart := none
  startWindow := none
  stopTimer := none
  lastHold := none
  holdRunning := false

/-! ### The Crossing Sequencer -/

/-- The request record (07:R124). -/
inductive RequestRecord | none | openRequest | closeRequest
deriving DecidableEq, Repr

/-- The progress of one entry order (07:R124). -/
inductive Place | notOffered | awaiting | done | cancelled
deriving DecidableEq, Repr

/-- The dwell timer (07:R124). -/
inductive Dwell
  | absent
  | running (expiry : Time)
  | elapsed
deriving DecidableEq, Repr

structure Sequencer where
  table : Vector (Option PhaseEntry) 12
  phase : Phase
  interrupted : Option Interrupted
  recovery : Bool
  request : RequestRecord
  serial : BitVec 16
  tracking : List Place
  dwell : Dwell
  limit : Option Time
  /-- Condition change sets handed over and not yet taken (log 2). -/
  sets : Nat
  /-- Stand-down entries handed over and not yet taken (log 2). -/
  standdowns : Nat
deriving DecidableEq, Repr

/-- The Crossing Sequencer after a power-on reset (07:R142). -/
def Sequencer.reset : Sequencer where
  table := Vector.replicate 12 none
  phase := .inactive
  interrupted := none
  recovery := false
  request := .none
  serial := 0
  tracking := []
  dwell := .absent
  limit := none
  sets := 0
  standdowns := 0

/-! ### The Channel Controller -/

inductive ChannelState | closed | greenNorth | greenSouth | changeover
deriving DecidableEq, Repr

/-- Point 127 (03, section 3.6). -/
def ChannelState.num : ChannelState → Nat
  | .closed => 0
  | .greenNorth => 1
  | .greenSouth => 2
  | .changeover => 3

/-- GREEN d (08:R144). -/
def ChannelState.green : Direction → ChannelState
  | .north => .greenNorth
  | .south => .greenSouth

/-- The direction to which the channel is open. -/
def ChannelState.direction : ChannelState → Option Direction
  | .greenNorth => some .north
  | .greenSouth => some .south
  | .closed => none
  | .changeover => none

/-- The argument kind of a signal order (08:R145). -/
inductive ArgKind | red | green | other
deriving DecidableEq, Repr

/-- The outcome kept with a last-order memory (08:R144). -/
inductive MemoryResult | pending | done | notDone
deriving DecidableEq, Repr

/-- The last-order memory of a signal (08:R144). -/
structure SignalMemory where
  kind : ArgKind
  result : MemoryResult
deriving DecidableEq, Repr

/-- What the Channel Controller holds for one signal (08:R144). -/
structure Signal where
  memory : Option SignalMemory
  redWanted : Bool
  outstanding : List SignalKind
deriving DecidableEq, Repr

def Signal.reset : Signal := { memory := none, redWanted := false, outstanding := [] }

/-- An entry of the vessel queue (08:R146). -/
structure Vessel where
  tag : Nat
  direction : Direction
  arrival : Time
  cleared : Bool
deriving DecidableEq, Repr

structure Channel where
  record : Option ChannelRecord
  state : ChannelState
  vessels : List Vessel
  north : Signal
  south : Signal
  closing : Bool
  changeoverPending : Bool
  greenExpired : Bool
  greenTimer : Option Time
  changeoverTimer : Option Time
  retryTimer : Option Time
  phaseSeen : Phase
  ignoredCalls : Nat
  badDirections : Nat
  unexpectedPassages : Nat
  /-- Condition change sets handed over and not yet taken (log 2). -/
  sets : List ChangeSet
  /-- Stand-down entries handed over and not yet taken (log 2). -/
  standdowns : Nat
deriving DecidableEq, Repr

def Channel.signal (c : Channel) : Direction → Signal
  | .north => c.north
  | .south => c.south

/-- The Channel Controller after a power-on reset (08:R155). -/
def Channel.reset : Channel where
  record := none
  state := .closed
  vessels := []
  north := Signal.reset
  south := Signal.reset
  closing := false
  changeoverPending := false
  greenExpired := false
  greenTimer := none
  changeoverTimer := none
  retryTimer := none
  phaseSeen := .inactive
  ignoredCalls := 0
  badDirections := 0
  unexpectedPassages := 0
  sets := []
  standdowns := 0

/-! ### The Duty Counter Unit -/

/-- A duty counter (09:R156). -/
structure DutyCounter where
  record : Option DutyRecord
  value : Nat
  overflow : Bool
  reached : Bool
  levelHeld : Bool
deriving DecidableEq, Repr

def DutyCounter.reset : DutyCounter :=
  { record := none, value := 0, overflow := false, reached := false, levelHeld := false }

structure Duty where
  counters : Vector DutyCounter 8
  frozen : Bool
  bands : Vector Nat 4
  residency : Vector (BitVec 48) 14
  /-- The standing of each condition as the unit follows it (09:R158). -/
  standing : Vector Bool 64
  /-- The phase last handed to the unit (09:R167). -/
  phase : Phase
  /-- The combined occupancy last reported (09:R158). -/
  occupancy : Nat
  /-- Condition change sets handed over and not yet taken (log 2). -/
  sets : List ChangeSet
deriving DecidableEq, Repr

/-- The Duty Counter Unit after a power-on reset (09:R168). -/
def Duty.reset : Duty where
  counters := Vector.replicate 8 DutyCounter.reset
  frozen := false
  bands := Vector.replicate 4 0
  residency := Vector.replicate 14 0
  standing := Vector.replicate 64 false
  phase := .inactive
  occupancy := 0
  sets := []

/-! ### The Mode and Chain Unit -/

/-- The outcome of the last validation (10:R169). -/
inductive Validation
  | none
  | pass
  | failed (check : Nat)
deriving DecidableEq, Repr

/-- A hardwired input behind its filter: `active` is asserted or on, the raw line being low (10:R170). -/
structure FilteredLine where
  raw : LineLevel
  active : Bool
  /-- When the present 20 ms began; absent while the raw line agrees with the filtered input. -/
  since : Option Time
deriving DecidableEq, Repr

/-- Both raw lines high: released and off (log 17). -/
def FilteredLine.reset : FilteredLine := { raw := .high, active := false, since := none }

def CauseSet.empty : CauseSet where
  estopLine := false
  consoleBreak := false
  skewTrip := false
  stopFailed := false
  fieldContention := false
  channelSignal := false

structure ModeChain where
  mode : Mode
  maintenancePending : Bool
  causes : CauseSet
  firstCause : Option Cause
  limits : Option LimitRecord
  locked : Bool
  validation : Validation
  estop : FilteredLine
  key : FilteredLine
  chain : Bool
deriving DecidableEq, Repr

/-- The Mode and Chain Unit after a power-on reset (10:R182). -/
def ModeChain.reset : ModeChain where
  mode := .init
  maintenancePending := false
  causes := CauseSet.empty
  firstCause := none
  limits := none
  locked := false
  validation := .none
  estop := FilteredLine.reset
  key := FilteredLine.reset
  chain := false

end Sys2Proof.Machine
end

