-- ==== Sys2Proof/Machine/State.lean ====
section
/-!
DEFINITION. The state of the controller: the eleven blocks, controller time, the supply, and the queue of
commands that wait. Plain data throughout.
-/

namespace Sys2Proof.Machine

/-- Whether the controller runs (10:R180, R181). -/
inductive Power
  /-- Powered and out of reset. -/
  | running
  /-- Held in reset by the RESET line; controller time is held at 0. -/
  | heldInReset
  /-- The supply is out of its range. -/
  | unpowered
deriving DecidableEq, Repr

structure State where
  power : Power
  now : Time
  console : Console
  field : Field
  points : PointImage
  cond : Conditions
  gate : Gate
  span : Span
  seq : Sequencer
  chan : Channel
  duty : Duty
  unit : ModeChain
  /-- The commands that wait, first in first out (the model's own, log 4). -/
  pending : List Instr
deriving DecidableEq, Repr

/-- Nothing in the manual stops the machine: line faults, refused requests and stand-down are events with effects on
the state (INVENTORY, Faults). So there is no fault, which is safe. -/
inductive Fault
deriving DecidableEq, Repr

/-- The refusals. -/
inductive Refusal
  /-- Raised by the dispatch alone, for a row with no meaning yet; none is left. Safe: the machine stops. -/
  | notModelled (mnemonic : String)
deriving DecidableEq, Repr

/-- The machine right after a power-on reset with both hardwired inputs at rest (each block's reset rule, 10:R182;
the levels of the raw lines are log 17). No command waits. -/
def State.reset : State where
  power := .running
  now := 0
  console := Console.reset
  field := Field.reset
  points := PointImage.reset
  cond := Conditions.reset
  gate := Gate.reset
  span := Span.reset
  seq := Sequencer.reset
  chan := Channel.reset
  duty := Duty.reset
  unit := ModeChain.reset
  pending := []

end Sys2Proof.Machine
end

