-- ==== Sys2Proof/Machine/Flags.lean ====
section
/-!
DEFINITION. Counts, flags and sets: the saturating counts, the flag byte of an ORDER RESULT, the cause set and its
mask.
-/

namespace Sys2Proof.Machine

/-- One more, saturating at `top`. -/
def bump (top n : Nat) : Nat := min (n + 1) top

/-- One more link count or call count (01:R17, 08:R144). -/
def countUp (n : Nat) : Nat := bump Config.countMax n

def LinkCounts.addCheck (c : LinkCounts) : LinkCounts := { c with check := countUp c.check }
def LinkCounts.addGap (c : LinkCounts) : LinkCounts := { c with gap := countUp c.gap }
def LinkCounts.addTruncated (c : LinkCounts) : LinkCounts := { c with truncated := countUp c.truncated }
def LinkCounts.addLength (c : LinkCounts) : LinkCounts := { c with length := countUp c.length }

/-- A flag as a number: 1 set, 0 clear. -/
def bit (b : Bool) : Nat := if b then 1 else 0

/-- The flags byte of an ORDER RESULT: bit 0 transmitted, bit 1 clamped, bit 2 interim (01, section 1.10). -/
def resultFlags (transmitted clamped interim : Bool) : Nat := bit transmitted + 2 * bit clamped + 4 * bit interim

/-- Whether a cause is latched. -/
def CauseSet.has (c : CauseSet) : Cause → Bool
  | .estopLine => c.estopLine
  | .consoleBreak => c.consoleBreak
  | .skewTrip => c.skewTrip
  | .stopFailed => c.stopFailed
  | .fieldContention => c.fieldContention
  | .channelSignal => c.channelSignal

/-- The set with a cause joined (10:R176). -/
def CauseSet.join (c : CauseSet) : Cause → CauseSet
  | .estopLine => { c with estopLine := true }
  | .consoleBreak => { c with consoleBreak := true }
  | .skewTrip => { c with skewTrip := true }
  | .stopFailed => { c with stopFailed := true }
  | .fieldContention => { c with fieldContention := true }
  | .channelSignal => { c with channelSignal := true }

/-- No cause is latched. -/
def CauseSet.isEmpty (c : CauseSet) : Bool :=
  !(c.estopLine || c.consoleBreak || c.skewTrip || c.stopFailed || c.fieldContention || c.channelSignal)

/-- A cause mask: bit c − 1 for each cause of code c (01, section 1.10). -/
def CauseSet.mask (c : CauseSet) : Nat :=
  bit c.estopLine + 2 * bit c.consoleBreak + 4 * bit c.skewTrip + 8 * bit c.stopFailed + 16 * bit c.fieldContention
    + 32 * bit c.channelSignal

end Sys2Proof.Machine
end

