-- ==== Sys2Proof/Machine/Ops.lean ====
section
/-!
DEFINITION. The operations every block uses: replacing one block of the state, controller time, rounding, the
frames of the links and their check, and the console egress queue.
-/

namespace Sys2Proof.Machine

/-! ### One block of the state replaced -/

def State.setPower (s : State) (x : Power) : State := { s with power := x }
def State.setNow (s : State) (x : Time) : State := { s with now := x }
def State.setConsole (s : State) (x : Console) : State := { s with console := x }
def State.setField (s : State) (x : Field) : State := { s with field := x }
def State.setPoints (s : State) (x : PointImage) : State := { s with points := x }
def State.setCond (s : State) (x : Conditions) : State := { s with cond := x }
def State.setGate (s : State) (x : Gate) : State := { s with gate := x }
def State.setSpan (s : State) (x : Span) : State := { s with span := x }
def State.setSeq (s : State) (x : Sequencer) : State := { s with seq := x }
def State.setChan (s : State) (x : Channel) : State := { s with chan := x }
def State.setDuty (s : State) (x : Duty) : State := { s with duty := x }
def State.setUnit (s : State) (x : ModeChain) : State := { s with unit := x }
def State.setPending (s : State) (x : List Instr) : State := { s with pending := x }

/-- An event of a running controller: while it is held in reset or unpowered nothing is taken (10:R181, log 21). -/
def State.whenRunning (s : State) (f : State → State) : State :=
  if s.power = .running then f s else s

/-! ### Controller time -/

/-- Milliseconds since `t`, modulo 2^32. -/
def elapsed (now t : Time) : Nat := (now - t).toNat

/-- The moment `ms` milliseconds from now. -/
def after (now : Time) (ms : Nat) : Time := now + BitVec.ofNat 32 ms

/-- Controller time has reached `e`: it stands at `e`, or less than 2^31 ms past it (log 3). -/
def due (now e : Time) : Bool := elapsed now e < 2147483648

/-- A timer that runs has reached its expiry. -/
def timerDue (now : Time) : Option Time → Bool
  | some e => due now e
  | none => false

/-! ### Rounding (00_scope, Conventions) -/

/-- `n / d` rounded to the nearest integer, ties away from zero. -/
def roundDiv (n : Int) (d : Nat) : Int :=
  let q : Int := ((2 * n.natAbs + d) / (2 * d) : Nat)
  if n < 0 then -q else q

/-- `n / d` truncated toward zero. -/
def truncDiv (n : Int) (d : Nat) : Int := n.tdiv d

/-- A value above `hi` becomes `hi`, one below `lo` becomes `lo`. -/
def clampTo (lo hi v : Int) : Int := if v < lo then lo else if hi < v then hi else v

/-! ### Bytes, high byte first (00_scope, Conventions) -/

def byte (n : Nat) : Byte := BitVec.ofNat 8 n
def be16 (n : Nat) : List Byte := [byte (n / 256), byte n]
def be24 (n : Nat) : List Byte := [byte (n / 65536), byte (n / 256), byte n]
def be32 (n : Nat) : List Byte := [byte (n / 16777216), byte (n / 65536), byte (n / 256), byte n]
def be48 (n : Nat) : List Byte := be16 (n / 4294967296) ++ be32 n

/-- A signed quantity in two's complement (01, section 1.10). -/
def beS16 (v : Int) : List Byte := be16 (BitVec.ofInt 16 v).toNat
def beS32 (v : Int) : List Byte := be32 (BitVec.ofInt 32 v).toNat

/-! ### Frames and the check (01, section 1.2) -/

/-- One step of the check register for one bit, generator x^16 + x^12 + x^5 + 1 (01:R3). -/
def checkBit (r : BitVec 16) : BitVec 16 := if r.msb then (r <<< 1) ^^^ 0x1021#16 else r <<< 1

/-- One byte into the check register, most significant bit first (01:R3). -/
def checkByte (r : BitVec 16) (b : Byte) : BitVec 16 :=
  let r0 := r ^^^ (b.zeroExtend 16 <<< 8)
  checkBit (checkBit (checkBit (checkBit (checkBit (checkBit (checkBit (checkBit r0)))))))

/-- The check over a run of bytes, the register starting at all ones (01:R3). -/
def frameCheck (bytes : List Byte) : BitVec 16 := bytes.foldl checkByte 0xFFFF#16

/-- The bytes of a frame from the kind to the last payload byte. -/
def Frame.body (f : Frame) : List Byte := f.kind :: f.node :: f.tag :: byte f.payload.length :: f.payload

/-- The bytes of a frame on the line: the body and the check, high byte first (01:R2, R3). -/
def Frame.wire (f : Frame) : List Byte := f.body ++ be16 (frameCheck f.body).toNat

/-- The eleven bit times of a character, in the order sent, `true` being the mark state: the start bit, the data bits
with the least significant first, the mark bit, the stop bit (01:R1). -/
def Character.line (c : Character) : List Bool :=
  false :: (List.range 8).map c.data.getLsbD ++ [c.mark, true]

/-- A run of bytes as the characters of one frame: the first is marked, and no other (01:R1, R2). -/
def charactersOf : List Byte → List Character
  | [] => []
  | kind :: rest => { data := kind, mark := true } :: rest.map fun b => { data := b, mark := false }

/-- The characters of a frame, as the controller sends them (01:R2). -/
def Frame.characters (f : Frame) : List Character := charactersOf f.wire

/-- The bit times of a frame: each character starts as soon as the stop bit of the one before it has been sent (01:R2). -/
def Frame.line (f : Frame) : List Bool := f.characters.flatMap Character.line

/-- The kinds of frame (01, section 1.10). -/
def kindConsoleOrder : Byte := 1
def kindRequest : Byte := 2
def kindMotionHold : Byte := 3
def kindOrderResult : Byte := 17
def kindResponse : Byte := 18
def kindConditionReport : Byte := 19
def kindPhaseReport : Byte := 20
def kindAlert : Byte := 21
def kindPoll : Byte := 33
def kindFieldOrder : Byte := 34
def kindReply : Byte := 49
def kindAck : Byte := 50
def kindNak : Byte := 51

/-! ### The console egress queue (01, section 1.7) -/

/-- ORDER RESULT and MGMT RESPONSE: admitted whatever the occupancy (01:R15). -/
def Console.place (c : Console) (f : Frame) : Console := { c with egress := c.egress ++ [f] }

/-- CONDITION REPORT, PHASE REPORT and ALERT: admitted below the headroom, else dropped and counted; the sequence
number is used either way (01:R15, R16). -/
def Console.offer (c : Console) (kind : Byte) (payload : List Byte) : Console :=
  if c.egress.length < Config.reportHeadroom then
    { c with
      egress := c.egress ++ [{ kind := kind, node := 0, tag := c.reportSeq, payload := payload }]
      reportSeq := c.reportSeq + 1 }
  else
    { c with reportsLost := countUp c.reportsLost, reportSeq := c.reportSeq + 1 }

/-- An ALERT is offered (11, section 11.6). -/
def Console.alert (c : Console) (a : Alert) : Console := c.offer kindAlert (byte a.code :: be16 a.detail)

def State.alert (s : State) (a : Alert) : State := s.setConsole (s.console.alert a)

/-- An ORDER RESULT is placed (01, section 1.10). -/
def State.orderResult (s : State) (tag : Byte) (node cls : Nat) (arg : Int) (code detail flags : Nat) : State :=
  s.setConsole (s.console.place
    { kind := kindOrderResult, node := byte node, tag := tag
      payload := byte cls :: beS16 arg ++ [byte code, byte detail, byte flags] })

end Sys2Proof.Machine
end

