-- ==== Sys2Proof/Machine/Duty.lean ====
section
/-!
DEFINITION. The Duty Counter Unit (09_duty_counters_and_residency): what its counters select, how they add,
reach their thresholds and freeze. Everything here is a function of the unit alone; `State.takeDuty` then offers the
alerts and raises the counter changes that result.
-/

namespace Sys2Proof.Machine

/-- The occurrence events with what they carry (09:R158). -/
inductive DutyEvent
  | orderOutcome (node : Nat) (result : Result)
  | nodeMiss (node : Nat)
  | linkFault (node : Nat)
  | pairMiss
  | trimSent (node : Nat)
  | motionStop (cause : MotionCause)
  | vesselPassage (d : Direction)
deriving DecidableEq, Repr

/-- A filter admits a number when it is ANY or that number (09:R158). -/
def filterAdmits (filter : Option Nat) (n : Nat) : Bool :=
  match filter with
  | none => true
  | some m => m == n

/-- A control record selects an occurrence (09:R158). -/
def DutyRecord.selects (r : DutyRecord) : DutyEvent → Bool
  | .orderOutcome node result =>
    r.event == .orderOutcome && filterAdmits r.filter node && r.mask.getLsbD result.code
  | .nodeMiss node => r.event == .nodeMiss && filterAdmits r.filter node
  | .linkFault node => r.event == .linkFault && filterAdmits r.filter node
  | .pairMiss => r.event == .pairMiss
  | .trimSent node => r.event == .trimSent && filterAdmits r.filter node
  | .motionStop cause => r.event == .motionStop && filterAdmits r.filter cause.code
  | .vesselPassage d => r.event == .vesselPassage && filterAdmits r.filter d.num

/-- The three level events (09:R158). -/
def DutyEventKind.isLevel : DutyEventKind → Bool
  | .conditionTrue => true
  | .phaseEntry => true
  | .queueOccupancy => true
  | .orderOutcome => false
  | .nodeMiss => false
  | .linkFault => false
  | .pairMiss => false
  | .trimSent => false
  | .motionStop => false
  | .vesselPassage => false

/-- The level of a level event as the unit follows it (09:R158, log 32). -/
def Duty.level (d : Duty) (r : DutyRecord) : Bool :=
  match r.event, r.filter with
  | .conditionTrue, some n => look d.standing n false
  | .phaseEntry, some p => d.phase.num == p
  | .queueOccupancy, _ => d.occupancy != 0
  | _, _ => false

/-- What the unit's handling of one event leaves: the unit, the alerts to offer, the counter changes to raise. -/
structure DutyOut where
  duty : Duty
  alerts : List Alert
  changes : List Nat

/-- The counter is stopped by the freeze state (09:R163). -/
def DutyCounter.stopped (frozen : Bool) (c : DutyCounter) : Bool :=
  match c.record with
  | some r => frozen && r.freezable
  | none => true

/-- The counter takes an addition: it has a record, is not frozen, and something is to be added (09:R161, R163). -/
def DutyCounter.takes (frozen : Bool) (c : DutyCounter) (amount : Nat) : Bool := amount != 0 && !c.stopped frozen

/-- An addition, saturating with the overflow flag (09:R161). -/
def DutyCounter.add (frozen : Bool) (c : DutyCounter) (amount : Nat) : DutyCounter :=
  if c.takes frozen amount then
    { c with
      value := min (c.value + amount) Config.counterMax
      overflow := c.overflow || Config.counterMax ≤ c.value + amount }
  else c

/-- The counter has a record, its reached flag is clear, and its value is at or above the threshold (09:R162). -/
def DutyCounter.reaches (c : DutyCounter) : Bool :=
  match c.record with
  | some r => !c.reached && r.threshold ≤ c.value
  | none => false

/-- The action of the control record, NONE where there is none. -/
def DutyCounter.action (c : DutyCounter) : DutyAction :=
  match c.record with
  | some r => r.action
  | none => .none

/-- The threshold test of one counter, with its action (09:R162). -/
def dutyReach (d : Duty) (k : Nat) : Duty × List Alert :=
  let c := look d.counters k DutyCounter.reset
  if c.reaches then
    let d := { d with counters := put d.counters k { c with reached := true } }
    match c.action with
    | .none => (d, [])
    | .report => (d, [.counterThreshold k])
    | .freeze => ({ d with frozen := true }, [.counterThreshold k])
  else (d, [])

/-- The threshold tests of several counters, in the order given (09:R162). -/
def dutyReachAll (d : Duty) : List Nat → Duty × List Alert
  | [] => (d, [])
  | k :: ks =>
    let (d, a) := dutyReach d k
    let (d, as) := dutyReachAll d ks
    (d, a ++ as)

/-- The counters 0 to 7 in ascending order. -/
def dutyNumbers : List Nat := List.range 8

/-- Every counter takes its addition, then the thresholds of those that took one are tested in ascending number
(09:R159, R162). That the counter changes of one event are raised, and so walked, in ascending number too is the model's
(log 34): 04:R67 lets either of two be walked first. -/
def Duty.addAll (d : Duty) (amount : DutyCounter → Nat) : DutyOut :=
  let took := dutyNumbers.filter fun k =>
    let c := look d.counters k DutyCounter.reset
    c.takes d.frozen (amount c)
  let counters := mapTable (fun _ c => c.add d.frozen (amount c)) d.counters
  let changes := dutyNumbers.filter fun k =>
    (look counters k DutyCounter.reset).value != (look d.counters k DutyCounter.reset).value
  let (d', alerts) := dutyReachAll { d with counters := counters } took
  { duty := d', alerts := alerts, changes := changes }

/-- What a counter in COUNT mode adds for an occurrence (09:R159). -/
def occurrenceAmount (e : DutyEvent) (c : DutyCounter) : Nat :=
  match c.record with
  | some r => if r.selects e && !r.time then 1 else 0
  | none => 0

/-- An occurrence event is taken (09:R159). -/
def Duty.occur (d : Duty) (e : DutyEvent) : DutyOut := d.addAll (occurrenceAmount e)

/-- What a counter in COUNT mode adds for an edge between the level held and the level as it now stands (09:R159). -/
def edgeAmount (d : Duty) (kind : DutyEventKind) (c : DutyCounter) : Nat :=
  match c.record with
  | some r =>
    if r.event == kind && !r.time then
      if r.invert then bit (c.levelHeld && !d.level r) else bit (!c.levelHeld && d.level r)
    else 0
  | none => 0

/-- The level held of a counter that selects this level event follows the level, frozen or not (09:R159, R163). -/
def followLevel (d : Duty) (kind : DutyEventKind) (c : DutyCounter) : DutyCounter :=
  match c.record with
  | some r => if r.event == kind then { c with levelHeld := d.level r } else c
  | none => c

/-- A reported change of a level: the edges are counted and the levels held set. `d` already follows the new level. -/
def Duty.follow (d : Duty) (kind : DutyEventKind) : DutyOut :=
  let o := d.addAll (edgeAmount d kind)
  { o with duty := { o.duty with counters := mapTable (fun _ c => followLevel d kind c) o.duty.counters } }

/-- The sequencer hands over a phase (09:R158). -/
def Duty.phaseTo (d : Duty) (p : Phase) : DutyOut := ({ d with phase := p } : Duty).follow .phaseEntry

/-- The gate reports the combined occupancy (05:R93). -/
def Duty.occupancyTo (d : Duty) (n : Nat) : DutyOut := ({ d with occupancy := n } : Duty).follow .queueOccupancy

/-- A condition change set is taken (09:R158, R159). -/
def Duty.takeSet (d : Duty) (set : ChangeSet) : DutyOut :=
  ({ d with standing := set.foldl (fun v x => put v x.1 x.2) d.standing } : Duty).follow .conditionTrue

/-- What a counter in TIME mode adds at an advance of controller time (09:R160). -/
def timeAmount (d : Duty) (c : DutyCounter) : Nat :=
  match c.record with
  | some r =>
    if r.time && r.event.isLevel then
      if r.invert then bit (!d.level r)
      else if r.event == .queueOccupancy then d.occupancy else bit (d.level r)
    else 0
  | none => 0

/-- The residency counter of the phase adds 1 (09:R167); past its 48 bits it holds a free value (log 9). -/
def countResidency (d : Duty) : Duty :=
  let n := d.phase.num
  let v := look d.residency n 0
  { d with residency := put d.residency n (if v = BitVec.allOnes 48 then Config.residencyOverflow n else v + 1) }

/-- Controller time advances by one millisecond (09:R160, R167). -/
def Duty.millisecond (d : Duty) : DutyOut := (countResidency d).addAll (timeAmount d)

/-- A speed-band event (09:R166). -/
def Duty.band (d : Duty) (n : Nat) : Duty :=
  if d.frozen then d else { d with bands := put d.bands n (bump Config.counterMax (look d.bands n 0)) }

/-- A control record is written or cleared (09:R157): the level held is set without an edge, then the threshold is
tested. Value and flags are kept, also under a freeze (log 14). -/
def Duty.control (d : Duty) (k : Nat) (r : Option DutyRecord) : DutyOut :=
  let c := look d.counters k DutyCounter.reset
  let held := match r with
    | some r => d.level r
    | none => c.levelHeld
  let (d, alerts) := dutyReach { d with counters := put d.counters k { c with record := r, levelHeld := held } } k
  { duty := d, alerts := alerts, changes := [k] }

/-- The counters named by a COUNTER CLEAR are zeroed with their flags, frozen or not; a threshold of 0 is reached again
at once (09:R164). Their counter changes are raised in ascending number (log 34). -/
def Duty.clear (d : Duty) (ks : List Nat) : DutyOut :=
  let counters := ks.foldl (fun v k =>
    put v k { look v k DutyCounter.reset with value := 0, overflow := false, reached := false }) d.counters
  let changes := ks.filter fun k => (look d.counters k DutyCounter.reset).value != 0
  let (d, alerts) := dutyReachAll { d with counters := counters } ks
  { duty := d, alerts := alerts, changes := changes }

/-- The outcome of the unit's handling reaches the rest: alerts to the egress queue, counter changes to the Condition
Evaluator, which walks them at its own event (09:R165, log 2), behind the point change of the event that raised them
(04:R67, log 34). -/
def State.takeDuty (s : State) (o : DutyOut) : State :=
  ((s.setDuty o.duty).setConsole (o.alerts.foldl Console.alert s.console)).setCond
    { s.cond with counterChanges := s.cond.counterChanges ++ o.changes }

/-- An occurrence is reported to the Duty Counter Unit. -/
def State.occur (s : State) (e : DutyEvent) : State := s.takeDuty (s.duty.occur e)

end Sys2Proof.Machine
end

