-- ==== Sys2Proof/Machine/Conditions.lean ====
section
/-!
DEFINITION. The Condition Evaluator (04_conditions): the truth of a term, the evaluation of a condition, the walk
and what it hands out.
-/

namespace Sys2Proof.Machine

/-- The comparison of a POINT TEST with the value of a FRESH point (04:R59). -/
def PointOp.holds (v : Int) : PointOp → Bool
  | .eq a => v == a
  | .ne a => v != a
  | .lt a => v < a
  | .ge a => a ≤ v
  | .inRange a b => a ≤ v && v ≤ b
  | .outRange a b => v < a || b < v
  | .inSet mask => 0 ≤ v && v ≤ 15 && mask.getLsbD v.toNat

/-- A COUNTER BELOW term (04:R61). -/
def belowThreshold (c : DutyCounter) : Bool :=
  match c.record with
  | some r => c.value < r.threshold
  | none => false

/-- Condition j reads as true: its state is TRUE. -/
def standsTrue (states : Vector CondState 64) (j : Nat) : Bool := look states j .isFalse == .isTrue

/-- The truth of one term (04:R59, R60, R61). -/
def Term.holds (points : Vector Point 128) (counters : Vector DutyCounter 8) (states : Vector CondState 64) : Term → Bool
  | .point n op =>
    let p := look points n Point.first
    p.freshness == .fresh && op.holds p.value
  | .condition j => standsTrue states j
  | .counterBelow k => belowThreshold (look counters k DutyCounter.reset)

/-- The term reads one of the counters given. -/
def Term.readsCounter (ks : List Nat) : Term → Bool
  | .counterBelow k => ks.contains k
  | .point _ _ => false
  | .condition _ => false

/-- The entry is present, holds at least one term, and every term is true (04:R62). A COUNTER BELOW term on one of the
counters of `unseen` is still true, whatever the counter now holds. -/
def allTermsTrue (points : Vector Point 128) (counters : Vector DutyCounter 8) (states : Vector CondState 64)
    (unseen : List Nat) : Option CondEntry → Bool
  | none => false
  | some e => !e.terms.isEmpty && e.terms.all fun t => t.holds points counters states || t.readsCounter unseen

/-- The hold time of an entry. -/
def holdOf : Option CondEntry → Nat
  | none => 0
  | some e => e.hold

/-- The proving time of a condition has ended (04:R63). -/
def provingOver (now : Time) (hold : Nat) : CondState → Bool
  | .proving start => hold ≤ elapsed now start
  | .isFalse => false
  | .isTrue => false

/-- One evaluation (04:R62). `expire` marks the event in which proving times end (04:R63). -/
def evaluate (now : Time) (expire : Bool) (hold : Nat) (all : Bool) (st : CondState) : CondState :=
  if all then
    match st with
    | .isFalse => if hold = 0 then .isTrue else .proving now
    | .proving start => if expire && provingOver now hold st then .isTrue else .proving start
    | .isTrue => .isTrue
  else .isFalse

/-- The conditions an entry references. -/
def references : Option CondEntry → List Nat
  | none => []
  | some e => e.terms.filterMap fun t =>
    match t with
    | .condition j => some j
    | .point _ _ => none
    | .counterBelow _ => none

/-- The standing of condition j differs between the base of a walk and now. -/
def changedStanding (base states : Vector CondState 64) (j : Nat) : Bool := standsTrue base j != standsTrue states j

/-- The counters whose change has not reached a condition in this state: where proving times end before a counter change
that waits is walked, its COUNTER BELOW terms are as the last walk found them, so true in PROVING and in TRUE (04:R67,
log 37). -/
def unseenChanges (waiting : List Nat) (expire : Bool) (st : CondState) : List Nat :=
  if expire && st != .isFalse then waiting else []

/-- The walk of 04:R66 over the condition numbers given, in order: a condition is evaluated when the event marks it, or
when a condition it references has made a condition change in this walk. -/
def walkStates (s : State) (base : Vector CondState 64) (marks : List Nat) (expire : Bool) :
    List Nat → Vector CondState 64 → Vector CondState 64
  | [], states => states
  | n :: ns, states =>
    let entry := look s.cond.table n none
    let st := look states n .isFalse
    let states :=
      if marks.contains n || (references entry).any (changedStanding base states) then
        put states n (evaluate s.now expire (holdOf entry)
          (allTermsTrue s.points.points s.duty.counters states (unseenChanges s.cond.counterChanges expire st) entry) st)
      else states
    walkStates s base marks expire ns states

/-- The condition numbers 0 to 63 in ascending order. -/
def conditionNumbers : List Nat := List.range 64

/-- The condition change set of a walk (04:R66). -/
def changeSet (base states : Vector CondState 64) : ChangeSet :=
  conditionNumbers.filterMap fun n =>
    if changedStanding base states n then some (n, standsTrue states n) else none

/-- The CONDITION REPORT of one condition change, when its entry asks for it (04:R69). -/
def Console.conditionReport (table : Vector (Option CondEntry) 64) (c : Console) (x : Nat × Bool) : Console :=
  match look table x.1 none with
  | some e => if e.report then c.offer kindConditionReport [byte x.1, if x.2 then 2 else 0] else c
  | none => c

/-- The CONDITION REPORTs of a change set, in ascending number (04:R69). -/
def offerConditionReports (table : Vector (Option CondEntry) 64) (c : Console) (set : ChangeSet) : Console :=
  set.foldl (Console.conditionReport table) c

/-- One walk. `base` holds the states before the event; the change set goes to the four blocks (04:R68), each of which
takes it at its own event (log 2). -/
def State.walk (s : State) (base : Vector CondState 64) (marks : List Nat) (expire : Bool) : State :=
  let states := walkStates s base marks expire conditionNumbers s.cond.states
  let set := changeSet base states
  let handed := if set.isEmpty then [] else [set]
  ((((((s.setCond { s.cond with states := states }).setConsole
      (offerConditionReports s.cond.table s.console set)).setGate
      { s.gate with sets := s.gate.sets + handed.length }).setSeq
      { s.seq with sets := s.seq.sets + handed.length }).setChan
      { s.chan with sets := s.chan.sets ++ handed }).setDuty
      { s.duty with sets := s.duty.sets ++ handed })

/-- The term tests one of the points given. -/
def Term.testsPoint (ns : List Nat) : Term → Bool
  | .point n _ => ns.contains n
  | .condition _ => false
  | .counterBelow _ => false

/-- The conditions whose entry holds a term of the kind asked for (04:R65). -/
def markedBy (table : Vector (Option CondEntry) 64) (f : Term → Bool) : List Nat :=
  conditionNumbers.filter fun n =>
    match look table n none with
    | some e => e.terms.any f
    | none => false

/-- The walk of a point change (04:R65). -/
def State.walkPoints (s : State) (ns : List Nat) : State :=
  s.walk s.cond.states (markedBy s.cond.table (Term.testsPoint ns)) false

/-- The walk of a counter change (04:R65). -/
def State.walkCounters (s : State) (ks : List Nat) : State :=
  s.walk s.cond.states (markedBy s.cond.table (Term.readsCounter ks)) false

/-- The conditions in PROVING whose proving time has ended. -/
def provenNow (s : State) : List Nat :=
  conditionNumbers.filter fun n => provingOver s.now (holdOf (look s.cond.table n none)) (look s.cond.states n .isFalse)

/-- PROVING_END (04:R63): every proving time that has ended makes its condition TRUE, in one walk; a counter change that
waits is walked after it, and may take the condition back (04:R67). -/
def execProvingEnd (s : State) : Host.Outcome State Fault Refusal :=
  .next (s.whenRunning fun s => s.walk s.cond.states (provenNow s) true)

/-- COUNTER_CHANGE (09:R165): the oldest counter change raised and not yet walked is walked. -/
def execCounterChange (s : State) : Host.Outcome State Fault Refusal :=
  .next (s.whenRunning fun s =>
    match s.cond.counterChanges with
    | k :: ks => (s.setCond { s.cond with counterChanges := ks }).walkCounters [k]
    | [] => s)

/-- CONDITION_TRUE_EVENT (09:R159): the Duty Counter Unit takes the oldest condition change set handed to it. -/
def execConditionTrueEvent (s : State) : Host.Outcome State Fault Refusal :=
  .next (s.whenRunning fun s =>
    match s.duty.sets with
    | set :: sets => s.takeDuty (({ s.duty with sets := sets } : Duty).takeSet set)
    | [] => s)

/-- MILLISECOND_ADVANCE (09:R160, R167): controller time advances, the TIME counters and the residency counter count. A
timer that ends at the moment of the advance is taken after it, so the advance counts the levels as they stood before
(log 40). -/
def execMillisecondAdvance (s : State) : Host.Outcome State Fault Refusal :=
  .next (s.whenRunning fun s => (s.setNow (s.now + 1)).takeDuty s.duty.millisecond)

/-- A condition entry is written or cleared (04:R71): the entry is replaced, the state becomes FALSE, and the condition
is walked; its change is judged from the state before the write. -/
def State.writeCondition (s : State) (n : Nat) (e : Option CondEntry) : State :=
  (s.setCond { s.cond with table := put s.cond.table n e, states := put s.cond.states n .isFalse }).walk
    s.cond.states [n] false

/-- The reset evaluation (04:R72): every present condition is walked from FALSE. -/
def State.resetEvaluation (s : State) : State :=
  s.walk s.cond.states (conditionNumbers.filter fun n => (look s.cond.table n none).isSome) false

end Sys2Proof.Machine
end

