-- ==== Sys2Proof/Machine/Points.lean ====
section
/-!
DEFINITION. The Point Image (03_the_point_image): readings and misses of one point, point changes, internal
writes, and the freshness of the span measurement points.
-/

namespace Sys2Proof.Machine

/-! ### One point -/

/-- The reading's bytes lie inside the reply (03:R44). -/
def PointEntry.inside (e : PointEntry) (payload : List Byte) : Bool := e.offset + e.width.bytes ≤ payload.length

/-- Byte i of a payload as a number. -/
def u8 (b : List Byte) (i : Nat) : Nat := (b[i]?.getD 0).toNat
def u16 (b : List Byte) (i : Nat) : Nat := u8 b i * 256 + u8 b (i + 1)
def u24 (b : List Byte) (i : Nat) : Nat := u8 b i * 65536 + u16 b (i + 1)
def u32 (b : List Byte) (i : Nat) : Nat := u16 b i * 65536 + u16 b (i + 2)
/-- Two's complement. -/
def s16 (b : List Byte) (i : Nat) : Int := (BitVec.ofNat 16 (u16 b i)).toInt
def s32 (b : List Byte) (i : Nat) : Int := (BitVec.ofNat 32 (u32 b i)).toInt

/-- The bit of a byte, inverted if the entry says so (03:R45). -/
def readBit (b : Byte) (index : Nat) (invert : Bool) : Int := if b.getLsbD index != invert then 1 else 0

/-- The value of a reading (03:R45). -/
def PointEntry.reading (e : PointEntry) (payload : List Byte) : Int :=
  match e.width with
  | .bit => readBit (payload[e.offset]?.getD 0) e.bitIndex e.invert
  | .u8 => u8 payload e.offset
  | .u16 => u16 payload e.offset
  | .s16 => s16 payload e.offset
  | .u24 => u24 payload e.offset
  | .call => u16 payload e.offset

/-- A numeric point takes every reading at once (03:R46). -/
def Point.takeNumeric (p : Point) (v : Int) (t : Time) : Point :=
  { p with value := v, freshness := .fresh, age := 0, run := none, received := some t }

/-- The debounce run after a reading of x (03:R47). -/
def extendRun (run : Option Run) (x : Int) : Run :=
  match run with
  | some r => if r.candidate = x then { r with count := r.count + 1 } else { candidate := x, count := 1 }
  | none => { candidate := x, count := 1 }

/-- A binary point applies its debounce (03:R47). -/
def Point.takeBinary (p : Point) (debounce : Nat) (x : Int) (t : Time) : Point :=
  let p := { p with age := 0, received := some t }
  if p.freshness = .fresh ∧ x = p.value then { p with run := none }
  else
    let r := extendRun p.run x
    if debounce + 1 ≤ r.count then { p with value := x, freshness := .fresh, run := none }
    else { p with run := some r }

/-- A point takes a reading through its entry (03:R45 to R47). -/
def Point.take (p : Point) (e : PointEntry) (payload : List Byte) (t : Time) : Point :=
  match e.width with
  | .bit => p.takeBinary e.debounce (e.reading payload) t
  | .call => { p.takeNumeric (e.reading payload) t with direction := u8 payload (e.offset + 2) }
  | .u8 => p.takeNumeric (e.reading payload) t
  | .u16 => p.takeNumeric (e.reading payload) t
  | .s16 => p.takeNumeric (e.reading payload) t
  | .u24 => p.takeNumeric (e.reading payload) t

/-- A point misses (03:R48); a FRESH point whose age reaches its stale limit becomes STALE (03:R49). -/
def Point.miss (p : Point) (staleLimit : Nat) : Point :=
  let age := if p.freshness = .never then p.age else bump 15 p.age
  { p with
    run := none
    age := age
    freshness := if p.freshness = .fresh ∧ staleLimit ≤ age then .stale else p.freshness }

/-! ### Point changes -/

/-- The point's value or freshness differs (03:R50). -/
def pointChanged (old new : Point) : Bool := old.value != new.value || old.freshness != new.freshness

/-- Point n becomes p; a change of value or freshness joins the point change being gathered (03:R50). -/
def PointImage.set (i : PointImage) (n : Nat) (p : Point) : PointImage :=
  { i with
    points := put i.points n p
    gather := i.gather.map fun ns => if pointChanged (look i.points n Point.first) p then ns ++ [n] else ns }

def State.point (s : State) (n : Nat) : Point := look s.points.points n Point.first

def State.setPoint (s : State) (n : Nat) (p : Point) : State := s.setPoints (s.points.set n p)

/-- The gathered point change reaches the Condition Evaluator (03:R50, 04:R65). It is walked in the event that made it, and
so before a counter change which that event has raised, where 04:R67 lets either be first: the model's order (log 34). -/
def State.raisePoints (s : State) : State :=
  match s.points.gather with
  | some (n :: ns) => (s.setPoints { s.points with gather := none }).walkPoints (n :: ns)
  | some [] => s.setPoints { s.points with gather := none }
  | none => s

/-- One event of the Point Image: every change that `f` makes is raised as one point change at its end. Inside an event
already being gathered, `f` joins that event (03:R50, R54, log 7). -/
def State.pointEvent (s : State) (f : State → State) : State :=
  match s.points.gather with
  | some _ => f s
  | none => (f (s.setPoints { s.points with gather := some [] })).raisePoints

/-- An owner writes one of the points 117 to 127 (03:R53). -/
def State.writePoint (s : State) (n : Nat) (v : Int) : State :=
  s.pointEvent fun s => s.setPoint n { s.point n with value := v }

/-! ### The span measurement points -/

/-- The encoder point of a tower is FRESH. -/
def State.encoderFresh (s : State) (r : SpanRecord) (t : Tower) : Bool :=
  (s.point (r.tower t).encoder).freshness == .fresh

/-- The freshness that points 112 to 116 share (03:R55). -/
def State.spanFreshness (s : State) : Freshness :=
  if !s.points.firstPair then .never
  else if s.points.pairLoss then .stale
  else match s.span.record with
    | none => .stale
    | some r => if s.encoderFresh r .a && s.encoderFresh r .b then .fresh else .stale

/-- Points 112 to 116 are settled (03:R55). -/
def State.settleSpanPoints (s : State) : State :=
  [112, 113, 114, 115, 116].foldl
    (fun s n => s.setPoint n { s.point n with freshness := s.spanFreshness }) s

/-- A height write (03:R54): taken only once the first pair has been formed. -/
def State.heightWrite (s : State) (t : Tower) (h : Int) : State :=
  s.pointEvent fun s =>
    let n := match t with
      | .a => 112
      | .b => 113
    (if s.points.firstPair then s.setPoint n { s.point n with value := h } else s).settleSpanPoints

/-- A pair write (03:R54). -/
def State.pairWrite (s : State) (hA hB skew mean speed : Int) : State :=
  s.pointEvent fun s =>
    let s := [(112, hA), (113, hB), (114, skew), (115, mean), (116, speed)].foldl
      (fun s (x : Nat × Int) => s.setPoint x.1 { s.point x.1 with value := x.2 }) s
    (s.setPoints { s.points with firstPair := true, pairLoss := false }).settleSpanPoints

/-- A pair loss write (03:R54). -/
def State.pairLossWrite (s : State) : State :=
  s.pointEvent fun s => (s.setPoints { s.points with pairLoss := true }).settleSpanPoints

end Sys2Proof.Machine
end

