-- ==== Sys2Proof/Machine/StandDown.lean ====
section
/-!
DEFINITION. Stand-down entry (10, section 10.6): the latching of a cause, and the Span Supervisor's setters that it
needs. The Span Supervisor, the Mode and Chain Unit and the Field Engine take the entry in the event that latched the
cause; the other three blocks take it at their own events (log 2).
-/

namespace Sys2Proof.Machine

/-- The motion state, mirrored by point 119 (06:R97). -/
def State.setMotion (s : State) (m : MotionState) : State :=
  (s.setSpan { s.span with motion := m }).writePoint 119 m.num

/-- The correction mode, mirrored by point 118 (06:R110). -/
def State.setCorrection (s : State) (c : Correction) : State :=
  (s.setSpan { s.span with correction := c }).writePoint 118 c.num

/-- The level indicator: a change is counted and written to point 117 (06:R109). -/
def State.setLevel (s : State) (l : Level) : State :=
  if s.span.level = l then s
  else (s.setSpan { s.span with level := l, levelChanges := bump 255 s.span.levelChanges }).writePoint 117 l.num

/-- The level run returns to 0 and the indicator to NOT_LEVEL (06:R105, R106, R109). -/
def State.unlevel (s : State) : State := (s.setSpan { s.span with levelRun := 0 }).setLevel .notLevel

/-- What the Span Supervisor does at a stand-down entry and at the entry to INIT, but for the trim slots (06:R120). -/
def State.spanStandDown (s : State) : State :=
  (s.setSpan
    { s.span with
      stopKind := none
      startWindow := none
      stopTimer := none
      overspeedRun := 0
      standstillRun := 0
      towerA := { s.span.towerA with trimLoss := 0 }
      towerB := { s.span.towerB with trimLoss := 0 } }).setMotion .stopped

/-- The CHAIN output: energised exactly in MAINTENANCE and SERVICE with the cause set empty (10:R180). -/
def ModeChain.settleChain (u : ModeChain) : ModeChain := { u with chain := u.mode != .init && u.causes.isEmpty }

/-- The stand-down entry is handed to the three blocks that take it at their own events (10:R177, log 2). -/
def State.handStandDown (s : State) : State :=
  ((s.setGate { s.gate with standdowns := s.gate.standdowns + 1 }).setSeq
    { s.seq with standdowns := s.seq.standdowns + 1 }).setChan
    { s.chan with standdowns := s.chan.standdowns + 1 }

/-- The stand-down entry with its first cause (10:R177); the CHAIN output has been settled with the cause set. -/
def State.standDownEntry (s : State) (c : Cause) : State :=
  let s := s.setUnit { s.unit with firstCause := some c }
  let s := s.writePoint 124 1
  let s := s.setField { s.field with allStop := true }
  let s := s.alert (.standdown c)
  let s := s.spanStandDown
  s.handStandDown

/-- A cause is reported to the Mode and Chain Unit (10:R176). -/
def State.latchCause (s : State) (c : Cause) : State :=
  if s.unit.causes.has c then s
  else
    let joined := s.setUnit ({ s.unit with causes := s.unit.causes.join c } : ModeChain).settleChain
    if s.unit.causes.isEmpty then joined.standDownEntry c else joined

end Sys2Proof.Machine
end

