-- ==== Sys2Proof/Machine/Gate.lean ====
section
/-!
DEFINITION. The Order Gate (05_the_order_gate): lookup, the seven checks, the three queues, release, expiry and the
re-check at transmission. The issue of an order's final result to its originator stands in Results.lean.
-/

namespace Sys2Proof.Machine

/-! ### Service of the ingress queue (01:R14) -/

/-- The head of the ingress queue is served, when service may start and the head is of the kind wanted (01:R14). While
an accepted RESTART waits for its response to be sent, no frame is served (10:R181). -/
def State.serve (s : State) (wanted : Frame → Bool) (f : Frame → State → State) : State :=
  match s.console.ingress with
  | [] => s
  | fr :: rest =>
    if s.console.restart = .none ∧ s.console.egress.length < Config.serviceBelow ∧ wanted fr = true then
      f fr (s.setConsole { s.console with ingress := rest })
    else s

/-! ### Lookup (05:R75) -/

/-- A permit entry governs a node and a class; ANY stands for nodes 1 to 100 (05:R75). -/
def Permit.governs (p : Permit) (node cls : Nat) : Bool :=
  p.cls == cls &&
    match p.node with
    | none => 1 ≤ node && node ≤ 100
    | some m => m == node

/-- The permit numbers 0 to 95 in ascending order. -/
def permitNumbers : List Nat := List.range 96

/-- The matching entry with its number: the first present entry that governs the order (05:R75). -/
def matchingEntry (permits : Vector (Option Permit) 96) (node cls : Nat) : Option (Nat × Permit) :=
  permitNumbers.findSome? fun n =>
    match look permits n none with
    | some p => if p.governs node cls then some (n, p) else none
    | none => none

/-! ### The seven checks (05:R77 to R80, R87) -/

/-- The lowest-numbered required condition that is not TRUE (05:R80). -/
def lowestFailing (states : Vector CondState 64) (required : List Nat) : Option Nat :=
  (required.filter fun c => !standsTrue states c).min?

/-- The hoist and the direction of a hoist START: `true` is upward (05:R78, 06:R113). -/
def SpanRecord.startOf (r : SpanRecord) (node cls : Nat) : Option (Tower × Bool) :=
  let hoist := if node = r.a.hoist then some Tower.a else if node = r.b.hoist then some Tower.b else none
  match hoist with
  | none => none
  | some t => if cls = r.startUp then some (t, true) else if cls = r.startDown then some (t, false) else none

/-- The hoist START that an order is, while a span record is present. -/
def State.startOf (s : State) (node cls : Nat) : Option (Tower × Bool) :=
  match s.span.record with
  | some r => r.startOf node cls
  | none => none

/-- The motion busy check refuses (05:R78). -/
def State.motionBusy (s : State) (node cls : Nat) : Bool :=
  match s.startOf node cls with
  | some (_, up) => s.span.motion == .stopping || s.span.motion == (if up then .lowering else .raising)
  | none => false

/-- The outcome of the checks. -/
inductive Verdict
  /-- Refused with this code and detail; the argument and the clamped mark as they stood at that check (05:R81). -/
  | refused (r : Result) (detail : Nat) (arg : Int) (clamped : Bool)
  /-- Every check passed. -/
  | pass (entry : Nat) (p : Permit) (arg : Int) (clamped : Bool)
  /-- To be held for the failing condition named. -/
  | hold (entry : Nat) (p : Permit) (arg : Int) (clamped : Bool) (failing : Nat)
deriving DecidableEq, Repr

/-- Checks 6 and 7 (05:R79, R80). -/
def State.lateChecks (s : State) (own : Bool) (n : Nat) (p : Permit) (arg : Int) : Verdict :=
  let inside : Bool := p.argMin ≤ arg && arg ≤ p.argMax
  if !inside && !p.clamp then .refused .argument n arg false
  else
    let forwarded := clampTo p.argMin p.argMax arg
    match lowestFailing s.cond.states p.required with
    | none => .pass n p forwarded (!inside)
    | some c =>
      if p.hold && !own then .hold n p forwarded (!inside) c
      else .refused .refusedCondition c forwarded (!inside)

/-- The seven checks of a console order, or of an own order with the differences of 05:R87. -/
def State.verdict (s : State) (own : Bool) (node cls : Nat) (arg : Int) : Verdict :=
  if s.unit.mode = .init then .refused .notReady 0 arg false
  else
    match matchingEntry s.gate.permits node cls with
    | none => .refused .noPermit 0 arg false
    | some (n, p) =>
      if s.unit.mode = .maintenance ∧ p.maint = false then .refused .maintenance n arg false
      else if s.unit.causes.isEmpty = false ∧ p.standdown = false then .refused .standdown n arg false
      else if own = false ∧ p.owned = true ∧ s.seq.phase ≠ .roadOpen ∧ s.seq.phase ≠ .inactive then
        .refused .owned n arg false
      else if s.motionBusy node cls = true then .refused .motionBusy n arg false
      else s.lateChecks own n p arg

/-! ### Reports of the gate (05:R93) -/

/-- The combined occupancy of the order queue and the hold queue is reported when it has changed (05:R93, log 15). -/
def State.reportOccupancy (s : State) : State :=
  let n := s.gate.orders.length + s.gate.held.length
  if n = s.duty.occupancy then s else s.takeDuty (s.duty.occupancyTo n)

/-- The final result of a console order, placed and reported as an ORDER OUTCOME (05:R81, R93). -/
def State.consoleFinal (s : State) (tag : Byte) (node cls : Nat) (arg : Int) (clamped : Bool) (r : Result) (detail : Nat)
    (transmitted : Bool) : State :=
  (s.orderResult tag node cls arg r.code detail (resultFlags transmitted clamped false)).occur (.orderOutcome node r)

/-- The record of an order admitted through entry n (05:R76). -/
def newRecord (origin : Origin) (node cls n : Nat) (p : Permit) (arg : Int) (clamped : Bool) : OrderRecord :=
  { origin := origin, node := node, cls := cls, arg := arg, clamped := clamped, entry := n, required := p.required
    deadline := none, memory := none }

/-! ### Console orders (05:R80 to R84) -/

/-- An order joins the tail of the order queue, if it has room (05:R82). -/
def State.joinOrders (s : State) (tag : Byte) (r : OrderRecord) : State :=
  if s.gate.orders.length < Config.orderCapacity then
    (s.setGate { s.gate with orders := s.gate.orders ++ [r] }).reportOccupancy
  else s.consoleFinal tag r.node r.cls r.arg r.clamped .queueFull 0 false

/-- A held order with this node and class (05:R84). -/
def heldMatch (node cls : Nat) (r : OrderRecord) : Bool := r.node == node && r.cls == cls

/-- The final result of a record of the console; own orders are never in a queue where this is asked of them. -/
def State.recordFinal (s : State) (r : OrderRecord) (x : Result) (detail : Nat) : State :=
  match r.origin with
  | .console tag => s.consoleFinal tag r.node r.cls r.arg r.clamped x detail false
  | .sequencer _ _ => s
  | .channel _ _ => s

/-- The held order with this node and class is superseded (05:R84). Its result and its ORDER OUTCOME come before the
report of the occupancy (log 15). -/
def State.supersede (s : State) (node cls : Nat) : State :=
  match s.gate.held.find? (heldMatch node cls) with
  | some old =>
    ((s.setGate { s.gate with held := s.gate.held.eraseP (heldMatch node cls) }).recordFinal old .superseded
      0).reportOccupancy
  | none => s

/-- An order joins the tail of the hold queue with its HELD result, if it has room (05:R83). The result comes before the
report of the occupancy (log 15). -/
def State.joinHeld (s : State) (tag : Byte) (r : OrderRecord) (limit failing : Nat) : State :=
  if s.gate.held.length < Config.holdCapacity then
    ((s.setGate { s.gate with held := s.gate.held ++ [{ r with deadline := some (after s.now (limit * 1000)) }] }).orderResult
      tag r.node r.cls r.arg heldCode failing (resultFlags false r.clamped true)).reportOccupancy
  else s.consoleFinal tag r.node r.cls r.arg r.clamped .queueFull 0 false

/-- A console order is checked and refused, queued or held (05:R77 to R84). -/
def State.admitConsole (s : State) (tag : Byte) (node cls : Nat) (arg : Int) : State :=
  match s.verdict false node cls arg with
  | .refused r detail a c => s.consoleFinal tag node cls a c r detail false
  | .pass n p a c => s.joinOrders tag (newRecord (.console tag) node cls n p a c)
  | .hold n p a c failing =>
    (s.supersede node cls).joinHeld tag (newRecord (.console tag) node cls n p a c) p.holdLimit failing

/-- CONSOLE_ORDER_ADMISSION (05:R77): the node, class, argument and tag of the ORDER served (01:R14). -/
def execConsoleOrderAdmission (s : State) : Host.Outcome State Fault Refusal :=
  .next (s.whenRunning fun s =>
    s.serve (fun f => f.kind == kindConsoleOrder) fun f s =>
      s.admitConsole f.tag f.node.toNat (u8 f.payload 0) (s16 f.payload 1))

/-! ### Own orders (05:R87, R88) -/

/-- An own order that is refused: reported as an ORDER OUTCOME and handed back (05:R87, R93). The report comes first, so
before the phase fault (07:R126), the alert (08:R149) or the cause (08:R153) that the refusal makes: the manual gives
no order (log 8). -/
def State.ownRefused (s : State) (node : Nat) (r : Result) : State × Option Result :=
  (s.occur (.orderOutcome node r), some r)

/-- An own order is offered: with it, the result of a refusal (05:R87, R88). -/
def State.offerOwn (s : State) (origin : Origin) (node cls : Nat) (arg : Int) : State × Option Result :=
  match s.verdict true node cls arg with
  | .refused r _ _ _ => s.ownRefused node r
  | .hold _ _ _ _ _ => s.ownRefused node .refusedCondition
  | .pass n p a c =>
    if s.gate.own.length < Config.ownCapacity then
      (s.setGate { s.gate with own := s.gate.own ++ [newRecord origin node cls n p a c] }, none)
    else s.ownRefused node .queueFull

/-! ### Release and expiry (05:R85, R86) -/

/-- Every required condition of the record is TRUE. -/
def OrderRecord.ready (states : Vector CondState 64) (r : OrderRecord) : Bool := (lowestFailing states r.required).isNone

/-- The examination for release, oldest first, with the room left in the order queue: the orders released and the
orders that stay held (05:R85). -/
def releaseScan (states : Vector CondState 64) : Nat → List OrderRecord → List OrderRecord × List OrderRecord
  | _, [] => ([], [])
  | room, r :: rs =>
    if r.ready states then
      match room with
      | 0 => ([], r :: rs)
      | room + 1 =>
        let x := releaseScan states room rs
        ({ r with deadline := none } :: x.1, x.2)
    else
      let x := releaseScan states room rs
      (x.1, r :: x.2)

/-- HOLD_RELEASE (05:R85): the gate takes a condition change set and examines the hold queue. -/
def execHoldRelease (s : State) : Host.Outcome State Fault Refusal :=
  .next (s.whenRunning fun s =>
    match s.gate.sets with
    | 0 => s
    | n + 1 =>
      let x := releaseScan s.cond.states (Config.orderCapacity - s.gate.orders.length) s.gate.held
      s.setGate { s.gate with sets := n, orders := s.gate.orders ++ x.1, held := x.2 })

/-- The deadline of a held order has been reached (05:R86). -/
def OrderRecord.expired (now : Time) (r : OrderRecord) : Bool := timerDue now r.deadline

/-- The detail of EXPIRED: the lowest failing condition, or 255 (05:R86). -/
def expiryDetail (states : Vector CondState 64) (r : OrderRecord) : Nat := (lowestFailing states r.required).getD 255

/-- HOLD_DEADLINE_EXPIRY (05:R86): every held order whose deadline has been reached expires, oldest first; the occupancy
is reported after their results (log 15). -/
def execHoldDeadlineExpiry (s : State) : Host.Outcome State Fault Refusal :=
  .next (s.whenRunning fun s =>
    let out := s.gate.held.filter (·.expired s.now)
    let s := s.setGate { s.gate with held := s.gate.held.filter fun r => !r.expired s.now }
    (out.foldl (fun s r => s.recordFinal r .expired (expiryDetail s.cond.states r)) s).reportOccupancy)

/-! ### The re-check at transmission (05:R89, 08:R145) -/

/-- The signal a signal order is addressed to (08:R145). -/
def ChannelRecord.signalOf (r : ChannelRecord) (node cls : Nat) : Option Direction :=
  if cls = r.cls then
    if node = r.northNode then some .north else if node = r.southNode then some .south else none
  else none

/-- The signal of an order, while a channel record is present (08:R143). -/
def State.signalOf (s : State) (node cls : Nat) : Option Direction :=
  match s.chan.record with
  | some r => r.signalOf node cls
  | none => none

/-- The argument kind of a signal order (08:R145). -/
def argKind (arg : Int) : ArgKind := if arg = 0 then .red else if arg = 1 then .green else .other

/-- The last-order memory is RED with result DONE. -/
def Signal.redDone (g : Signal) : Bool := g.memory == some { kind := .red, result := .done }

/-- What becomes of an order that the Field Engine takes. -/
inductive Recheck
  /-- REVOKED with this detail. -/
  | revoked (detail : Nat)
  /-- Sent; a signal order becomes the memory of its signal. -/
  | passes (signal : Option Direction)
deriving DecidableEq, Repr

/-- The re-check (05:R89) with the signal interlock (08:R145). -/
def State.recheck (s : State) (r : OrderRecord) : Recheck :=
  match lowestFailing s.cond.states r.required with
  | some c => .revoked c
  | none =>
    match s.signalOf r.node r.cls with
    | none => .passes none
    | some d =>
      if argKind r.arg = .green ∧ (s.chan.signal d.opposite).redDone = false then .revoked 255 else .passes (some d)

end Sys2Proof.Machine
end

