-- ==== Sys2Proof/Machine/Channel.lean ====
section
/-!
DEFINITION. The Channel Controller (08_vessel_calls_and_the_channel_signals): the vessel queue, the signal orders it
offers and what it makes of their results, the close and its check. A change of the channel state is handed to the
Crossing Sequencer by `State.channelEvent`, whose advance test is an argument here.
-/

namespace Sys2Proof.Machine

/-- The signal of a direction replaced. -/
def Channel.setSignal (c : Channel) (d : Direction) (g : Signal) : Channel :=
  match d with
  | .north => { c with north := g }
  | .south => { c with south := g }

/-- The channel state, mirrored by point 127 (08:R144). -/
def State.setChannelState (s : State) (c : ChannelState) : State :=
  (s.setChan { s.chan with state := c }).writePoint 127 c.num

/-- Point 122: the direction of the head, 0 while the queue is empty (08:R146). -/
def headDirection : List Vessel → Int
  | [] => 0
  | v :: _ => v.direction.num

/-- The vessel queue, mirrored by points 121 and 122 (08:R146). Where one join or removal changes both, point 121 is
written and walked first and point 122 after it: the manual gives no order (03:R53, log 8). -/
def State.setVessels (s : State) (vs : List Vessel) : State :=
  ((s.setChan { s.chan with vessels := vs }).writePoint 121 vs.length).writePoint 122 (headDirection vs)

def Vessel.waits (v : Vessel) : Bool := !v.cleared
def Vessel.clearedFor (d : Direction) (v : Vessel) : Bool := v.cleared && v.direction == d
def Vessel.waitsFor (d : Direction) (v : Vessel) : Bool := v.waits && v.direction == d

/-- An own order of this kind to this signal is outstanding. -/
def Signal.hasOwn (g : Signal) (k : SignalKind) : Bool := g.outstanding.contains k

/-- No own order of the Channel Controller is outstanding (08:R143, R149). -/
def Channel.noneOutstanding (c : Channel) : Bool := c.north.outstanding.isEmpty && c.south.outstanding.isEmpty

/-- Both last-order memories are RED with result DONE (08:R152, R153). -/
def Channel.bothRedDone (c : Channel) : Bool := c.north.redDone && c.south.redDone

def SignalKind.arg : SignalKind → Int
  | .red => 0
  | .green => 1

/-- A signal order of this kind joins, or leaves, the outstanding own orders of its signal. -/
def Channel.addOwn (c : Channel) (d : Direction) (k : SignalKind) : Channel :=
  c.setSignal d { c.signal d with outstanding := (c.signal d).outstanding ++ [k] }
def Channel.dropOwn (c : Channel) (d : Direction) (k : SignalKind) : Channel :=
  c.setSignal d { c.signal d with outstanding := (c.signal d).outstanding.erase k }

/-- RED wanted for a signal is set or cleared. -/
def Channel.wantRed (c : Channel) (d : Direction) (b : Bool) : Channel :=
  c.setSignal d { c.signal d with redWanted := b }

/-- A signal order is offered as an own order; with it, the result of a refusal. While the record is absent nothing is
offered (08:R143). -/
def State.offerSignal (s : State) (d : Direction) (k : SignalKind) : State × Option Result :=
  match s.chan.record with
  | none => (s, none)
  | some r =>
    match s.offerOwn (.channel d k) (r.node d) r.cls k.arg with
    | (s, none) => (s.setChan (s.chan.addOwn d k), none)
    | (s, some x) => (s, some x)

/-! ### RED (08:R153) -/

/-- An own RED ended other than DONE or CANCELLED: CHANNEL SIGNAL is reported (08:R153). -/
def State.redFailed (s : State) (d : Direction) : State := (s.setChan (s.chan.wantRed d false)).latchCause .channelSignal

/-- A RED is offered; a refusal is handed back in the same event (08:R153). -/
def State.offerRed (s : State) (d : Direction) : State :=
  match s.offerSignal d .red with
  | (s, none) => s
  | (s, some _) => s.redFailed d

/-- A RED is offered unless an own RED to that signal is outstanding. -/
def State.offerRedOnce (s : State) (d : Direction) : State :=
  if (s.chan.signal d).hasOwn .red then s else s.offerRed d

/-- The RED that a changeover waited for is DONE (08:R151): it must be that of the open direction (log 28). -/
def State.changeoverRed (s : State) (d : Direction) : State :=
  match s.chan.record with
  | none => s
  | some r =>
    if s.chan.changeoverPending = true ∧ s.chan.state = ChannelState.green d then
      (s.setChan
        { s.chan with
          changeoverPending := false
          greenTimer := none
          greenExpired := false
          changeoverTimer := some (after s.now (r.changeover * 1000)) }).setChannelState .changeover
    else s

/-- The closing check (08:R152). -/
def State.closingCheck (s : State) : State :=
  if s.chan.closing = true ∧ s.chan.bothRedDone = true ∧ s.chan.north.hasOwn .green = false
      ∧ s.chan.south.hasOwn .green = false then
    (s.setChan { s.chan with closing := false }).setChannelState .closed
  else s

/-- The final result of an own RED (08:R153). -/
def State.redResult (s : State) (d : Direction) (r : Result) : State :=
  let s := s.setChan (s.chan.dropOwn d .red)
  match r with
  | .done => (s.setChan (s.chan.wantRed d false)).changeoverRed d
  | .cancelled => if (s.chan.signal d).redWanted then s.offerRed d else s
  | _ => s.redFailed d

/-! ### GREEN (08:R149) -/

/-- The order passed the re-check, so that its frame may have reached the signal (08:R149). -/
def Result.afterRecheck : Result → Bool
  | .nodeRefused => true
  | .noAnswer => true
  | .garbled => true
  | .linkFault => true
  | _ => false

/-- A GREEN failed while no closing is in progress: the state and the retry timer (08:R149). -/
def State.greenRetry (s : State) : State :=
  match s.chan.record with
  | none => s
  | some r =>
    let s := s.setChan { s.chan with retryTimer := some (after s.now (r.changeover * 1000)) }
    if s.chan.state = .changeover then s.setChannelState .closed else s

/-- An own GREEN ended other than DONE or CANCELLED (08:R149). -/
def State.greenFailed (s : State) (d : Direction) (r : Result) : State :=
  let s := s.alert (.channelGreenFailed d)
  let s := if s.chan.closing then s else s.greenRetry
  if r.afterRecheck then (s.setChan (s.chan.wantRed d true)).offerRedOnce d else s

/-- A GREEN is offered; a refusal is handed back in the same event (08:R149). -/
def State.offerGreen (s : State) (d : Direction) : State :=
  match s.offerSignal d .green with
  | (s, none) => s
  | (s, some r) => s.greenFailed d r

/-- The channel opens to direction d (08:R149). -/
def State.openTo (s : State) (d : Direction) : State :=
  match s.chan.record with
  | none => s
  | some r =>
    let vs := s.chan.vessels.map fun v => if v.direction = d then { v with cleared := true } else v
    (s.setChan
      { s.chan with
        vessels := vs
        greenTimer := some (after s.now (r.greenLimit * 1000))
        greenExpired := false
        changeoverTimer := none }).setChannelState (.green d)

/-- The final result of an own GREEN (08:R149). -/
def State.greenResult (s : State) (d : Direction) (r : Result) : State :=
  let s := s.setChan (s.chan.dropOwn d .green)
  match r with
  | .done => if s.chan.closing then s else s.openTo d
  | .cancelled => s
  | _ => s.greenFailed d r

/-! ### The tests (08:R149, R151) -/

/-- The opening test may be made: every condition of 08:R149 but the interlock. -/
def State.mayOpen (s : State) : Bool :=
  s.unit.mode == .service && s.chan.record.isSome && s.chan.phaseSeen == .channelOpen && s.chan.state == .closed
    && !s.chan.closing && s.chan.retryTimer.isNone && s.chan.noneOutstanding && s.chan.vessels.any Vessel.waits

/-- The opening test (08:R149). -/
def State.openingTest (s : State) : State :=
  match s.chan.vessels with
  | [] => s
  | v :: _ =>
    if s.mayOpen = true ∧ (s.chan.signal v.direction.opposite).redDone = true then s.offerGreen v.direction else s

/-- The changeover test (08:R151). -/
def State.changeoverTest (s : State) : State :=
  match s.chan.state.direction with
  | none => s
  | some d =>
    if s.chan.changeoverPending = false ∧ s.chan.closing = false ∧ s.chan.vessels.any (Vessel.clearedFor d) = false
        ∧ s.chan.vessels.any (Vessel.waitsFor d.opposite) = true then
      (s.setChan (({ s.chan with changeoverPending := true } : Channel).wantRed d true)).offerRed d
    else s

/-- The two tests made after each join and each removal (08:R146). -/
def State.queueTests (s : State) : State := s.openingTest.changeoverTest

/-! ### The close (08:R152) -/

/-- A close must order RED to a signal (08:R152, step 3). -/
def Signal.needsRed (g : Signal) : Bool := !g.redDone || g.hasOwn .green

/-- Steps 1 and 2 of a close (08:R152). -/
def Channel.withdraw (c : Channel) : Channel :=
  { c with
    vessels := c.vessels.map fun v => { v with cleared := false }
    greenTimer := none
    changeoverTimer := none
    retryTimer := none
    greenExpired := false
    changeoverPending := false }

/-- The setting of RED wanted in step 3 of a close (08:R152). -/
def Channel.wantReds (c : Channel) : Channel :=
  { c with
    north := { c.north with redWanted := c.north.redWanted || c.north.needsRed }
    south := { c.south with redWanted := c.south.redWanted || c.south.needsRed } }

/-- The offer of step 3 of a close to a signal (08:R152): made, in every mode, where the signal needed it (log 12). -/
def State.closeRed (s : State) (due : Bool) (d : Direction) : State := if due then s.offerRedOnce d else s

/-- A close (08:R152). Step 4 is judged by the flags as step 3 sets them (log 11); an absent record bars only the offers
(08:R143, log 10). It offers its REDs in every mode; a stand-down entry of the time before SERVICE may be closed before or
after the REDs of the first entry to SERVICE (10:R182, log 12). The manual does not say which signal's RED is offered first:
the model's is the north signal's (log 8). -/
def State.close (s : State) : State :=
  let c := s.chan.withdraw
  let w := c.wantReds
  if !w.north.redWanted && !w.south.redWanted then (s.setChan { w with closing := false }).setChannelState .closed
  else
    ((s.setChan { w with closing := true }).closeRed c.north.needsRed .north).closeRed c.south.needsRed .south

/-- The change of mode into SERVICE (08:R154). -/
def State.channelService (s : State) : State :=
  ((s.setChan ((s.chan.wantRed .north true).wantRed .south true)).offerRedOnce .north).offerRedOnce .south

/-! ### Vessels (08:R146 to R148, R150) -/

/-- A vessel joins CLEARED (08:R146). -/
def Channel.joinsCleared (c : Channel) (d : Direction) : Bool :=
  c.state == ChannelState.green d && !c.greenExpired && !c.changeoverPending && !c.closing

/-- A vessel joins the tail of the queue (08:R146). -/
def State.joinVessel (s : State) (tag : Nat) (d : Direction) : State :=
  (s.setVessels
    (s.chan.vessels ++ [{ tag := tag, direction := d, arrival := s.now, cleared := s.chan.joinsCleared d }])).queueTests

/-- An entry with this tag stands in the queue. -/
def Channel.hasTag (c : Channel) (tag : Nat) : Bool := c.vessels.any fun v => v.tag == tag

/-- The direction a direction byte names (08:R147). -/
def directionOf (n : Nat) : Option Direction := if n = 1 then some .north else if n = 2 then some .south else none

/-- A vessel call of a CALL point is judged (08:R147). -/
def State.vesselCall (s : State) (tag direction : Nat) : State :=
  if s.unit.mode ≠ .service then s.setChan { s.chan with ignoredCalls := countUp s.chan.ignoredCalls }
  else
    match directionOf direction with
    | none => s.setChan { s.chan with badDirections := countUp s.chan.badDirections }
    | some d =>
      if s.chan.hasTag tag then s
      else if Config.vesselCapacity ≤ s.chan.vessels.length then s.alert (.vesselQueueFull tag)
      else s.joinVessel tag d

/-- The entry with this tag leaves the queue (08:R148). -/
def State.removeVessel (s : State) (tag : Nat) : State :=
  (s.setVessels (s.chan.vessels.eraseP fun v => v.tag == tag)).queueTests

/-- A passage of direction d (08:R150). -/
def State.vesselPassage (s : State) (d : Direction) : State :=
  if s.chan.vessels.any (Vessel.clearedFor d) then
    ((s.setVessels (s.chan.vessels.eraseP (Vessel.clearedFor d))).occur (.vesselPassage d)).queueTests
  else
    ((s.setChan { s.chan with unexpectedPassages := countUp s.chan.unexpectedPassages }).alert
      (.unexpectedPassage d)).occur (.vesselPassage d)

/-- The passages of one condition change set, north before south (08:R150). -/
def State.passages (s : State) (set : ChangeSet) : State :=
  match s.chan.record with
  | none => s
  | some r =>
    let s := if set.contains (r.northPassage, true) then s.vesselPassage .north else s
    if set.contains (r.southPassage, true) then s.vesselPassage .south else s

/-! ### A change of the channel state reaches the rest (08:R144, R149) -/

/-- An event of the Channel Controller: when `f` has changed the channel state, the Crossing Sequencer makes its advance
test, and when the channel became CLOSED the opening test is made. The manual gives no order of the two: the model's is
the advance test first (log 8). -/
def State.channelEvent (s : State) (advance : State → State) (f : State → State) : State :=
  let t := f s
  if t.chan.state = s.chan.state then t
  else
    let u := advance t
    if t.chan.state = .closed then u.openingTest else u

end Sys2Proof.Machine
end

