-- ==== Sys2Proof/Machine/Crossing.lean ====
section
/-!
DEFINITION. The Crossing Sequencer (07_the_crossing_programme) and the changes of mode that act on it (10:R172).
-/

namespace Sys2Proof.Machine

/-! ### Changes of mode (10:R172) -/

/-- What the Mode and Chain Unit itself does at a change of mode (10:R172). -/
def State.modeBase (s : State) (m : Mode) : State :=
  let s := (s.setUnit ({ s.unit with mode := m } : ModeChain).settleChain).writePoint 123 m.num
  s.setUnit { s.unit with maintenancePending := false }

/-! ### Phase changes (07:R125) -/

/-- The entry of a phase; HALTED and INACTIVE have none (07:R122). -/
def State.phaseEntry (s : State) (p : Phase) : Option PhaseEntry := look s.seq.table p.num none

/-- Steps 1 to 3 of a phase change (07:R125). -/
def State.phaseBase (s : State) (p : Phase) (cause : PhaseCause) : State :=
  let s := (s.setSeq { s.seq with phase := p }).writePoint 120 p.num
  let s := s.setConsole (s.console.offer kindPhaseReport [byte p.num, byte cause.code])
  s.takeDuty (s.duty.phaseTo p)

/-- The Channel Controller takes a phase handed to it (07:R125, 08:R149, R152). -/
def State.channelPhase (s : State) (p : Phase) : State :=
  let s := s.setChan { s.chan with phaseSeen := p }
  match p with
  | .channelOpen => s.openingTest
  | .channelClosing => s.close
  | _ => s

/-- The sequencer goes to INACTIVE (07:R140). No advance test can follow in INACTIVE. -/
def State.sequencerInactive (s : State) : State :=
  let s := s.setSeq
    { s.seq with interrupted := none, tracking := [], dwell := .absent, limit := none, request := .none, recovery := false }
  (s.phaseBase .inactive .mode).channelEvent id fun s => s.channelPhase .inactive

/-- SERVICE to MAINTENANCE (10:R172): the sequencer goes to INACTIVE, the channel closes. The manual has both act in one
event and gives no order: the model's is the sequencer first (log 8). -/
def State.enterMaintenance (s : State) : State := (s.modeBase .maintenance).sequencerInactive.channelEvent id State.close

/-- The Mode and Chain Unit takes a phase handed to it: maintenance that is pending begins at phase 0 and HALTED
(07:R141, 10:R173). -/
def State.phaseHandMode (s : State) (p : Phase) : State :=
  if s.unit.maintenancePending = true ∧ s.unit.mode = .service ∧ (p = .roadOpen ∨ p = .halted) then s.enterMaintenance
  else s

/-- The phase change to HALTED, handed to both blocks (07:R125). -/
def State.haltPhase (s : State) (cause : PhaseCause) : State :=
  ((s.phaseBase .halted cause).channelEvent id fun s => s.channelPhase .halted).phaseHandMode .halted

/-- A phase fault; outside the working phases it has no effect (07:R130). -/
def State.phaseFault (s : State) (cause : PhaseCause) : State :=
  if s.seq.phase.working then
    (s.setSeq
      { s.seq with
        interrupted := some (.phase s.seq.phase), tracking := [], dwell := .absent, limit := none, request := .none }).haltPhase
      cause
  else s

/-! ### Advance (07:R128) -/

/-- The successor of a phase (07:R128). -/
def Phase.successor (recovery : Bool) : Phase → Phase
  | .roadOpen => .warning
  | .warning => .entryGates
  | .entryGates => .exitGates
  | .exitGates => .roadProof
  | .roadProof => if recovery then .lowering else .lifting
  | .lifting => .channelOpen
  | .channelOpen => .channelClosing
  | .channelClosing => .lowering
  | .lowering => .seating
  | .seating => .gatesRaising
  | .gatesRaising => .roadRelease
  | .roadRelease => .roadOpen
  | .halted => .halted
  | .inactive => .inactive

/-- The advance condition of the present phase is absent or TRUE (07:R128). -/
def State.advanceProven (s : State) : Bool :=
  match s.phaseEntry s.seq.phase with
  | none => true
  | some e =>
    match e.advance with
    | none => true
    | some c => standsTrue s.cond.states c

/-- What phases 0, 6 and 7 need besides (07:R128). -/
def State.phaseNeeds (s : State) : Bool :=
  match s.seq.phase with
  | .roadOpen => s.seq.request == .openRequest
  | .channelOpen => s.seq.request == .closeRequest
  | .channelClosing => s.chan.state == .closed
  | _ => true

/-- The phase is ready to advance (07:R128). -/
def State.ready (s : State) : Bool :=
  s.seq.phase.working && s.seq.tracking.all (· == Place.done) && s.seq.dwell == .elapsed && s.advanceProven
    && s.phaseNeeds

/-- The advance test, with the entry into a phase as an argument (07:R128). -/
def State.advanceWith (enter : Phase → PhaseCause → State → State) (s : State) : State :=
  if s.ready then enter (s.seq.phase.successor s.seq.recovery) .advance (s.setSeq { s.seq with limit := none }) else s

/-! ### Entering a phase (07:R126) -/

/-- Steps 1 and 2 of an entry into a working phase (07:R126); an entry into phase 0 clears the recovery flag (07:R139). -/
def State.beginEntry (s : State) (p : Phase) : State :=
  let orders := match s.phaseEntry p with
    | some e => e.orders
    | none => []
  let dwell := match s.phaseEntry p with
    | some e => e.dwell
    | none => 0
  let limit := match s.phaseEntry p with
    | some e => e.limit
    | none => 0
  s.setSeq
    { s.seq with
      interrupted := none
      request := .none
      recovery := s.seq.recovery && p != .roadOpen
      serial := s.seq.serial + 1
      tracking := orders.map fun _ => Place.notOffered
      dwell := if dwell = 0 then .elapsed else .running (after s.now dwell)
      limit := if limit = 0 then none else some (after s.now (limit * 1000)) }

/-- The place of an entry order in the tracking. -/
def State.track (s : State) (i : Nat) (x : Place) : State :=
  s.setSeq { s.seq with tracking := s.seq.tracking.set i x }

/-- The entry orders are offered in listed order; a refusal faults the phase and ends the offers (07:R126). -/
def offerEntries (serial : BitVec 16) : Nat → List EntryOrder → State → State
  | _, [], s => s
  | i, o :: os, s =>
    match s.offerOwn (.sequencer serial i) o.node o.cls o.arg with
    | (s, none) => offerEntries serial (i + 1) os (s.track i .awaiting)
    | (s, some _) => s.phaseFault .entryRefused

/-- The entry orders of the phase just entered are offered (07:R126, step 4). -/
def State.offerPhase (s : State) (p : Phase) : State :=
  match s.phaseEntry p with
  | some e => offerEntries s.seq.serial 0 e.orders s
  | none => s

/-- An entry into working phase p (07:R126). The first argument bounds the run of advances made in one event: a run ends
at the latest at phase 0 or phase 6, so it never holds more than nine entries (log 27). -/
def enterPhase : Nat → Phase → PhaseCause → State → State
  | 0, _, _, s => s
  | fuel + 1, p, cause, s =>
    let s := ((s.beginEntry p).phaseBase p cause).channelEvent (State.advanceWith (enterPhase fuel)) fun s =>
      s.channelPhase p
    let s := s.phaseHandMode p
    if s.seq.phase = p then
      let s := s.offerPhase p
      if s.seq.phase = p then s.advanceWith (enterPhase fuel) else s
    else s

/-- The bound of a run of advances (log 27). -/
def entryBound : Nat := 14

def State.enter (s : State) (p : Phase) (cause : PhaseCause) : State := enterPhase entryBound p cause s

/-- The advance test (07:R128). -/
def State.advanceTest (s : State) : State := s.advanceWith (enterPhase entryBound)

/-- A result is that of the present entry (07:R127). -/
def State.currentResult (s : State) (serial : BitVec 16) : Bool := serial == s.seq.serial && s.seq.phase.working

/-- The gate hands back the final result of an entry order (07:R127). The refusals at admission never come this way. -/
def State.entryResult (s : State) (serial : BitVec 16) (place : Nat) (r : Result) : State :=
  if s.currentResult serial then
    match r with
    | .done => (s.track place .done).advanceTest
    | .cancelled => s.track place .cancelled
    | .nodeRefused => s.phaseFault .entryFailed
    | .noAnswer => s.phaseFault .entryFailed
    | .garbled => s.phaseFault .entryFailed
    | .linkFault => s.phaseFault .entryFailed
    | .revoked => s.phaseFault .entryFailed
    | _ => s
  else s

/-- An event of the Channel Controller outside a phase change (08:R144). -/
def State.channelStep (s : State) (f : State → State) : State := s.channelEvent State.advanceTest f

/-! ### Adoption and the change into SERVICE (07:R139, 10:R172) -/

/-- The road-open proof of entry 0 is present and TRUE (07:R139). -/
def State.roadProven (s : State) : Bool :=
  match s.phaseEntry .roadOpen with
  | none => false
  | some e =>
    match e.proof with
    | none => false
    | some c => standsTrue s.cond.states c

/-- Adoption (07:R139). -/
def State.adopt (s : State) : State :=
  if s.roadProven then s.enter .roadOpen .adopted
  else (s.setSeq { s.seq with interrupted := some .unknown }).haltPhase .adopted

/-- The mode becomes SERVICE (10:R172): scan mode, adoption, the REDs of both signals. -/
def State.enterService (s : State) : State :=
  let s := s.modeBase .service
  (s.setField { s.field with scanMode := .continuous }).adopt.channelStep State.channelService

/-- INIT to MAINTENANCE (10:R172): no block acts on it. -/
def State.initToMaintenance (s : State) : State := s.modeBase .maintenance

/-- MAINTENANCE to INIT (10:R172, 06:R120): the Span Supervisor stands down and empties the trim slots. -/
def State.enterInit (s : State) : State :=
  let s := (s.modeBase .init).spanStandDown
  s.setField { s.field with trimA := none, trimB := none }

/-! ### The sequencer's own rows -/

/-- ADVANCE_TEST (07:R128): the sequencer takes a condition change set. -/
def execAdvanceTest (s : State) : Host.Outcome State Fault Refusal :=
  .next (s.whenRunning fun s =>
    match s.seq.sets with
    | 0 => s
    | n + 1 => (s.setSeq { s.seq with sets := n }).advanceTest)

/-- The dwell timer has reached its expiry. -/
def dwellDue (now : Time) : Dwell → Bool
  | .running e => due now e
  | .absent => false
  | .elapsed => false

/-- DWELL_EXPIRY (07:R129). -/
def execDwellExpiry (s : State) : Host.Outcome State Fault Refusal :=
  .next (s.whenRunning fun s =>
    if dwellDue s.now s.seq.dwell then (s.setSeq { s.seq with dwell := .elapsed }).advanceTest else s)

/-- PHASE_LIMIT_EXPIRY (07:R129). -/
def execPhaseLimitExpiry (s : State) : Host.Outcome State Fault Refusal :=
  .next (s.whenRunning fun s =>
    if timerDue s.now s.seq.limit then (s.setSeq { s.seq with limit := none }).phaseFault .limit else s)

/-- SEQUENCER_STANDDOWN (07:R132): the sequencer takes a stand-down entry. -/
def execSequencerStanddown (s : State) : Host.Outcome State Fault Refusal :=
  .next (s.whenRunning fun s =>
    match s.seq.standdowns with
    | 0 => s
    | n + 1 => (s.setSeq { s.seq with standdowns := n }).phaseFault .standdown)

/-! ### The channel's own rows -/

/-- PASSAGE (08:R150): the Channel Controller takes the oldest condition change set handed to it. -/
def execPassage (s : State) : Host.Outcome State Fault Refusal :=
  .next (s.whenRunning fun s =>
    match s.chan.sets with
    | [] => s
    | set :: sets => (s.setChan { s.chan with sets := sets }).channelStep fun s => s.passages set)

/-- GREEN_TIMER_EXPIRY (08:R151). -/
def execGreenTimerExpiry (s : State) : Host.Outcome State Fault Refusal :=
  .next (s.whenRunning fun s =>
    if timerDue s.now s.chan.greenTimer then s.setChan { s.chan with greenTimer := none, greenExpired := true } else s)

/-- The changeover is over: a GREEN to the direction of the oldest WAITING vessel, or CLOSED (08:R151). -/
def State.changeoverEnd (s : State) : State :=
  match s.chan.vessels.find? Vessel.waits with
  | some v => s.offerGreen v.direction
  | none => s.setChannelState .closed

/-- CHANGEOVER_TIMER_EXPIRY (08:R151). -/
def execChangeoverTimerExpiry (s : State) : Host.Outcome State Fault Refusal :=
  .next (s.whenRunning fun s =>
    if timerDue s.now s.chan.changeoverTimer then
      (s.setChan { s.chan with changeoverTimer := none }).channelStep State.changeoverEnd
    else s)

/-- RETRY_TIMER_EXPIRY (08:R149). -/
def execRetryTimerExpiry (s : State) : Host.Outcome State Fault Refusal :=
  .next (s.whenRunning fun s =>
    if timerDue s.now s.chan.retryTimer then
      (s.setChan { s.chan with retryTimer := none }).channelStep State.openingTest
    else s)

/-- CHANNEL_STANDDOWN_CLOSE (08:R152): the Channel Controller takes a stand-down entry. -/
def execChannelStanddownClose (s : State) : Host.Outcome State Fault Refusal :=
  .next (s.whenRunning fun s =>
    match s.chan.standdowns with
    | 0 => s
    | n + 1 => (s.setChan { s.chan with standdowns := n }).channelStep State.close)

end Sys2Proof.Machine
end

