-- ==== Sys2Proof/Machine/Supervisor.lean ====
section
/-!
DEFINITION. The Span Supervisor (06_span_supervision): the motion stop, the encoder update with its stages, starts,
the watches and the outcomes of trims and stops.
-/

namespace Sys2Proof.Machine

/-- The motion state is RAISING or LOWERING. -/
def MotionState.moving : MotionState → Bool
  | .raising => true
  | .lowering => true
  | .idle => false
  | .stopping => false
  | .stopped => false

def State.moving (s : State) : Bool := s.span.motion.moving

def Span.tower (p : Span) : Tower → TowerState
  | .a => p.towerA
  | .b => p.towerB

def Span.setTower (p : Span) (t : Tower) (x : TowerState) : Span :=
  match t with
  | .a => { p with towerA := x }
  | .b => { p with towerB := x }

/-! ### The motion stop (06:R98, R99) -/

/-- An order in the stop slot of a hoist, replacing any that waits there (02:R31). -/
def Field.setStop (f : Field) (t : Tower) (o : Option SlotOrder) : Field :=
  match t with
  | .a => { f with stopA := o }
  | .b => { f with stopB := o }

/-- An order in the trim slot of a hoist, replacing any that waits there (02:R30). -/
def Field.setTrim (f : Field) (t : Tower) (o : Option SlotOrder) : Field :=
  match t with
  | .a => { f with trimA := o }
  | .b => { f with trimB := o }

/-- The STOP order for a hoist (06:R98). -/
def SpanRecord.stopOrder (r : SpanRecord) (t : Tower) : SlotOrder :=
  { node := (r.tower t).hoist, cls := r.stop, arg := 0 }

/-- A STOP order is placed in the stop slot of a hoist; while the record is absent none is placed (06:R95). -/
def State.placeStop (s : State) (t : Tower) : State :=
  match s.span.record with
  | some r => s.setField (s.field.setStop t (some (r.stopOrder t)))
  | none => s

/-- The expiry of the stop timer from now (06:R98); it has none while the limit record is absent (log 18). -/
def State.stopExpiry (s : State) : Option Time := s.unit.limits.map fun l => after s.now (l.stopLimit * 1000)

/-- Steps 1 to 3 of a motion stop (06:R98, R99). -/
def State.beginStopping (s : State) (k : StopKind) : State :=
  let s := (s.placeStop .a).placeStop .b
  let s := s.setField { s.field with trimA := none, trimB := none }
  (s.setSpan
    { s.span with stopKind := some k, standstillRun := 0, startWindow := none, stopTimer := s.stopExpiry }).setMotion .stopping

/-- The sequencer takes a motion stop in phases 5, 8 and 9 (07:R131). -/
def State.sequencerMotionStop (s : State) : State :=
  if s.seq.phase = .lifting ∨ s.seq.phase = .lowering ∨ s.seq.phase = .seating then s.phaseFault .motionStop else s

/-- A cause of a motion stop is found (06:R98). -/
def State.motionStop (s : State) (c : MotionCause) : State :=
  if s.moving then
    (((s.beginStopping .fault).alert (.motionStop c)).sequencerMotionStop).occur (.motionStop c)
  else s

/-! ### Height (06:R103) -/

/-- The height before saturation (06:R103). -/
def TowerRecord.rawHeight (t : TowerRecord) (raw : Nat) : Int :=
  let d : Int := (raw : Int) - t.zero
  roundDiv ((if t.negative then -d else d) * t.scale) 16000

/-- The height, saturated (06:R103). -/
def TowerRecord.height (t : TowerRecord) (raw : Nat) : Int :=
  clampTo Config.heightMin Config.heightMax (t.rawHeight raw)

/-- The update is marked out of range (06:R103). -/
def TowerRecord.outOfRange (t : TowerRecord) (raw : Nat) : Bool := t.height raw != t.rawHeight raw

/-! ### The stages of a pair (06:R107 to R112, R116, R117) -/

/-- The speed of a pair (06:R107). -/
def Span.pairSpeed (p : Span) (mean : Int) (t : Time) : Int :=
  match p.previous with
  | none => 0
  | some q =>
    let dt := elapsed t q.time
    if dt = 0 then p.speed
    else clampTo (-Config.speedMax) Config.speedMax (truncDiv ((mean - q.mean) * 1000) dt)

/-- The level indicator on a pair (06:R109). -/
def State.levelStage (s : State) (l : LimitRecord) (skew : Int) : State :=
  if skew.natAbs ≤ l.lTol then
    let run := bump 15 s.span.levelRun
    let s := s.setSpan { s.span with levelRun := run }
    if l.nLvl ≤ run then s.setLevel .level else s
  else s.unlevel

/-- The correction mode on a pair (06:R110). -/
def State.correctionStage (s : State) (l : LimitRecord) (skew : Int) : State :=
  match s.span.correction with
  | .acquire =>
    if skew.natAbs ≤ l.eTrk then
      let run := bump 15 s.span.trackRun
      let s := s.setSpan { s.span with trackRun := run }
      if l.nTrk ≤ run then s.setCorrection .track else s
    else s.setSpan { s.span with trackRun := 0 }
  | .track =>
    if l.xTrk < skew.natAbs then (s.setSpan { s.span with trackRun := 0 }).setCorrection .acquire else s

/-- The speed band of |v| (06:R112). -/
def SpanRecord.band (r : SpanRecord) (v : Nat) : Option Nat :=
  if v ≤ r.b1 then some 0 else if v ≤ r.b2 then some 1 else if v ≤ r.b3 then some 2 else if v ≤ r.b4 then some 3 else none

/-- The speed-band feed (06:R112, 09:R166). -/
def State.bandStage (s : State) (r : SpanRecord) (v : Int) : State :=
  match r.band v.natAbs with
  | some n => s.setDuty (s.duty.band n)
  | none => s

/-- The speed limit at a mean height (06:R117). -/
def LimitRecord.speedAt (l : LimitRecord) (mean : Int) : Nat :=
  if mean ≤ l.z1.bound then l.z1.speed
  else if mean ≤ l.z2.bound then l.z2.speed
  else if mean ≤ l.z3.bound then l.z3.speed
  else l.z4.speed

/-- The overspeed watch (06:R117). -/
def State.overspeedStage (s : State) (l : LimitRecord) (mean v : Int) : State :=
  let run := if l.speedAt mean < v.natAbs then bump 2 s.span.overspeedRun else 0
  let s := s.setSpan { s.span with overspeedRun := run }
  if Config.overspeedPairs ≤ run then s.motionStop .overspeed else s

/-- A pair has arrived (06:R99). -/
def SpanRecord.arrived (r : SpanRecord) (m : MotionState) (mean : Int) : Bool :=
  match m with
  | .raising => r.top - r.arrival ≤ mean
  | .lowering => mean ≤ r.seat + r.arrival
  | .idle => false
  | .stopping => false
  | .stopped => false

/-- The arrival test (06:R99). -/
def State.arrivalStage (s : State) (r : SpanRecord) (mean : Int) : State :=
  if r.arrived s.span.motion mean then s.beginStopping .arrival else s

/-- The gain of a correction mode (06:R111). -/
def SpanRecord.gain (r : SpanRecord) : Correction → Nat
  | .acquire => r.gainAcquire
  | .track => r.gainTrack

/-- The trim of a skew (06:R111). -/
def trimOf (skew : Int) (gain uMax : Nat) : Int := clampTo (-uMax) uMax (roundDiv (skew * gain) 256)

/-- The trim order for a hoist: −u for hoist A, +u for hoist B (06:R111). -/
def SpanRecord.trimOrder (r : SpanRecord) (t : Tower) (u : Int) : SlotOrder :=
  { node := (r.tower t).hoist
    cls := r.trim
    arg := match t with
      | .a => -u
      | .b => u }

/-- The trim stage (06:R111). -/
def State.trimStage (s : State) (l : LimitRecord) (r : SpanRecord) (skew : Int) : State :=
  let u := trimOf skew (r.gain s.span.correction) l.uMax
  if max r.deadband 1 ≤ (u - s.span.lastTrim).natAbs then
    (s.setField ((s.field.setTrim .a (some (r.trimOrder .a u))).setTrim .b (some (r.trimOrder .b u)))).setSpan
      { s.span with lastTrim := u }
  else s

/-- A stage taken only while the motion state is still RAISING or LOWERING (06:R102, stage 6). -/
def State.whileMoving (s : State) (f : State → State) : State := if s.moving then f s else s

/-- The end of STOPPING by standstill (06:R100). -/
def State.standstillEnd (s : State) : State :=
  let m := match s.span.stopKind with
    | some .arrival => MotionState.idle
    | some .fault => MotionState.stopped
    | none => MotionState.stopped
  (s.setSpan { s.span with stopTimer := none, stopKind := none }).setMotion m

/-- The standstill test of a pair (06:R100). -/
def State.standstillStage (s : State) (r : SpanRecord) (v : Int) : State :=
  if s.span.motion = .stopping then
    let run := if v.natAbs ≤ r.standstill then bump 3 s.span.standstillRun else 0
    let s := s.setSpan { s.span with standstillRun := run }
    if Config.standstillPairs ≤ run then s.standstillEnd else s
  else s

/-- The skew trip (06:R108). -/
def State.skewStage (s : State) (l : LimitRecord) (skew : Int) : State :=
  if l.tSkew < skew.natAbs then s.latchCause .skewTrip else s

/-- What a pair leaves before its watches: the previous pair, the speed, the skew and the pair write (06:R104, R107). -/
def State.pairStage (s : State) (hA hB : Int) (t : Time) : State :=
  let mean := (hA + hB) / 2
  let v := s.span.pairSpeed mean t
  (s.setSpan
    { s.span with
      pairMisses := 0
      pairLost := false
      previous := some { mean := mean, time := t }
      speed := v
      lastSkew := some (hA - hB) }).pairWrite hA hB (hA - hB) mean v

/-- The stages of a pair taken only in RAISING and LOWERING, each while the state is still so (06:R102, stage 6). -/
def State.motionStages (s : State) (l : LimitRecord) (r : SpanRecord) (skew mean v : Int) : State :=
  ((((s.whileMoving fun s => s.correctionStage l skew).whileMoving fun s => s.bandStage r v).whileMoving fun s =>
    s.overspeedStage l mean v).whileMoving fun s => s.arrivalStage r mean).whileMoving fun s => s.trimStage l r skew

/-- Stage 6 of an encoder update (06:R102). `stopping` says that the update arrived in STOPPING. -/
def State.takePair (s : State) (l : LimitRecord) (r : SpanRecord) (stopping : Bool) (hA hB : Int) (t : Time) : State :=
  let skew := hA - hB
  let mean := (hA + hB) / 2
  let s := s.pairStage hA hB t
  let v := s.span.speed
  let s := (s.skewStage l skew).levelStage l skew
  let s := s.motionStages l r skew mean v
  if stopping then s.standstillStage r v else s

/-! ### Pairing (06:R104, R105) -/

/-- The pair time, when two updates pair (06:R104). -/
def pairTime (window : Nat) (tx ty : Time) : Option Time :=
  if elapsed tx ty ≤ window then some tx else if elapsed ty tx ≤ window then some ty else none

/-- Pair loss is announced (06:R105). -/
def State.announceLoss (s : State) : State := ((s.setSpan { s.span with pairLost := true }).pairLossWrite).unlevel

/-- A pair miss (06:R105). -/
def State.pairMiss (s : State) (l : LimitRecord) : State :=
  let n := bump 255 s.span.pairMisses
  let s := (s.setSpan { s.span with pairMisses := n }).occur .pairMiss
  if l.missLimit ≤ n then
    let s := if s.span.pairLost then s else s.announceLoss
    s.motionStop .skewUnknown
  else s

/-- Stage 5: the update pairs with the latest update of the other tower, or is a pair miss (06:R104, R105). -/
def State.pairing (s : State) (l : LimitRecord) (r : SpanRecord) (stopping : Bool) (x : Tower) (h : Int) (t : Time) :
    State :=
  match (s.span.tower x.other).latest with
  | none => s.pairMiss l
  | some u =>
    match pairTime l.window t u.time with
    | none => s.pairMiss l
    | some tp =>
      match x with
      | .a => s.takePair l r stopping h u.height tp
      | .b => s.takePair l r stopping u.height h tp

/-! ### The encoder update (06:R102) -/

/-- Stage 1: the unchanged run (06:R102). -/
def TowerState.unchangedAfter (x : TowerState) (raw : Nat) : Nat :=
  match x.latest with
  | some u => if u.raw = raw then bump 255 x.unchanged else 0
  | none => 0

/-- The stall watch of a tower (06:R116). -/
def State.stallWatch (s : State) (r : SpanRecord) (x : Tower) : State :=
  match s.span.motionStart with
  | none => s
  | some t0 =>
    if r.stallGrace ≤ elapsed s.now t0 ∧ r.stallLimit ≤ (s.span.tower x).unchanged then
      s.motionStop (match x with
        | .a => .encoderStallA
        | .b => .encoderStallB)
    else s

/-- Stages 1 to 6 (06:R102). -/
def State.takeUpdate (s : State) (l : LimitRecord) (r : SpanRecord) (x : Tower) (raw : Nat) (t : Time) : State :=
  let stopping : Bool := s.span.motion == .stopping
  let tower := s.span.tower x
  let h := (r.tower x).height raw
  let s := s.setSpan (s.span.setTower x
    { tower with unchanged := tower.unchangedAfter raw, latest := some { raw := raw, height := h, time := t } })
  let s := s.heightWrite x h
  let s := if (r.tower x).outOfRange raw then s.motionStop .heightRange else s
  let s := s.whileMoving fun s => s.stallWatch r x
  s.pairing l r stopping x h t

/-- An encoder update (06:R102): no action in INIT, and none while the limit record or the span record is absent. -/
def State.encoderUpdate (s : State) (x : Tower) (raw : Nat) (t : Time) : State :=
  match s.unit.limits, s.span.record with
  | some l, some r => if s.unit.mode = .init then s else s.takeUpdate l r x raw t
  | _, _ => s

/-- An encoder point leaves FRESH (06:R106). -/
def State.encoderLost (s : State) : State :=
  if s.unit.mode = .init ∨ s.unit.limits = none then s else s.unlevel.motionStop .skewUnknown

/-! ### Starts (06:R113, R114) -/

/-- The hold-to-run interval (06:R115). -/
def State.holdInterval (s : State) : Nat :=
  match s.unit.limits with
  | some l => l.holdInterval
  | none => Config.defaultHoldInterval

/-- Both encoder points are FRESH and the pair-lost flag is clear (06:R113). -/
def State.skewKnown (s : State) (r : SpanRecord) : Bool := !s.span.pairLost && s.encoderFresh r .a && s.encoderFresh r .b

/-- The two watches of a start (06:R113). -/
def State.startWatches (s : State) (r : SpanRecord) : State :=
  if (s.point 125).value = 0 then s.motionStop .holdLapse
  else if s.skewKnown r then s
  else s.motionStop .skewUnknown

/-- What a start sets, but for the motion state and the correction mode (06:R113). -/
def Span.started (p : Span) (now : Time) (r : SpanRecord) (t : Tower) (up : Bool) : Span :=
  { p with
    trackRun := 0
    lastTrim := 0
    previous := none
    overspeedRun := 0
    towerA := { p.towerA with unchanged := 0, trimLoss := 0 }
    towerB := { p.towerB with unchanged := 0, trimLoss := 0 }
    motionStart := some now
    startWindow := some { hoist := t, up := up, expiry := after now r.startWindow } }

/-- A START DONE in IDLE or STOPPED (06:R113). -/
def State.firstStart (s : State) (r : SpanRecord) (t : Tower) (up : Bool) : State :=
  if s.unit.mode = .init ∨ s.unit.causes.isEmpty = false then s
  else if s.unit.limits = none then
    (((s.placeStop .a).placeStop .b).alert (.motionStop .startFailed)).occur (.motionStop .startFailed)
  else
    (((s.setSpan (s.span.started s.now r t up)).setMotion (if up then .raising else .lowering)).setCorrection
      .acquire).startWatches r

/-- A START DONE in RAISING or LOWERING: `same` says that it is in the direction of the motion (06:R114). -/
def State.laterStart (s : State) (same : Bool) (t : Tower) : State :=
  if same then
    match s.span.startWindow with
    | some w => if w.hoist = t then s else s.setSpan { s.span with startWindow := none }
    | none => s
  else s.motionStop .startFailed

/-- The gate hands over a DONE of an order with this node and class (05:R93, 06:R113, R114). -/
def State.startDone (s : State) (node cls : Nat) : State :=
  match s.span.record with
  | none => s
  | some r =>
    match r.startOf node cls with
    | none => s
    | some (t, up) =>
      match s.span.motion with
      | .idle => s.firstStart r t up
      | .stopped => s.firstStart r t up
      | .raising => s.laterStart up t
      | .lowering => s.laterStart (!up) t
      | .stopping => s.placeStop t

/-! ### Outcomes of trims and stops (06:R101, R118) -/

/-- NODE REFUSED, NO ANSWER, GARBLED or LINK FAULT. -/
def Result.failedOnLink (r : Result) : Bool := r.afterRecheck

/-- The trim-loss count of a hoist. -/
def State.setTrimLoss (s : State) (t : Tower) (n : Nat) : State :=
  s.setSpan (s.span.setTower t { s.span.tower t with trimLoss := n })

/-- The outcome of a trim (06:R118). -/
def State.trimOutcome (s : State) (t : Tower) (r : Result) : State :=
  if s.moving then
    if r = .done then s.setTrimLoss t 0
    else if r.failedOnLink then
      let n := bump 3 (s.span.tower t).trimLoss
      let s := s.setTrimLoss t n
      if Config.trimLossLimit ≤ n then s.motionStop .trimLost else s
    else s
  else s

/-- The outcome of a stop (06:R101). -/
def State.stopOutcome (s : State) (r : Result) : State := if r.failedOnLink then s.latchCause .stopFailed else s

/-! ### The Supervisor's own rows -/

/-- The MOTION HOLD of a reception time is taken (06:R115). -/
def State.takeHold (s : State) (t : Time) : State :=
  (s.setSpan { s.span with lastHold := some t, holdRunning := true }).writePoint 125 1

/-- MOTION_HOLD (06:R115): the oldest frame the Console Port delivered, when it is a MOTION HOLD (01:R8). -/
def execMotionHold (s : State) : Host.Outcome State Fault Refusal :=
  .next (s.whenRunning fun s =>
    match s.console.arrivals with
    | [] => s
    | a :: rest =>
      if a.frame.kind = kindMotionHold then (s.setConsole { s.console with arrivals := rest }).takeHold a.time else s)

/-- The hold timer has expired (06:R115). -/
def State.holdDue (s : State) : Bool :=
  s.span.holdRunning &&
    match s.span.lastHold with
    | some t => s.holdInterval < elapsed s.now t
    | none => false

/-- HOLD_TIMER_EXPIRY (06:R115). -/
def execHoldTimerExpiry (s : State) : Host.Outcome State Fault Refusal :=
  .next (s.whenRunning fun s =>
    if s.holdDue then ((s.setSpan { s.span with holdRunning := false }).writePoint 125 0).motionStop .holdLapse else s)

/-- STOP_TIMER_EXPIRY (06:R101). -/
def execStopTimerExpiry (s : State) : Host.Outcome State Fault Refusal :=
  .next (s.whenRunning fun s =>
    if timerDue s.now s.span.stopTimer ∧ s.span.motion = .stopping then
      (s.setSpan { s.span with stopTimer := none }).latchCause .stopFailed
    else s)

/-- The start window has expired (06:R114). -/
def State.windowDue (s : State) : Bool := timerDue s.now (s.span.startWindow.map (·.expiry))

/-- START_WINDOW_EXPIRY (06:R114): the motion stop discards the window (06:R98). -/
def execStartWindowExpiry (s : State) : Host.Outcome State Fault Refusal :=
  .next (s.whenRunning fun s => if s.windowDue ∧ s.moving then s.motionStop .startFailed else s)

end Sys2Proof.Machine
end

