-- ==== Sys2Proof/Machine/Results.lean ====
section
/-!
DEFINITION. The end of an order: the settling of a signal's last-order memory, the final result to its originator, and
what the Order Gate hands to the Span Supervisor and the Duty Counter Unit (05:R90 to R93, 08:R145).
-/

namespace Sys2Proof.Machine

/-- A memory is settled by the order's final result, provided that it still waits for it (08:R145). -/
def Signal.settle (g : Signal) (x : Result) : Signal :=
  match g.memory with
  | none => g
  | some m =>
    if m.result = .pending then { g with memory := some { m with result := if x = .done then .done else .notDone } } else g

/-- The signal order's memory is settled (08:R145). -/
def State.settleMemory (s : State) (r : OrderRecord) (x : Result) : State :=
  match r.memory with
  | none => s
  | some d => s.setChan (s.chan.setSignal d ((s.chan.signal d).settle x))

/-- The memory of a signal when its order becomes the transaction in flight (08:R145). -/
def State.rememberOrder (s : State) (r : OrderRecord) (signal : Option Direction) : State :=
  match signal with
  | none => s
  | some d =>
    s.setChan (s.chan.setSignal d { s.chan.signal d with memory := some { kind := argKind r.arg, result := .pending } })

/-- The tests made at each settling of a memory: the closing check, then the opening test (08:R149, R152, log 8). -/
def State.memoryTests (s : State) : State := s.channelStep fun s => s.closingCheck.openingTest

/-- The final result reaches the console or the originating block (05:R90). -/
def State.toOriginator (s : State) (r : OrderRecord) (x : Result) (detail : Nat) (transmitted : Bool) : State :=
  match r.origin with
  | .console tag =>
    s.orderResult tag r.node r.cls r.arg x.code detail (resultFlags transmitted r.clamped false)
  | .sequencer serial place => s.entryResult serial place x
  | .channel d .red => s.channelStep fun s => s.redResult d x
  | .channel d .green => s.channelStep fun s => s.greenResult d x

/-- The final result of an order in the gate's keeping (05:R90, R92, R93). A DONE reaches the Span Supervisor before it
reaches the originator, whose next orders then find the motion state in force (05:R93, log 8). -/
def State.finalResult (s : State) (r : OrderRecord) (x : Result) (detail : Nat) (transmitted : Bool) : State :=
  let s := s.settleMemory r x
  let s := if x = .done then s.startDone r.node r.cls else s
  let s := s.toOriginator r x detail transmitted
  let s := if r.memory.isSome then s.memoryTests else s
  s.occur (.orderOutcome r.node x)

/-- The orders of the three queues, in the order in which a stand-down entry cancels them (05:R91). -/
def Gate.queued (g : Gate) : List OrderRecord := g.orders ++ g.held ++ g.own

/-- Every queued order ends CANCELLED; the queues are empty before the results go out, so that a RED offered again in
answer (08:R153) waits in the emptied queue (05:R91, log 35). The occupancy is reported before the results (log 15). -/
def State.cancelQueues (s : State) : State :=
  let out := s.gate.queued
  let s := (s.setGate { s.gate with orders := [], held := [], own := [] }).reportOccupancy
  out.foldl (fun s r => s.finalResult r .cancelled 0 false) s

/-- GATE_STANDDOWN_CANCEL (05:R91): the Order Gate takes a stand-down entry. -/
def execGateStanddownCancel (s : State) : Host.Outcome State Fault Refusal :=
  .next (s.whenRunning fun s =>
    match s.gate.standdowns with
    | 0 => s
    | n + 1 => (s.setGate { s.gate with standdowns := n }).cancelQueues)

end Sys2Proof.Machine
end

