-- ==== Sys2Proof/Machine/Replies.lean ====
section
/-!
DEFINITION. A reply and a miss reach the Point Image (03:R44, R48), and through it the Span Supervisor (03:R51) and the
Channel Controller (03:R52); a rewrite of a map entry (03:R43).
-/

namespace Sys2Proof.Machine

/-- The field points 0 to 111 in ascending order. -/
def fieldPoints : List Nat := List.range 112

/-- The points whose present map entry names the node, with their entries, in ascending order (03:R44). -/
def nodePoints (map : Vector (Option PointEntry) 112) (node : Nat) : List (Nat × PointEntry) :=
  fieldPoints.filterMap fun n =>
    match look map n none with
    | some e => if e.node = node then some (n, e) else none
    | none => none

/-- A point takes a reading, or misses where its bytes lie outside the reply (03:R44). -/
def Point.onReply (p : Point) (e : PointEntry) (payload : List Byte) (t : Time) : Point :=
  if e.inside payload then p.take e payload t else p.miss e.staleLimit

/-- The Supervisor is told of an encoder point that leaves FRESH (06:R106). -/
def State.encoderLoss (s : State) (before : State) (r : SpanRecord) (t : Tower) : State :=
  if before.encoderFresh r t && !s.encoderFresh r t then s.encoderLost else s

/-- After a change of field points: the span points are settled, then the Supervisor learns of the encoder points that
left FRESH (03:R54, R55; 06:R106). `before` holds the points as the event found them. -/
def State.encodersAfter (s : State) (before : State) : State :=
  let s := s.settleSpanPoints
  match s.span.record with
  | none => s
  | some r => (s.encoderLoss before r .a).encoderLoss before r .b

/-- The encoder update of a tower, when the reply carries a U24 reading of its encoder point (03:R51). -/
def State.encoderReading (s : State) (ps : List (Nat × PointEntry)) (payload : List Byte) (t : Time) (x : Tower) :
    State :=
  match s.span.record with
  | none => s
  | some r =>
    match ps.find? fun q => q.1 == (r.tower x).encoder with
    | none => s
    | some q =>
      if q.2.width = .u24 ∧ q.2.inside payload = true then s.encoderUpdate x (u24 payload q.2.offset) t else s

/-- A CALL point whose value has changed to a nonzero tag offers a vessel call (03:R52). -/
def State.offerCall (s : State) (before : State) (q : Nat × PointEntry) : State :=
  let p := s.point q.1
  if q.2.width = .call ∧ p.value ≠ 0 ∧ p.value ≠ (before.point q.1).value then
    s.channelStep fun s => s.vesselCall p.value.toNat p.direction
  else s

/-- A good reply is decoded (03:R44): readings and misses in ascending point number, the updates of towers A and B, one
point change for all of it, then the vessel calls. Where the reply makes the encoder point of one tower leave FRESH and
carries an update of the other, the Supervisor takes the loss first (06:R106): the manual gives no order (03:R51,
log 8). -/
def State.decodeReply (s : State) (node : Nat) (payload : List Byte) (t : Time) : State :=
  let ps := nodePoints s.points.map node
  let u := s.pointEvent fun v =>
    let v := ps.foldl (fun v q => v.setPoint q.1 ((v.point q.1).onReply q.2 payload t)) v
    let v := v.encodersAfter s
    (v.encoderReading ps payload t .a).encoderReading ps payload t .b
  ps.foldl (fun v q => v.offerCall s q) u

/-- A MISS of a node reaches its points (03:R48). -/
def State.missNode (s : State) (node : Nat) : State :=
  s.pointEvent fun v =>
    ((nodePoints s.points.map node).foldl (fun v q => v.setPoint q.1 ((v.point q.1).miss q.2.staleLimit)) v).encodersAfter s

/-- A map entry is written or cleared, and its point returns to its first state (03:R43). -/
def State.rewritePoint (s : State) (n : Nat) (e : Option PointEntry) : State :=
  s.pointEvent fun v =>
    ((v.setPoints { v.points with map := put v.points.map n e }).setPoint n Point.first).encodersAfter s

/-- The span record is written or cleared: what the Supervisor discards (06:R96), and the settling of points 112 to 116
(03:R55). -/
def State.writeSpanRecord (s : State) (r : Option SpanRecord) : State :=
  let p := s.span
  (s.setSpan
    { p with
      record := r
      towerA := { p.towerA with latest := none, unchanged := 0 }
      towerB := { p.towerB with latest := none, unchanged := 0 }
      previous := none }).pointEvent State.settleSpanPoints

end Sys2Proof.Machine
end

