-- ==== Sys2Proof/Machine/FieldEngine.lean ====
section
/-!
DEFINITION. The Field Engine (02_field_transactions_and_the_scan_list): the node status table, the transaction and
its ends, the scan list, the transmit arbiter and ALL-STOP.
-/

namespace Sys2Proof.Machine

/-! ### The node status table (02:R38, R39) -/

/-- The number of SILENT nodes (02:R39). -/
def silentNodes (nodes : Vector NodeRecord 100) : Nat := (nodes.toList.filter fun r => r.state == .silent).length

def nodeRecord (f : Field) (node : Nat) : NodeRecord := look f.nodes (node - 1) NodeRecord.reset

/-- The record of node 1 to 100 replaced. -/
def Field.setNode (f : Field) (node : Nat) (r : NodeRecord) : Field :=
  if node = 0 then f else { f with nodes := put f.nodes (node - 1) r }

/-- Point 126 follows the number of SILENT nodes (02:R39). -/
def State.writeSilent (s : State) : State := s.writePoint 126 (silentNodes s.field.nodes)

/-- A frame sets the node ANSWERING (02:R38). -/
def State.nodeAnswers (s : State) (node : Nat) (t : Time) : State :=
  let was := (nodeRecord s.field node).state
  let s := s.setField (s.field.setNode node { state := .answering, misses := 0, lastGood := some t })
  if was = .silent then (s.alert (.nodeAnswering node)).writeSilent else s

/-- A miss of the node is counted (02:R39) and reported (02:R40). -/
def State.nodeMisses (s : State) (node : Nat) : State :=
  let r := nodeRecord s.field node
  let n := bump 15 r.misses
  let falls : Bool := s.field.silentLimit ≤ n && r.state != .silent
  let s := s.setField (s.field.setNode node { r with misses := n, state := if falls then .silent else r.state })
  let s := if falls then (s.alert (.nodeSilent node)).writeSilent else s
  s.occur (.nodeMiss node)

/-! ### The transaction (02:R20 to R26) -/

/-- A transaction begins: it takes the next tag and its frame is being sent; the receiver hunts, and arrivals not yet
taken belong to no transaction (02:R20, R24; 01:R8; log 24). -/
def State.beginTransaction (s : State) (source : TxSource) (node cls : Nat) (arg : Int) : State :=
  s.setField
    { s.field with
      tx := some
        { source := source, node := node, cls := cls, arg := arg, tag := s.field.nextTag, abandoned := 0
          transmitted := false }
      nextTag := s.field.nextTag + 1
      link := .sending
      echo := []
      receiver := .hunting
      arrivals := [] }

/-- The frame of a transaction (02:R20): a POLL of length 0, or an ORDER with its class in payload byte 0 and its argument
in bytes 1 and 2. -/
def Transaction.frame (tx : Transaction) : Frame :=
  { kind := if tx.source = .poll then kindPoll else kindFieldOrder
    node := byte tx.node
    tag := tx.tag
    payload := if tx.source = .poll then [] else byte tx.cls :: beS16 tx.arg }

/-- The consecutive contention count after a transaction (02:R26). -/
def contentionAfter (tx : Transaction) (n : Nat) : Nat := if tx.abandoned = 0 then 0 else bump 255 n

/-- The transaction ends: TURNAROUND begins, with the receiver in HUNTING, and the contention count changes (02:R19, R26).
A frame in assembly is dropped with it, uncounted; so is the one that the marked character of a TRUNCATED fault has begun
(01:R6, log 16). That FIELD CONTENTION is reported, with the stand-down entry it may make, before the outcome reaches its
owner is the model's order (log 8). -/
def State.endTransaction (s : State) (tx : Transaction) : State :=
  let n := contentionAfter tx s.field.contention
  let s := s.setField { s.field with link := .turnaround, tx := none, receiver := .hunting, contention := n }
  if tx.abandoned ≠ 0 ∧ Config.contentionLimit ≤ n then s.latchCause .fieldContention else s

/-- The outcome of an order goes to its owner (02:R23). -/
def State.orderOutcome (s : State) (tx : Transaction) (x : Result) (detail : Nat) : State :=
  match tx.source with
  | .poll => s
  | .order r => s.finalResult r x detail tx.transmitted
  | .trim t => s.trimOutcome t x
  | .stop _ => s.stopOutcome x

/-- A poll ends as a MISS (02:R22). -/
def State.pollMiss (s : State) (tx : Transaction) : State := ((s.endTransaction tx).missNode tx.node).nodeMisses tx.node

/-- An order ends (02:R23). -/
def State.endOrder (s : State) (tx : Transaction) (x : Result) (detail : Nat) : State :=
  (s.endTransaction tx).orderOutcome tx x detail

/-- The frame comes from the node addressed and carries the transaction's tag (02:R22, R23). -/
def Transaction.answeredBy (tx : Transaction) (f : Frame) : Bool := f.node.toNat == tx.node && f.tag == tx.tag

/-- A good frame ends a poll (02:R22). -/
def State.pollAnswer (s : State) (tx : Transaction) (a : Arrival) : State :=
  if tx.answeredBy a.frame = true ∧ a.frame.kind = kindReply then
    ((s.endTransaction tx).decodeReply tx.node a.frame.payload a.time).nodeAnswers tx.node a.time
  else s.pollMiss tx

/-- A good frame ends an order (02:R23). -/
def State.orderAnswer (s : State) (tx : Transaction) (a : Arrival) : State :=
  if tx.answeredBy a.frame = true ∧ a.frame.kind = kindAck then (s.endOrder tx .done 0).nodeAnswers tx.node a.time
  else if tx.answeredBy a.frame = true ∧ a.frame.kind = kindNak then
    (s.endOrder tx .nodeRefused (u8 a.frame.payload 0)).nodeAnswers tx.node a.time
  else s.endOrder tx .garbled 0

/-- A transaction is in AWAITING. -/
def Field.awaited (f : Field) : Option Transaction :=
  match f.link with
  | .awaiting _ => f.tx
  | .idle => none
  | .sending => none
  | .turnaround => none
  | .breaking => none

/-- A good frame reaches the Field Engine: it ends the transaction in AWAITING, or is discarded (02:R22 to R24). -/
def State.judgeFrame (s : State) (a : Arrival) : State :=
  match s.field.awaited with
  | none => s
  | some tx => if tx.source = .poll then s.pollAnswer tx a else s.orderAnswer tx a

/-- A receive fault reaches the Field Engine (02:R22 to R24). -/
def State.judgeFault (s : State) : State :=
  match s.field.awaited with
  | none => s
  | some tx => if tx.source = .poll then s.pollMiss tx else s.endOrder tx .garbled 0

/-- The frames delivered and not yet taken are judged, oldest first (01:R8, log 24). -/
def State.judgeArrivals (s : State) : State :=
  s.field.arrivals.foldl State.judgeFrame (s.setField { s.field with arrivals := [] })

/-- FIELD_FRAME_RECEIVED (01:R8, 02:R22, R23, R24): the oldest good field frame is judged. -/
def execFieldFrameReceived (s : State) : Host.Outcome State Fault Refusal :=
  .next (s.whenRunning fun s =>
    match s.field.arrivals with
    | [] => s
    | a :: rest => (s.setField { s.field with arrivals := rest }).judgeFrame a)

/-- The reply timeout has expired with the receiver HUNTING (02:R21). -/
def State.timedOut (s : State) : Bool :=
  match s.field.link with
  | .awaiting e => due s.now e && s.field.receiver == .hunting && s.field.arrivals.isEmpty
  | .idle => false
  | .sending => false
  | .turnaround => false
  | .breaking => false

/-- The transaction ends with no answer (02:R21 to R23). -/
def State.noAnswer (s : State) : State :=
  match s.field.tx with
  | none => s
  | some tx => if tx.source = .poll then s.pollMiss tx else (s.endOrder tx .noAnswer 0).nodeMisses tx.node

/-- REPLY_TIMEOUT (02:R21). -/
def execReplyTimeout (s : State) : Host.Outcome State Fault Refusal :=
  .next (s.whenRunning fun s => if s.timedOut then s.noAnswer else s)

/-- FRAME_FULLY_SENT (02:R20): AWAITING begins, and a trim is reported when first sent (02:R40). -/
def State.fullySent (s : State) (tx : Transaction) : State :=
  let s := s.setField
    { s.field with
      link := .awaiting (after s.now s.field.replyTimeout)
      tx := some { tx with transmitted := true }
      receiver := .hunting }
  match tx.source with
  | .trim _ => if tx.transmitted then s else s.occur (.trimSent tx.node)
  | .poll => s
  | .order _ => s
  | .stop _ => s

/-- The transaction whose frame is being sent. -/
def Field.sendingTx (f : Field) : Option Transaction := if f.link = .sending then f.tx else none

/-- A character read back while the frame of `tx` is being sent joins those read back before it, as long as these agree
with the characters sent and the frame goes on (01:R8, R12). -/
def State.readBack (s : State) (tx : Transaction) (c : Character) : State :=
  let sent := tx.frame.characters
  if s.field.echo.isPrefixOf sent && s.field.echo != sent then
    s.setField { s.field with echo := s.field.echo ++ [c] }
  else s

/-- FRAME_FULLY_SENT (02:R20): the characters read back are those of the frame (01:R12). -/
def execFrameFullySent (s : State) : Host.Outcome State Fault Refusal :=
  .next (s.whenRunning fun s =>
    match s.field.sendingTx with
    | some tx => if s.field.echo = tx.frame.characters then s.fullySent tx else s
    | none => s)

/-- The third attempt is abandoned: a poll ends as a MISS, an order in LINK FAULT (02:R25), and a LINK FAULT event is
reported (02:R40). The model reports it last, behind the ORDER OUTCOME of an order and the NODE MISS of a poll: the
manual gives no order (log 8). -/
def State.linkFault (s : State) (tx : Transaction) : State :=
  (if tx.source = .poll then s.pollMiss tx else s.endOrder { tx with transmitted := false } .linkFault 0).occur
    (.linkFault tx.node)

/-- An attempt is abandoned by contention (02:R25): TURNAROUND begins, with the receiver in HUNTING (02:R19). -/
def State.abandon (s : State) (tx : Transaction) : State :=
  let tx := { tx with abandoned := tx.abandoned + 1 }
  if Config.attempts ≤ tx.abandoned then s.linkFault tx
  else s.setField { s.field with link := .turnaround, tx := some tx, receiver := .hunting }

/-- CONTENTION (02:R25), at the end of a character: the last character read back differs from the one sent, or none has
been read back for the one being sent (01:R12). -/
def execContention (s : State) : Host.Outcome State Fault Refusal :=
  .next (s.whenRunning fun s =>
    match s.field.sendingTx with
    | some tx => if s.field.echo = tx.frame.characters then s else s.abandon tx
    | none => s)

/-! ### ALL-STOP (02:R32, R33) -/

/-- What becomes of the transaction that a break cuts (02:R33). -/
def State.cutOutcome (s : State) (tx : Option Transaction) : State :=
  match tx with
  | none => s
  | some tx => s.orderOutcome tx .cancelled 0

/-- The break begins: the request becomes absent, the link state BREAK, the four slots are emptied, and the transaction
in flight is cut (02:R32, R33). -/
def State.beginBreak (s : State) : State :=
  let tx := s.field.tx
  (s.setField
    { s.field with
      allStop := false
      link := .breaking
      tx := none
      trimA := none
      trimB := none
      stopA := none
      stopB := none
      receiver := .hunting
      arrivals := [] }).cutOutcome tx

/-- ALL_STOP_BREAK (02:R32): a request is present and the link state is not BREAK. -/
def execAllStopBreak (s : State) : Host.Outcome State Fault Refusal :=
  .next (s.whenRunning fun s => if s.field.allStop = true ∧ s.field.link ≠ .breaking then s.beginBreak else s)

/-! ### The scan list (02:R35 to R37) -/

/-- The slot is present and enabled. -/
def activeSlot (slot : Option ScanSlot) : Bool :=
  match slot with
  | some x => x.enabled
  | none => false

/-- The slot is due in a cycle (02:R35). -/
def dueSlot (cycle : Nat) (slot : Option ScanSlot) : Bool :=
  match slot with
  | some x => x.enabled && cycle % x.divisor == 0
  | none => false

/-- The slot numbers from p to 31. -/
def slotsFrom (p : Nat) : List Nat := (List.range 32).drop p

/-- The first slot from p to 31 of the kind asked for. -/
def firstSlot (list : Vector (Option ScanSlot) 32) (p : Nat) (f : Option ScanSlot → Bool) : Option Nat :=
  (slotsFrom p).find? fun i => f (look list i none)

/-- A poll found by a search: the slot and the cycle count in which it is due. -/
structure Found where
  slot : Nat
  cycle : Nat
deriving DecidableEq, Repr

/-- The search of CONTINUOUS, cycle by cycle; the first argument bounds the cycles (02:R35). -/
def continuousSearch (list : Vector (Option ScanSlot) 32) : Nat → Nat → Nat → Option Found
  | 0, _, _ => none
  | k + 1, pointer, cycle =>
    match firstSlot list pointer (dueSlot cycle) with
    | some i => some { slot := i, cycle := cycle }
    | none => continuousSearch list k 0 ((cycle + 1) % Config.cycles)

/-- A slot of the scan list is present and enabled. -/
def Field.anyActive (f : Field) : Bool := (firstSlot f.scanList 0 activeSlot).isSome

/-- A scan is running (02:R28). -/
def Field.scanRunning (f : Field) : Bool := f.scanMode != .stopped && f.anyActive

/-- The node of a slot. -/
def Field.slotNode (f : Field) (i : Nat) : Nat :=
  match look f.scanList i none with
  | some x => x.node
  | none => 0

/-- A poll of a node is chosen: the credit returns to 0 (02:R28). -/
def State.beginPoll (s : State) (node : Nat) : State :=
  (s.setField { s.field with credit := 0 }).beginTransaction .poll node 0 0

/-- What a choice comes to. -/
inductive Choice
  /-- Something begins, or nothing is there to send. -/
  | settled (s : State)
  /-- The arbiter chooses again, from IDLE (02:R29). -/
  | again (s : State)

/-- The next poll in CONTINUOUS (02:R35), else what `other` chooses. -/
def State.choosePollContinuous (s : State) (other : State → Choice) : Choice :=
  if s.field.anyActive then
    match continuousSearch s.field.scanList (Config.cycles + 1) s.field.pointer s.field.cycle with
    | some x =>
      .settled ((s.setField
        { s.field with
          pointer := if x.slot = 31 then 0 else x.slot + 1
          cycle := if x.slot = 31 then (x.cycle + 1) % Config.cycles else x.cycle }).beginPoll (s.field.slotNode x.slot))
    | none => other s
  else other s

/-- The next poll in SINGLE, or the end of the sweep (02:R37), after which `other` chooses. -/
def State.choosePollSingle (s : State) (other : State → Choice) : Choice :=
  match firstSlot s.field.scanList s.field.sweep activeSlot with
  | some i => .settled ((s.setField { s.field with sweep := i + 1 }).beginPoll (s.field.slotNode i))
  | none => other ((s.setField { s.field with scanMode := .stopped }).alert .scanDone)

/-- The arbiter reaches the scan-list poll (02:R27, R36). -/
def State.choosePoll (s : State) (other : State → Choice) : Choice :=
  match s.field.scanMode with
  | .continuous => s.choosePollContinuous other
  | .single => s.choosePollSingle other
  | .stopped => other s

/-! ### The transmit arbiter (02:R27 to R29) -/

/-- The order waiting in a stop slot begins; the credit is unchanged (02:R28, R31). -/
def State.beginStop (s : State) (t : Tower) (o : SlotOrder) : State :=
  (s.setField (s.field.setStop t none)).beginTransaction (.stop t) o.node o.cls o.arg

/-- The poll credit after a transaction from items 3 to 5 (02:R28). -/
def State.spendCredit (s : State) : State := s.setField { s.field with credit := bump Config.creditMax s.field.credit }

/-- The trim waiting in a trim slot begins (02:R28, R30). -/
def State.beginTrim (s : State) (t : Tower) (o : SlotOrder) : State :=
  ((s.setField (s.field.setTrim t none)).spendCredit).beginTransaction (.trim t) o.node o.cls o.arg

/-- An order removed from its queue is re-checked; it begins, or ends REVOKED and the arbiter chooses again (02:R29,
05:R89, 08:R145). -/
def State.takeOrder (s : State) (r : OrderRecord) : Choice :=
  match s.recheck r with
  | .revoked detail => .again (s.finalResult r .revoked detail false)
  | .passes signal =>
    .settled (((s.rememberOrder r signal).spendCredit).beginTransaction (.order { r with memory := signal }) r.node r.cls
      r.arg)

/-- Items 4 and 5: the heads of the own-order queue and the order queue, else what `other` chooses (02:R27). The order
that leaves its queue is reported as gone before its re-check (05:R93, log 15). -/
def State.chooseOrder (s : State) (other : State → Choice) : Choice :=
  match s.gate.own with
  | r :: rest => (s.setGate { s.gate with own := rest }).takeOrder r
  | [] =>
    match s.gate.orders with
    | r :: rest => (s.setGate { s.gate with orders := rest }).reportOccupancy.takeOrder r
    | [] => other s

/-- Items 3 to 5, else what `other` chooses (02:R27). -/
def State.chooseWaiting (s : State) (other : State → Choice) : Choice :=
  match s.field.trimA, s.field.trimB with
  | some o, _ => .settled (s.beginTrim .a o)
  | none, some o => .settled (s.beginTrim .b o)
  | none, none => s.chooseOrder other

/-- Items 3 to 6, in the order that the poll credit gives (02:R27, R28). -/
def State.chooseRest (s : State) : Choice :=
  if s.field.credit = Config.creditMax ∧ s.field.scanRunning = true then
    s.choosePoll fun s => s.chooseWaiting Choice.settled
  else s.chooseWaiting fun s => s.choosePoll Choice.settled

/-- One choice of the arbiter, the link being IDLE (02:R27). -/
def State.chooseOnce (s : State) : Choice :=
  if s.field.allStop then .settled s.beginBreak
  else
    match s.field.stopA, s.field.stopB with
    | some o, _ => .settled (s.beginStop .a o)
    | none, some o => .settled (s.beginStop .b o)
    | none, none => s.chooseRest

/-- The choices of one event: after each REVOKED order the arbiter chooses again (02:R29). The first argument bounds the
choices (log 26). -/
def chooseLoop : Nat → State → State
  | 0, s => s
  | k + 1, s =>
    match s.chooseOnce with
    | .settled s => s
    | .again s => if s.field.link = .idle then chooseLoop k s else s

/-- The bound of the choices of one event (log 26). -/
def choiceBound : Nat := 64

/-- The arbiter chooses, the link state being IDLE (02:R27). -/
def State.arbitrate (s : State) : State := chooseLoop choiceBound s

/-- The link state becomes IDLE, and the arbiter chooses in the same event (02:R19, R27). -/
def State.fallIdle (s : State) : State := (s.setField { s.field with link := .idle }).arbitrate

/-- ARBITER_CHOICE (02:R27): the choice made when something to send appears while the link state is IDLE. It is an event
of its own, behind the one in which that appears (log 38). -/
def execArbiterChoice (s : State) : Host.Outcome State Fault Refusal :=
  .next (s.whenRunning fun s => if s.field.link = .idle then s.arbitrate else s)

/-- BREAK_IDLE_END (01:R11, 02:R27, R32): the link falls IDLE and the arbiter chooses; a request for ALL-STOP made during
the break begins a second break. -/
def execBreakIdleEnd (s : State) : Host.Outcome State Fault Refusal :=
  .next (s.whenRunning fun s => if s.field.link = .breaking then s.fallIdle else s)

/-- TURNAROUND_END (02:R19): the retry begins, or the link falls IDLE and the arbiter chooses (02:R27); an ALL-STOP request
present begins its break (02:R25, R32). -/
def execTurnaroundEnd (s : State) : Host.Outcome State Fault Refusal :=
  .next (s.whenRunning fun s =>
    if s.field.link = .turnaround then
      if s.field.tx.isNone then s.fallIdle
      else if s.field.allStop then s.beginBreak
      else s.setField { s.field with link := .sending, echo := [], receiver := .hunting, arrivals := [] }
    else s)

end Sys2Proof.Machine
end

