-- ==== Sys2Proof/Machine/Links.lean ====
section
/-!
DEFINITION. The links (01_links_characters_and_frames): the frame receivers, the break detectors, the ingress queue
and the console transmitter. Each kind of character has its own row: a row acts only where its own case of 01:R4 applies
(log 1).
-/

namespace Sys2Proof.Machine

/-! ### The receivers -/

def State.receiver (s : State) : Link → Receiver
  | .console => s.console.receiver
  | .field => s.field.receiver

def State.setReceiver (s : State) (l : Link) (r : Receiver) : State :=
  match l with
  | .console => s.setConsole { s.console with receiver := r }
  | .field => s.setField { s.field with receiver := r }

/-- The field receive line shows what others send: no break of it is under way, and the controller itself does not send
(01:R8, R10, R11). -/
def State.listens (s : State) : Bool :=
  s.field.line == .mark && s.field.link != .sending && s.field.link != .breaking

/-- The receiver takes characters: not during a break of the line, and on the field link not while the controller itself
sends (01:R8, R9, R10, R11) nor in TURNAROUND, during which it drives the line idle and the receiver is in HUNTING
(02:R19, log 16). -/
def State.hears (s : State) : Link → Bool
  | .console => s.console.line == .mark
  | .field => s.listens && s.field.link != .turnaround

/-- The frame in assembly, when the receiver takes characters. -/
def State.assembly (s : State) (l : Link) : Option (List Byte) :=
  if s.hears l then
    match s.receiver l with
    | .assembling bytes => some bytes
    | .hunting => none
  else none

/-- A fault count of a link is changed (01:R17). -/
def State.count (s : State) (l : Link) (f : LinkCounts → LinkCounts) : State :=
  match l with
  | .console => s.setConsole { s.console with counts := f s.console.counts }
  | .field => s.setField { s.field with counts := f s.field.counts }

/-- A receive fault is reported to the Field Engine, behind the frames the line produced before it (01:R8, log 24); on
the console link a fault is only counted. -/
def State.reportFault (s : State) : Link → State
  | .console => s
  | .field => s.judgeArrivals.judgeFault

/-- A fault of a frame in assembly: counted, the receiver left as given, and reported (01:R4 to R7). -/
def State.receiveFault (s : State) (l : Link) (f : LinkCounts → LinkCounts) (r : Receiver) : State :=
  ((s.count l f).setReceiver l r).reportFault l

/-! ### Frames (01:R3, R4, R7) -/

/-- Largest payload of a link (01:R7). -/
def payloadMax : Link → Nat
  | .console => Config.consolePayloadMax
  | .field => Config.fieldPayloadMax

/-- The length is one that the kind carries inward on this link (01:R7). -/
def inwardLength (l : Link) (kind : Byte) (n : Nat) : Bool :=
  match l with
  | .console =>
    (kind == kindConsoleOrder && n == 3) || (kind == kindRequest && 1 ≤ n && n ≤ 200) || (kind == kindMotionHold && n == 0)
  | .field => (kind == kindReply && n ≤ 24) || (kind == kindAck && n == 0) || (kind == kindNak && n == 1)

/-- A length character that its frame may carry (01:R7). -/
def lengthAllowed (l : Link) (kind : Byte) (n : Nat) : Bool := n ≤ payloadMax l && inwardLength l kind n

/-- The next character is the length character. -/
def lengthNext (bytes : List Byte) : Bool := bytes.length == 3

/-- Exactly one character is still needed: the second check character (01, section 1.3). -/
def lastNext (bytes : List Byte) : Bool := 4 ≤ bytes.length && bytes.length == u8 bytes 3 + 5

/-- The frame without its check. -/
def parseFrame (all : List Byte) : Frame :=
  { kind := all[0]?.getD 0, node := all[1]?.getD 0, tag := all[2]?.getD 0, payload := (all.drop 4).take (u8 all 3) }

/-- The check received equals the check computed (01:R3). -/
def checkHolds (all : List Byte) : Bool := (frameCheck (all.take (u8 all 3 + 4))).toNat == u16 all (u8 all 3 + 4)

/-- A good frame is delivered with its reception time (01:R8). -/
def State.deliver (s : State) (l : Link) (f : Frame) : State :=
  match l with
  | .console => s.setConsole { s.console with arrivals := s.console.arrivals ++ [{ frame := f, time := s.now }] }
  | .field => s.setField { s.field with arrivals := s.field.arrivals ++ [{ frame := f, time := s.now }] }

/-- The second check character has arrived (01:R3, R4). -/
def State.completeFrame (s : State) (l : Link) (all : List Byte) : State :=
  if checkHolds all then (s.setReceiver l .hunting).deliver l (parseFrame all)
  else s.receiveFault l LinkCounts.addCheck .hunting

/-! ### The rows of the receivers -/

/-- FRAME_COMPLETE (01:R3, R4). -/
def execFrameComplete (l : Link) (data : Byte) (s : State) : Host.Outcome State Fault Refusal :=
  .next (s.whenRunning fun s =>
    match s.assembly l with
    | some bytes => if lastNext bytes then s.completeFrame l (bytes ++ [data]) else s
    | none => s)

/-- BAD_STOP_BIT (01:R4). -/
def execBadStopBit (l : Link) (s : State) : Host.Outcome State Fault Refusal :=
  .next (s.whenRunning fun s =>
    match s.assembly l with
    | some _ => s.receiveFault l LinkCounts.addCheck .hunting
    | none => s)

/-- GAP_FAULT (01:R5). -/
def execGapFault (l : Link) (s : State) : Host.Outcome State Fault Refusal :=
  .next (s.whenRunning fun s =>
    match s.assembly l with
    | some _ => s.receiveFault l LinkCounts.addGap .hunting
    | none => s)

/-- TRUNCATED_FAULT (01:R6): the marked character is the kind of a new frame. Where the fault, which is then reported, ends
a transaction, TURNAROUND puts the receiver in HUNTING (02:R19, log 16). -/
def execTruncatedFault (l : Link) (data : Byte) (s : State) : Host.Outcome State Fault Refusal :=
  .next (s.whenRunning fun s =>
    match s.assembly l with
    | some _ => s.receiveFault l LinkCounts.addTruncated (.assembling [data])
    | none => s)

/-- LENGTH_FAULT (01:R7). -/
def execLengthFault (l : Link) (data : Byte) (s : State) : Host.Outcome State Fault Refusal :=
  .next (s.whenRunning fun s =>
    match s.assembly l with
    | some bytes =>
      if lengthNext bytes && !lengthAllowed l (bytes[0]?.getD 0) data.toNat then
        s.receiveFault l LinkCounts.addLength .hunting
      else s
    | none => s)

/-- An unmarked character is appended when it neither completes its frame nor ends it by its length (01:R4). -/
def appendable (l : Link) (bytes : List Byte) (data : Byte) : Bool :=
  !lastNext bytes && (!lengthNext bytes || lengthAllowed l (bytes[0]?.getD 0) data.toNat)

/-- A kind character has come after the reply timeout expired: it meets no timeout, and the transaction has ended with no
answer (02:R21). -/
def State.tooLate (s : State) : Link → Bool → Bool
  | .field, true => s.timedOut
  | _, _ => false

/-- The transaction whose frame the controller is sending, when the character is one of the field link: what is received
then goes to the comparison (01:R8, R12). -/
def State.comparing (s : State) : Link → Option Transaction
  | .field => s.field.sendingTx
  | .console => none

/-- A valid character reaches the receiver (01:R4): it starts a frame, continues one, or is ignored. A kind
character that comes after the reply timeout finds the transaction ended by that timeout, and so the line in TURNAROUND
(02:R19, R21, R24, log 39). -/
def State.takeCharacter (s : State) (l : Link) (c : Character) : State :=
  if s.hears l then
    match s.receiver l with
    | .hunting =>
      if s.tooLate l c.mark then s.noAnswer
      else if c.mark then s.setReceiver l (.assembling [c.data]) else s
    | .assembling bytes =>
      if !c.mark && appendable l bytes c.data then s.setReceiver l (.assembling (bytes ++ [c.data])) else s
  else s

/-- VALID_CHARACTER (01:R4, R12). -/
def execValidCharacter (l : Link) (markBit : Bool) (data : Byte) (s : State) : Host.Outcome State Fault Refusal :=
  .next (s.whenRunning fun s =>
    match s.comparing l with
    | some tx => s.readBack tx { data := data, mark := markBit }
    | none => s.takeCharacter l { data := data, mark := markBit })

/-! ### Breaks (01:R9, R10) -/

/-- LINE_BREAK (01:R9). -/
def execLineBreak (s : State) : Host.Outcome State Fault Refusal :=
  .next (s.whenRunning fun s =>
    if s.console.line = .mark then
      (s.setConsole { s.console with line := .broken, receiver := .hunting }).latchCause .consoleBreak
    else s)

/-- LINE_MARK (01:R9). -/
def execLineMark (s : State) : Host.Outcome State Fault Refusal :=
  .next (s.whenRunning fun s => s.setConsole { s.console with line := .mark })

/-- FIELD_BREAK (01:R10): seen by the receiver only while the controller does not itself send. After the reply timeout it
finds the transaction ended (02:R21, log 39). -/
def execFieldBreak (s : State) : Host.Outcome State Fault Refusal :=
  .next (s.whenRunning fun s =>
    if s.listens then
      let s := if s.timedOut then s.noAnswer else s
      (s.setField { s.field with line := .broken }).receiveFault .field LinkCounts.addGap .hunting
    else s)

/-- FIELD_LINE_MARK (01:R10). -/
def execFieldLineMark (s : State) : Host.Outcome State Fault Refusal :=
  .next (s.whenRunning fun s => s.setField { s.field with line := .mark })

/-! ### The console queues (01:R13, R16) -/

/-- A frame of the console that the ingress queue takes (01:R8). -/
def queued (f : Frame) : Bool := f.kind == kindConsoleOrder || f.kind == kindRequest

/-- A good frame joins the ingress queue, or is dropped and counted (01:R13). -/
def Console.join (c : Console) (f : Frame) : Console :=
  if c.ingress.length < Config.ingressCapacity then { c with ingress := c.ingress ++ [f] }
  else { c with ingressOverflows := countUp c.ingressOverflows }

/-- CONSOLE_FRAME_RECEIVED (01:R13): the oldest frame delivered, when it is an ORDER or a MGMT REQUEST. -/
def execConsoleFrameReceived (s : State) : Host.Outcome State Fault Refusal :=
  .next (s.whenRunning fun s =>
    match s.console.arrivals with
    | [] => s
    | a :: rest =>
      if queued a.frame then s.setConsole (({ s.console with arrivals := rest } : Console).join a.frame) else s)

/-- EGRESS_FRAME_START (01:R16). -/
def execEgressFrameStart (s : State) : Host.Outcome State Fault Refusal :=
  .next (s.whenRunning fun s =>
    if s.console.egress.isEmpty then s else s.setConsole { s.console with sending := true })

/-- The code of RESTART (01, section 1.10). -/
def restartCode : Nat := 25

/-- The response to an accepted RESTART (10:R181). -/
def restartResponse (f : Frame) : Bool := f.kind == kindResponse && f.payload == [byte restartCode, 0, 0]

/-- The console transmitter has sent the head of the egress queue (01:R16); with the response to an accepted RESTART the
warm reset begins (10:R181), which WARM_RESET carries out (log 22). -/
def Console.headSent (c : Console) : Console :=
  match c.egress with
  | [] => c
  | f :: rest =>
    { c with
      egress := rest
      sending := false
      restart := if c.restart = .waiting ∧ restartResponse f = true then .sent else c.restart }

/-- EGRESS_FRAME_SENT (01:R16). -/
def execEgressFrameSent (s : State) : Host.Outcome State Fault Refusal :=
  .next (s.whenRunning fun s => if s.console.sending then s.setConsole s.console.headSent else s)

end Sys2Proof.Machine
end

