-- ==== Sys2Proof/Machine/Operands.lean ====
section
/-!
DEFINITION. The layouts of the tables and records on the console link (01, section 1.10): reading the contents of a
WRITE ENTRY or WRITE LIMITS with the range checks of the owners, and laying an entry out again for a read. The reading
is given contents of the right size (11:R183); `none` is the refusal RANGE (11:R184).
-/

namespace Sys2Proof.Machine

/-! ### Small codes -/

/-- A flag or a two-valued code: 0 or 1 (01, section 1.10). -/
def flagOf (n : Nat) : Option Bool := if n = 0 then some false else if n = 1 then some true else none

/-- A number up to `top`, or 255 for absent. -/
def optionalTo (top n : Nat) : Option (Option Nat) := if n = 255 then some none else if n ≤ top then some (some n) else none

/-- A number of the range, or 255 for ANY. -/
def rangeOrAny (lo hi n : Nat) : Option (Option Nat) :=
  if n = 255 then some none else if lo ≤ n ∧ n ≤ hi then some (some n) else none

/-- 255 stands for absent or ANY. -/
def encodeOptional : Option Nat → Nat
  | some n => n
  | none => 255

/-- A field node number. -/
def isNode (n : Nat) : Bool := 1 ≤ n && n ≤ 100

/-- The bytes from place i. -/
def bytesFrom (b : List Byte) (i : Nat) : List Byte := b.drop i

/-- A run of bytes cut into pieces of k, as many as n. -/
def pieces (k : Nat) : Nat → List Byte → List (List Byte)
  | 0, _ => []
  | n + 1, b => b.take k :: pieces k n (b.drop k)

/-- Every piece read, or none. -/
def readAll {α : Type} (f : List Byte → Option α) : List (List Byte) → Option (List α)
  | [] => some []
  | b :: bs =>
    match f b, readAll f bs with
    | some x, some xs => some (x :: xs)
    | _, _ => none

/-! ### POINT MAP (03:R43) -/

def Width.code : Width → Nat
  | .bit => 1
  | .u8 => 2
  | .u16 => 3
  | .s16 => 4
  | .u24 => 5
  | .call => 6

def widthOf (n : Nat) : Option Width :=
  if n = 1 then some .bit else if n = 2 then some .u8 else if n = 3 then some .u16 else if n = 4 then some .s16
  else if n = 5 then some .u24 else if n = 6 then some .call else none

/-- The fields of a map entry lie in their ranges, as 03:R43 asks. -/
def PointEntry.ok (e : PointEntry) : Bool :=
  isNode e.node && e.offset ≤ 23 && e.bitIndex ≤ 7 && e.debounce ≤ 7 && 1 ≤ e.staleLimit && e.staleLimit ≤ 15
    && e.offset + e.width.bytes ≤ 24 && (e.width == .bit || (e.bitIndex == 0 && !e.invert && e.debounce == 0))

def readPointEntry (b : List Byte) : Option PointEntry :=
  match widthOf (u8 b 2), flagOf (u8 b 4) with
  | some w, some inv =>
    let e : PointEntry :=
      { node := u8 b 0, offset := u8 b 1, width := w, bitIndex := u8 b 3, invert := inv, debounce := u8 b 5
        staleLimit := u8 b 6 }
    if e.ok then some e else none
  | _, _ => none

def PointEntry.encode (e : PointEntry) : List Byte :=
  [byte e.node, byte e.offset, byte e.width.code, byte e.bitIndex, byte (bit e.invert), byte e.debounce,
    byte e.staleLimit]

/-! ### CONDITION (04:R58, R59) -/

/-- A constant of a POINT TEST lies in its range (04:R58). -/
def constantOk (a : Int) : Bool := -16777216 ≤ a && a ≤ 16777215

def PointOp.ok : PointOp → Bool
  | .eq a => constantOk a
  | .ne a => constantOk a
  | .lt a => constantOk a
  | .ge a => constantOk a
  | .inRange a b => constantOk a && constantOk b && a ≤ b
  | .outRange a b => constantOk a && constantOk b && a ≤ b
  | .inSet _ => true

/-- The operator with its constants; a constant the operator does not use is not examined (01, section 1.10). The mask of
IN SET stands in the low 16 bits of a, and the high 16 bits "are 0": no rule says what becomes of a write in which one of
them is set, and its refusal RANGE is the model's choice (log 20). -/
def readPointOp (code a b : Nat) : Option PointOp :=
  let sa := (BitVec.ofNat 32 a).toInt
  let sb := (BitVec.ofNat 32 b).toInt
  if code = 1 then some (.eq sa) else if code = 2 then some (.ne sa) else if code = 3 then some (.lt sa)
  else if code = 4 then some (.ge sa) else if code = 5 then some (.inRange sa sb) else if code = 6 then some (.outRange sa sb)
  else if code = 7 then if a < 65536 then some (.inSet (BitVec.ofNat 16 a)) else none
  else none

/-- The number of a term lies in its range, for the entry of condition n (04:R58). -/
def Term.ok (n : Nat) : Term → Bool
  | .point p op => p ≤ 127 && op.ok
  | .condition j => j < n
  | .counterBelow k => k ≤ 7

/-- The term before its range check: kind, number, operator, constants a and b (log 20). -/
def readRawTerm (b : List Byte) : Option Term :=
  if u8 b 0 = 1 then (readPointOp (u8 b 2) (u32 b 3) (u32 b 7)).map (Term.point (u8 b 1))
  else if u8 b 2 ≠ 0 then none
  else if u8 b 0 = 2 then some (.condition (u8 b 1))
  else if u8 b 0 = 3 then some (.counterBelow (u8 b 1))
  else none

def readTerm (n : Nat) (b : List Byte) : Option Term := (readRawTerm b).filter (Term.ok n)

def CondEntry.ok (e : CondEntry) : Bool := e.terms.length ≤ 4 && e.hold ≤ 60000 && e.hold % 10 == 0

def readCondition (n : Nat) (b : List Byte) : Option CondEntry :=
  match flagOf (u8 b 2), readAll (readTerm n) (pieces 11 (u8 b 3) (bytesFrom b 4)) with
  | some r, some ts =>
    let e : CondEntry := { terms := ts, hold := u16 b 0, report := r }
    if e.ok then some e else none
  | _, _ => none

def PointOp.encode : PointOp → List Byte
  | .eq a => byte 1 :: beS32 a ++ beS32 0
  | .ne a => byte 2 :: beS32 a ++ beS32 0
  | .lt a => byte 3 :: beS32 a ++ beS32 0
  | .ge a => byte 4 :: beS32 a ++ beS32 0
  | .inRange a b => byte 5 :: beS32 a ++ beS32 b
  | .outRange a b => byte 6 :: beS32 a ++ beS32 b
  | .inSet m => byte 7 :: be32 m.toNat ++ beS32 0

def Term.encode : Term → List Byte
  | .point p op => byte 1 :: byte p :: op.encode
  | .condition j => byte 2 :: byte j :: byte 0 :: beS32 0 ++ beS32 0
  | .counterBelow k => byte 3 :: byte k :: byte 0 :: beS32 0 ++ beS32 0

def CondEntry.encode (e : CondEntry) : List Byte :=
  be16 e.hold ++ [byte (bit e.report), byte e.terms.length] ++ e.terms.flatMap Term.encode

/-! ### PERMIT (05:R74) -/

def Permit.ok (p : Permit) : Bool :=
  p.cls ≤ 63 && p.argMin ≤ p.argMax && p.required.length ≤ 6 && p.required.all (· ≤ 63) && decide p.required.Nodup
    && 1 ≤ p.holdLimit && p.holdLimit ≤ 120

def readPermit (b : List Byte) : Option Permit :=
  match rangeOrAny 1 100 (u8 b 0), flagOf (u8 b 6), flagOf (u8 b 7) with
  | some node, some refuse, some hold =>
    let p : Permit :=
      { node := node, cls := u8 b 1, argMin := s16 b 2, argMax := s16 b 4, clamp := !refuse
        required := (pieces 1 (u8 b 10) (bytesFrom b 11)).map fun x => u8 x 0
        hold := hold, holdLimit := u8 b 8, maint := (u8 b 9).testBit 0, standdown := (u8 b 9).testBit 1
        owned := (u8 b 9).testBit 2 }
    if u8 b 9 < 8 ∧ p.ok = true then some p else none
  | _, _, _ => none

def Permit.encode (p : Permit) : List Byte :=
  [byte (encodeOptional p.node), byte p.cls] ++ beS16 p.argMin ++ beS16 p.argMax
    ++ [byte (bit (!p.clamp)), byte (bit p.hold), byte p.holdLimit,
      byte (bit p.maint + 2 * bit p.standdown + 4 * bit p.owned), byte p.required.length]
    ++ p.required.map byte

/-! ### SCAN LIST (11:R184) -/

def readScanSlot (b : List Byte) : Option ScanSlot :=
  match flagOf (u8 b 2) with
  | some en =>
    if isNode (u8 b 0) && 1 ≤ u8 b 1 && u8 b 1 ≤ 8 then some { node := u8 b 0, divisor := u8 b 1, enabled := en } else none
  | none => none

def ScanSlot.encode (x : ScanSlot) : List Byte := [byte x.node, byte x.divisor, byte (bit x.enabled)]

/-! ### PHASE (07:R123) -/

def readEntryOrder (b : List Byte) : Option EntryOrder :=
  if isNode (u8 b 0) && u8 b 1 ≤ 63 then some { node := u8 b 0, cls := u8 b 1, arg := s16 b 2 } else none

/-- The ranges of an entry for phase p; only entry 0 has a proof, and it has no limit (07:R123). -/
def PhaseEntry.ok (p : Nat) (e : PhaseEntry) : Bool :=
  e.orders.length ≤ 6 && e.dwell ≤ 600000 && e.limit ≤ 3600 && (p == 0 || e.proof.isNone) && (p != 0 || e.limit == 0)

def readPhase (p : Nat) (b : List Byte) : Option PhaseEntry :=
  match optionalTo 63 (u8 b 0), optionalTo 63 (u8 b 1), readAll readEntryOrder (pieces 4 (u8 b 8) (bytesFrom b 9)) with
  | some adv, some proof, some os =>
    let e : PhaseEntry := { orders := os, advance := adv, dwell := u32 b 2, limit := u16 b 6, proof := proof }
    if e.ok p then some e else none
  | _, _, _ => none

def EntryOrder.encode (o : EntryOrder) : List Byte := [byte o.node, byte o.cls] ++ beS16 o.arg

def PhaseEntry.encode (e : PhaseEntry) : List Byte :=
  [byte (encodeOptional e.advance), byte (encodeOptional e.proof)] ++ be32 e.dwell ++ be16 e.limit
    ++ [byte e.orders.length] ++ e.orders.flatMap EntryOrder.encode

/-! ### COUNTER CONTROL (09:R157, R158) -/

def DutyEventKind.code : DutyEventKind → Nat
  | .orderOutcome => 1
  | .conditionTrue => 2
  | .phaseEntry => 3
  | .nodeMiss => 4
  | .linkFault => 5
  | .pairMiss => 6
  | .trimSent => 7
  | .motionStop => 8
  | .vesselPassage => 9
  | .queueOccupancy => 10

def dutyEventKinds : List DutyEventKind :=
  [.orderOutcome, .conditionTrue, .phaseEntry, .nodeMiss, .linkFault, .pairMiss, .trimSent, .motionStop, .vesselPassage,
    .queueOccupancy]

def dutyEventOf (n : Nat) : Option DutyEventKind := dutyEventKinds.find? fun k => k.code == n

/-- The filter of an event, in the range that 09:R158 gives. -/
def readFilter (k : DutyEventKind) (n : Nat) : Option (Option Nat) :=
  match k with
  | .orderOutcome => rangeOrAny 1 100 n
  | .nodeMiss => rangeOrAny 1 100 n
  | .linkFault => rangeOrAny 1 100 n
  | .trimSent => rangeOrAny 1 100 n
  | .motionStop => rangeOrAny 1 9 n
  | .vesselPassage => rangeOrAny 1 2 n
  | .conditionTrue => if n ≤ 63 then some (some n) else none
  | .phaseEntry => if n ≤ 13 then some (some n) else none
  | .pairMiss => if n = 255 then some none else none
  | .queueOccupancy => if n = 255 then some none else none

def actionOf (n : Nat) : Option DutyAction :=
  if n = 0 then some .none else if n = 1 then some .report else if n = 2 then some .freeze else none

def DutyAction.code : DutyAction → Nat
  | .none => 0
  | .report => 1
  | .freeze => 2

/-- The relations of 09:R157. -/
def DutyRecord.ok (r : DutyRecord) : Bool :=
  (r.event.isLevel || (!r.time && !r.invert)) && (r.event == .orderOutcome || r.mask == 0)

def readFlags (b : List Byte) : Option (Bool × Bool × Bool × DutyAction) :=
  match flagOf (u8 b 5), flagOf (u8 b 6), flagOf (u8 b 12), actionOf (u8 b 11) with
  | some time, some inv, some freezable, some a => some (time, inv, freezable, a)
  | _, _, _, _ => none

def readCounterControl (b : List Byte) : Option DutyRecord :=
  match dutyEventOf (u8 b 0), readFlags b with
  | some k, some (time, inv, freezable, a) =>
    match readFilter k (u8 b 1) with
    | some filter =>
      let r : DutyRecord :=
        { event := k, filter := filter, mask := BitVec.ofNat 18 (u24 b 2), time := time, invert := inv
          threshold := u32 b 7, action := a, freezable := freezable }
      if u24 b 2 < 262144 ∧ r.ok = true then some r else none
    | none => none
  | _, _ => none

def DutyRecord.encode (r : DutyRecord) : List Byte :=
  [byte r.event.code, byte (encodeOptional r.filter)] ++ be24 r.mask.toNat ++ [byte (bit r.time), byte (bit r.invert)]
    ++ be32 r.threshold ++ [byte r.action.code, byte (bit r.freezable)]

/-! ### SPAN RECORD (06, section 6.1, R96) -/

/-- A sign: 1 for +1, 255 for −1. -/
def signOf (n : Nat) : Option Bool := if n = 1 then some false else if n = 255 then some true else none

def signCode (negative : Bool) : Nat := if negative then 255 else 1

def heightOk (h : Int) : Bool := Config.heightMin ≤ h && h ≤ Config.heightMax

/-- What a tower's part of the record must satisfy alone. -/
def TowerRecord.ok (t : TowerRecord) : Bool := t.encoder ≤ 111 && 1 ≤ t.scale && isNode t.hoist

/-- The numbers of the record that must satisfy a range alone (06, section 6.1). -/
def SpanRecord.rangesOk (r : SpanRecord) : Bool :=
  r.a.ok && r.b.ok && [r.startUp, r.startDown, r.stop, r.trim].all (· ≤ 63) && 1 ≤ r.gainAcquire && 1 ≤ r.gainTrack
    && r.deadband ≤ 20 && heightOk r.top && heightOk r.seat && r.arrival ≤ 2000 && 100 ≤ r.startWindow
    && r.startWindow ≤ 2000 && 2 ≤ r.stallLimit && r.stallLimit ≤ 30 && r.stallGrace ≤ 5000 && r.standstill ≤ 50
    && r.b4 ≤ 3000

/-- The whole record may be written (06:R96). -/
def SpanRecord.ok (r : SpanRecord) : Bool :=
  r.rangesOk && r.a.encoder != r.b.encoder && r.a.hoist != r.b.hoist
    && decide [r.startUp, r.startDown, r.stop, r.trim].Nodup && r.seat < r.top && r.b1 ≤ r.b2 && r.b2 ≤ r.b3
    && r.b3 ≤ r.b4

def readSpanRecord (b : List Byte) : Option SpanRecord :=
  match signOf (u8 b 12), signOf (u8 b 13) with
  | some na, some nb =>
    let r : SpanRecord :=
      { a := { encoder := u8 b 0, zero := u24 b 2, scale := u16 b 8, negative := na, hoist := u8 b 14 }
        b := { encoder := u8 b 1, zero := u24 b 5, scale := u16 b 10, negative := nb, hoist := u8 b 15 }
        startUp := u8 b 16, startDown := u8 b 17, stop := u8 b 18, trim := u8 b 19
        gainAcquire := u8 b 20, gainTrack := u8 b 21, deadband := u8 b 22, top := s32 b 23, seat := s32 b 27
        arrival := u16 b 31, startWindow := u16 b 33, stallLimit := u8 b 35, stallGrace := u16 b 36
        standstill := u8 b 38, b1 := u16 b 39, b2 := u16 b 41, b3 := u16 b 43, b4 := u16 b 45 }
    if r.ok then some r else none
  | _, _ => none

def SpanRecord.encode (r : SpanRecord) : List Byte :=
  [byte r.a.encoder, byte r.b.encoder] ++ be24 r.a.zero ++ be24 r.b.zero ++ be16 r.a.scale ++ be16 r.b.scale
    ++ [byte (signCode r.a.negative), byte (signCode r.b.negative), byte r.a.hoist, byte r.b.hoist, byte r.startUp,
      byte r.startDown, byte r.stop, byte r.trim, byte r.gainAcquire, byte r.gainTrack, byte r.deadband]
    ++ beS32 r.top ++ beS32 r.seat ++ be16 r.arrival ++ be16 r.startWindow ++ [byte r.stallLimit] ++ be16 r.stallGrace
    ++ [byte r.standstill] ++ be16 r.b1 ++ be16 r.b2 ++ be16 r.b3 ++ be16 r.b4

/-! ### CHANNEL RECORD (08:R143) -/

def ChannelRecord.ok (r : ChannelRecord) : Bool :=
  isNode r.northNode && isNode r.southNode && r.northNode != r.southNode && r.cls ≤ 63 && r.northPassage ≤ 63
    && r.southPassage ≤ 63 && r.northPassage != r.southPassage && 10 ≤ r.changeover && r.changeover ≤ 300
    && 60 ≤ r.greenLimit && r.greenLimit ≤ 3600

def readChannelRecord (b : List Byte) : Option ChannelRecord :=
  let r : ChannelRecord :=
    { northNode := u8 b 0, southNode := u8 b 1, cls := u8 b 2, northPassage := u8 b 3, southPassage := u8 b 4
      changeover := u16 b 5, greenLimit := u16 b 7 }
  if r.ok then some r else none

def ChannelRecord.encode (r : ChannelRecord) : List Byte :=
  [byte r.northNode, byte r.southNode, byte r.cls, byte r.northPassage, byte r.southPassage] ++ be16 r.changeover
    ++ be16 r.greenLimit

/-! ### The limit record (10:R175) -/

def Zone.ok (z : Zone) : Bool := heightOk z.bound && 1 ≤ z.speed && z.speed ≤ 3000

def LimitRecord.ok (l : LimitRecord) : Bool :=
  1 ≤ l.lTol && l.lTol ≤ l.eTrk && l.eTrk ≤ l.xTrk && l.xTrk < l.aSkew && l.aSkew < l.tSkew && l.tSkew ≤ 1000
    && 1 ≤ l.nTrk && l.nTrk ≤ 15 && 1 ≤ l.nLvl && l.nLvl ≤ 15 && 1 ≤ l.uMax && l.uMax ≤ 200 && 5 ≤ l.window
    && l.window ≤ 100 && 1 ≤ l.missLimit && l.missLimit ≤ 15 && 100 ≤ l.holdInterval && l.holdInterval ≤ 1000
    && 1 ≤ l.stopLimit && l.stopLimit ≤ 30 && l.z1.ok && l.z2.ok && l.z3.ok && l.z4.ok && l.z1.bound ≤ l.z2.bound
    && l.z2.bound ≤ l.z3.bound && l.z3.bound ≤ l.z4.bound

def readZone (b : List Byte) (i : Nat) : Zone := { bound := s32 b i, speed := u16 b (i + 4) }

def readLimitRecord (b : List Byte) : Option LimitRecord :=
  let l : LimitRecord :=
    { eTrk := u16 b 0, xTrk := u16 b 2, lTol := u16 b 4, aSkew := u16 b 6, tSkew := u16 b 8, nTrk := u8 b 10
      nLvl := u8 b 11, uMax := u8 b 12, window := u8 b 13, missLimit := u8 b 14, holdInterval := u16 b 15
      stopLimit := u8 b 17, z1 := readZone b 18, z2 := readZone b 24, z3 := readZone b 30, z4 := readZone b 36 }
  if l.ok then some l else none

def Zone.encode (z : Zone) : List Byte := beS32 z.bound ++ be16 z.speed

def LimitRecord.encode (l : LimitRecord) : List Byte :=
  be16 l.eTrk ++ be16 l.xTrk ++ be16 l.lTol ++ be16 l.aSkew ++ be16 l.tSkew
    ++ [byte l.nTrk, byte l.nLvl, byte l.uMax, byte l.window, byte l.missLimit] ++ be16 l.holdInterval ++ [byte l.stopLimit]
    ++ l.z1.encode ++ l.z2.encode ++ l.z3.encode ++ l.z4.encode

end Sys2Proof.Machine
end

