-- ==== Sys2Proof/Machine/Modes.lean ====
section
/-!
DEFINITION. The Mode and Chain Unit's own rows (10_modes_stand_down_and_the_safety_chain): validation, the hardwired
lines, the resets and the supply.
-/

namespace Sys2Proof.Machine

/-! ### Validation (10:R174) -/

/-- The point map entry of an encoder point is present with width U24. -/
def State.encoderMapped (s : State) (r : SpanRecord) (t : Tower) : Bool :=
  match look s.points.map (r.tower t).encoder none with
  | some e => e.width == .u24
  | none => false

/-- Check 2. -/
def State.spanCheck (s : State) : Bool :=
  match s.span.record with
  | some r => s.encoderMapped r .a && s.encoderMapped r .b
  | none => false

/-- Condition n has a present entry. -/
def State.conditionPresent (s : State) (n : Nat) : Bool := (look s.cond.table n none).isSome

/-- Check 3. -/
def State.permitCheck (s : State) : Bool :=
  s.gate.permits.toList.all fun p =>
    match p with
    | some p => p.required.all s.conditionPresent
    | none => true

/-- A term names something in use (10:R174, check 4). -/
def State.termInUse (s : State) : Term → Bool
  | .point n _ => 112 ≤ n || (look s.points.map n none).isSome
  | .condition j => s.conditionPresent j
  | .counterBelow k => (look s.duty.counters k DutyCounter.reset).record.isSome

/-- Check 4. -/
def State.conditionCheck (s : State) : Bool :=
  s.cond.table.toList.all fun e =>
    match e with
    | some e => e.terms.all s.termInUse
    | none => true

/-- Entry 0 is present and holds a road-open proof. -/
def State.proofPresent (s : State) : Bool :=
  match look s.seq.table 0 none with
  | some e => e.proof.isSome
  | none => false

/-- An entry is present and holds an advance condition. -/
def State.advancePresent (s : State) (p : Nat) : Bool :=
  match look s.seq.table p none with
  | some e => e.advance.isSome
  | none => false

/-- Check 5. -/
def State.phaseCheck (s : State) : Bool := s.proofPresent && [1, 2, 3, 4, 5, 7, 8, 9, 10, 11].all s.advancePresent

/-- The scan list holds a present, enabled slot for the node. -/
def State.scanned (s : State) (node : Nat) : Bool :=
  s.field.scanList.toList.any fun x =>
    match x with
    | some x => x.enabled && x.node == node
    | none => false

/-- The source node of the encoder point of a tower is scanned. -/
def State.encoderScanned (s : State) (r : SpanRecord) (t : Tower) : Bool :=
  match look s.points.map (r.tower t).encoder none with
  | some e => s.scanned e.node
  | none => false

/-- Check 7. -/
def State.scanCheck (s : State) : Bool :=
  match s.span.record with
  | some r => s.encoderScanned r .a && s.encoderScanned r .b
  | none => false

/-- The first check that fails, if any (10:R174). -/
def State.failingCheck (s : State) : Option Nat :=
  if s.unit.limits.isNone then some 1
  else if !s.spanCheck then some 2
  else if !s.permitCheck then some 3
  else if !s.conditionCheck then some 4
  else if !s.phaseCheck then some 5
  else if s.chan.record.isNone then some 6
  else if !s.scanCheck then some 7
  else none

/-- The outcome of a validation is held (10:R174). -/
def State.validated (s : State) : State :=
  s.setUnit
    { s.unit with
      validation := match s.failingCheck with
        | some n => .failed n
        | none => .pass }

/-! ### The key (10:R171, R173) -/

/-- The filtered MAINT_KEY changes to on (10:R171, R173). -/
def State.keyOn (s : State) : State :=
  match s.unit.mode with
  | .init => s.initToMaintenance
  | .maintenance => s
  | .service =>
    if s.seq.phase = .roadOpen ∨ s.seq.phase = .halted then s.enterMaintenance
    else (s.setUnit { s.unit with maintenancePending := true }).alert .maintenancePending

/-- The filtered MAINT_KEY changes to off (10:R171, R173). -/
def State.keyOff (s : State) : State :=
  match s.unit.mode with
  | .init => s
  | .maintenance =>
    match s.failingCheck with
    | some n => (s.validated.enterInit).alert (.validationFailed n)
    | none => s.validated.enterService
  | .service => s.setUnit { s.unit with maintenancePending := false }

/-! ### The filters (10:R170) -/

/-- The raw level that is the asserted or on level. -/
def lineActive : LineLevel → Bool
  | .low => true
  | .high => false

/-- The raw line has stood at the other level for 20 ms (10:R170, log 30). -/
def FilteredLine.changes (f : FilteredLine) (now : Time) : Bool :=
  lineActive f.raw != f.active &&
    match f.since with
    | some t => Config.filterTime ≤ elapsed now t
    | none => false

/-- The filtered input follows its raw line. -/
def FilteredLine.follow (f : FilteredLine) : FilteredLine := { f with active := lineActive f.raw, since := none }

/-- The raw line changes: the 20 ms begin when it leaves the filtered level while the controller runs (10:R170). -/
def FilteredLine.change (f : FilteredLine) (level : LineLevel) (running : Bool) (now : Time) : FilteredLine :=
  if f.raw = level then f
  else { f with raw := level, since := if running && lineActive level != f.active then some now else none }

/-- ESTOP_ASSERTED (10:R170). -/
def execEstopAsserted (s : State) : Host.Outcome State Fault Refusal :=
  .next (s.whenRunning fun s =>
    if s.unit.estop.changes s.now ∧ s.unit.estop.active = false then
      (s.setUnit { s.unit with estop := s.unit.estop.follow }).latchCause .estopLine
    else s)

/-- ESTOP_RELEASED (10:R170): the cause set is not touched. -/
def execEstopReleased (s : State) : Host.Outcome State Fault Refusal :=
  .next (s.whenRunning fun s =>
    if s.unit.estop.changes s.now ∧ s.unit.estop.active = true then
      s.setUnit { s.unit with estop := s.unit.estop.follow }
    else s)

/-- MAINT_KEY_ON (10:R171, R173). -/
def execMaintKeyOn (s : State) : Host.Outcome State Fault Refusal :=
  .next (s.whenRunning fun s =>
    if s.unit.key.changes s.now ∧ s.unit.key.active = false then
      (s.setUnit { s.unit with key := s.unit.key.follow }).keyOn
    else s)

/-- MAINT_KEY_OFF (10:R171, R173). -/
def execMaintKeyOff (s : State) : Host.Outcome State Fault Refusal :=
  .next (s.whenRunning fun s =>
    if s.unit.key.changes s.now ∧ s.unit.key.active = true then
      (s.setUnit { s.unit with key := s.unit.key.follow }).keyOff
    else s)

/-- RAW_LINE_CHANGE (10:R170): the line has its level whether or not the controller runs (log 17). -/
def execRawLineChange (line : HardLine) (level : LineLevel) (s : State) : Host.Outcome State Fault Refusal :=
  let running : Bool := s.power == .running
  .next (s.setUnit
    (match line with
    | .estop => { s.unit with estop := s.unit.estop.change level running s.now }
    | .maintKey => { s.unit with key := s.unit.key.change level running s.now }))

/-! ### Resets (10:R181, R182) -/

/-- A hardwired input right after a reset, before its first sample: the raw line keeps its level. -/
def FilteredLine.cleared (f : FilteredLine) : FilteredLine := { f with active := false, since := none }

/-- The state a power-on reset leaves, before the end of the reset: the raw lines and the waiting commands stand
outside the controller. -/
def State.powerOnCleared (s : State) : State :=
  { State.reset with
    pending := s.pending
    unit := { ModeChain.reset with estop := s.unit.estop.cleared, key := s.unit.key.cleared } }

/-- The Field Engine after a warm reset keeps the scan list and the two field settings (02:R41). -/
def Field.warm (f : Field) : Field :=
  { Field.reset with scanList := f.scanList, replyTimeout := f.replyTimeout, silentLimit := f.silentLimit }

/-- The Duty Counter Unit after a warm reset (09:R168): the levels stand as the reset leaves them. -/
def Duty.warm (d : Duty) : Duty :=
  let e := { Duty.reset with
    counters := d.counters, frozen := d.frozen, bands := d.bands, residency := d.residency }
  { e with
    counters := mapTable (fun _ c =>
      match c.record with
      | some r => { c with levelHeld := r.event.isLevel && e.level r }
      | none => c) d.counters }

/-- The state a warm reset leaves, before the end of the reset (01:R18, 02:R41, 03:R56, 04:R72, 05:R94, 06:R121, 07:R142,
08:R155, 09:R168, 10:R182). -/
def State.warmCleared (s : State) : State :=
  { s.powerOnCleared with
    field := s.field.warm
    points := { PointImage.reset with map := s.points.map }
    cond := { Conditions.reset with table := s.cond.table }
    gate := { Gate.reset with permits := s.gate.permits }
    span := { Span.reset with record := s.span.record }
    seq := { Sequencer.reset with table := s.seq.table }
    chan := { Channel.reset with record := s.chan.record }
    duty := s.duty.warm
    unit :=
      { ModeChain.reset with
        limits := s.unit.limits, estop := s.unit.estop.cleared, key := s.unit.key.cleared } }

/-- The first sample of ESTOP: asserted counts as a change to asserted (10:R170). -/
def State.sampleEstop (s : State) : State :=
  let t := s.setUnit { s.unit with estop := s.unit.estop.follow }
  if lineActive s.unit.estop.raw then t.latchCause .estopLine else t

/-- The first sample of MAINT_KEY: on counts as a change to on (10:R170). -/
def State.sampleKey (s : State) : State :=
  let t := s.setUnit { s.unit with key := s.unit.key.follow }
  if lineActive s.unit.key.raw then t.keyOn else t

/-- The end of a reset: controller time counts from 0, the reset evaluation is made (04:R72), and the hardwired inputs
take their first samples (10:R182; the order of the three is log 23). -/
def State.endOfReset (s : State) : State :=
  ((({ s with power := .running, now := 0 } : State).resetEvaluation).sampleEstop).sampleKey

/-- POWER_ON_RESET (10:R181): the supply has risen into its range; the reset ends at once. -/
def execPowerOnReset (s : State) : Host.Outcome State Fault Refusal := .next s.powerOnCleared.endOfReset

/-- WARM_RESET (10:R181): by the RESET line the controller is held in reset until the line returns high; after an
accepted RESTART whose response has been sent, the reset ends at once. -/
def execWarmReset (source : ResetSource) (s : State) : Host.Outcome State Fault Refusal :=
  .next (s.whenRunning fun s =>
    match source with
    | .resetLine => s.warmCleared.setPower .heldInReset
    | .restart => if s.console.restart = .sent then s.warmCleared.endOfReset else s)

/-- RESET_LINE_RELEASED (10:R181). -/
def execResetLineReleased (s : State) : Host.Outcome State Fault Refusal :=
  .next (if s.power = .heldInReset then s.endOfReset else s)

/-- SUPPLY_LOSS (10:R180): unpowered, with the CHAIN output de-energised by its driver; the mode and the cause set that
agree with it are those of the reset that must follow. -/
def execSupplyLoss (s : State) : Host.Outcome State Fault Refusal :=
  .next (s.powerOnCleared.setPower .unpowered)

end Sys2Proof.Machine
end

