-- ==== Sys2Proof/Machine/Management.lean ====
section
/-!
DEFINITION. The Management Decoder (11_management_requests): one meaning per request, and per table for WRITE ENTRY and
CLEAR ENTRY. The response is placed first, then the effect is made, in one event (11:R183).
-/

namespace Sys2Proof.Machine

/-! ### Serving a request (11:R183) -/

/-- What a request comes to: its response, and its effect after the response is placed. -/
structure Reply where
  status : Nat
  detail : Nat
  data : List Byte
  effect : State → State

/-- ACCEPTED, with data and an effect. -/
def accepted (data : List Byte) (effect : State → State) : Reply :=
  { status := 0, detail := 0, data := data, effect := effect }

/-- Refused with a code, changing no state (11:R183). -/
def denied (d : Denial) : Reply := { status := d.code, detail := 0, data := [], effect := id }

/-- The request code of a frame. -/
def requestCode (f : Frame) : Nat := u8 f.payload 0

/-- The frame is a MGMT REQUEST with this code. -/
def isRequest (code : Nat) (f : Frame) : Bool := f.kind == kindRequest && requestCode f == code

/-- The response to a request (01, section 1.10). -/
def responseFrame (f : Frame) (r : Reply) : Frame :=
  { kind := kindResponse, node := 0, tag := f.tag
    payload := [byte (requestCode f), byte r.status, byte r.detail] ++ r.data }

/-- The response is placed and the effect made (11:R183). -/
def State.answer (s : State) (f : Frame) (r : Reply) : State :=
  r.effect (s.setConsole (s.console.place (responseFrame f r)))

/-- A request of the kind wanted is served from the head of the ingress queue (01:R14, 11:R183). -/
def State.request (s : State) (wanted : Frame → Bool) (judge : Frame → State → Reply) : State :=
  s.serve wanted fun f s => s.answer f (judge f s)

/-- A payload that holds exactly its fields, else RANGE (11:R183). -/
def sized (f : Frame) (n : Nat) (r : Reply) : Reply := if f.payload.length = n then r else denied .range

/-- UNKNOWN_REQUEST (11:R183): a request code outside 1 to 25. -/
def execUnknownRequest (s : State) : Host.Outcome State Fault Refusal :=
  .next (s.whenRunning fun s =>
    s.request (fun f => f.kind == kindRequest && (requestCode f == 0 || 25 < requestCode f)) fun _ _ => denied .range)

/-! ### Table requests (11:R184) -/

/-- The table code of a table request. -/
def tableCode (f : Frame) : Nat := u8 f.payload 1

/-- The entry number of a table request. -/
def entryNumber (f : Frame) : Nat := u8 f.payload 2

/-- The contents of a WRITE ENTRY. -/
def contents (f : Frame) : List Byte := f.payload.drop 3

/-- The table code is one of 1 to 8. -/
def knownTable (f : Frame) : Bool := 1 ≤ tableCode f && tableCode f ≤ 8

/-- The row of table t serves a request of its table; a request that names no table is served by any row (log 13). -/
def forTable (code t : Nat) (f : Frame) : Bool := isRequest code f && (tableCode f == t || !knownTable f)

/-- Contents of a fixed size, or with a count of pieces as the last byte of the fixed part (01, section 1.10). -/
def contentsSized (base piece : Nat) (b : List Byte) : Bool :=
  base ≤ b.length && b.length == base + piece * u8 b (base - 1)

/-- The size of a WRITE ENTRY: exactly its fields for a known table; for another table it is not judged beyond the
table code (11:R183). -/
def writeSized (size : List Byte → Bool) (f : Frame) : Bool :=
  if knownTable f then 3 ≤ f.payload.length && size (contents f) else 2 ≤ f.payload.length

/-- The judging of a WRITE ENTRY or CLEAR ENTRY in the order of 11:R184. `forbids` is the owner's state that forbids it;
`apply` is the owner's effect, or none for RANGE. -/
def tableReply (entries : Nat) (sizeOk forbids : Bool) (apply : Nat → Option (State → State)) (f : Frame) (s : State) :
    Reply :=
  if !sizeOk then denied .range
  else if !knownTable f then denied .badTable
  else if entries ≤ entryNumber f then denied .badEntry
  else if s.unit.mode ≠ .maintenance then denied .wrongMode
  else if forbids then denied .wrongMode
  else
    match apply (entryNumber f) with
    | some effect => accepted [] effect
    | none => denied .range

/-- A WRITE ENTRY of table t is served. -/
def State.tableWrite (s : State) (t entries : Nat) (size : List Byte → Bool) (forbids : State → Bool)
    (apply : Nat → List Byte → Option (State → State)) : State :=
  s.request (forTable 1 t) fun f s =>
    tableReply entries (writeSized size f) (forbids s) (fun n => apply n (contents f)) f s

/-- A CLEAR ENTRY of table t is served. -/
def State.tableClear (s : State) (t entries : Nat) (forbids : State → Bool) (apply : Nat → State → State) : State :=
  s.request (forTable 2 t) fun f s =>
    tableReply entries (f.payload.length == 3) (forbids s) (fun n => some (apply n)) f s

/-- Contents of exactly n bytes. -/
def fixedSize (n : Nat) (b : List Byte) : Bool := b.length == n

/-- No state of the owner forbids the write. -/
def neverForbids (_ : State) : Bool := false

/-- WRITE_ENTRY_POINT_MAP (03:R43). -/
def execWriteEntryPointMap (s : State) : Host.Outcome State Fault Refusal :=
  .next (s.whenRunning fun s => s.tableWrite 1 112 (fixedSize 7) neverForbids fun n b =>
    (readPointEntry b).map fun e s => s.rewritePoint n (some e))

/-- CLEAR_ENTRY_POINT_MAP (03:R43). -/
def execClearEntryPointMap (s : State) : Host.Outcome State Fault Refusal :=
  .next (s.whenRunning fun s => s.tableClear 1 112 neverForbids fun n s => s.rewritePoint n none)

/-- WRITE_ENTRY_CONDITION (04:R58, R71). -/
def execWriteEntryCondition (s : State) : Host.Outcome State Fault Refusal :=
  .next (s.whenRunning fun s => s.tableWrite 2 64 (contentsSized 4 11) neverForbids fun n b =>
    (readCondition n b).map fun e s => s.writeCondition n (some e))

/-- CLEAR_ENTRY_CONDITION (04:R71). -/
def execClearEntryCondition (s : State) : Host.Outcome State Fault Refusal :=
  .next (s.whenRunning fun s => s.tableClear 2 64 neverForbids fun n s => s.writeCondition n none)

/-- A permit entry replaced (05:R74). -/
def State.writePermit (s : State) (n : Nat) (p : Option Permit) : State :=
  s.setGate { s.gate with permits := put s.gate.permits n p }

/-- WRITE_ENTRY_PERMIT (05:R74). -/
def execWriteEntryPermit (s : State) : Host.Outcome State Fault Refusal :=
  .next (s.whenRunning fun s => s.tableWrite 3 96 (contentsSized 11 1) neverForbids fun n b =>
    (readPermit b).map fun p s => s.writePermit n (some p))

/-- CLEAR_ENTRY_PERMIT (05:R74). -/
def execClearEntryPermit (s : State) : Host.Outcome State Fault Refusal :=
  .next (s.whenRunning fun s => s.tableClear 3 96 neverForbids fun n s => s.writePermit n none)

/-- A slot of the scan list replaced (02:R34). -/
def State.writeSlot (s : State) (n : Nat) (x : Option ScanSlot) : State :=
  s.setField { s.field with scanList := put s.field.scanList n x }

/-- WRITE_ENTRY_SCAN_LIST (02:R34). -/
def execWriteEntryScanList (s : State) : Host.Outcome State Fault Refusal :=
  .next (s.whenRunning fun s => s.tableWrite 4 32 (fixedSize 3) neverForbids fun n b =>
    (readScanSlot b).map fun x s => s.writeSlot n (some x))

/-- CLEAR_ENTRY_SCAN_LIST (02:R34). -/
def execClearEntryScanList (s : State) : Host.Outcome State Fault Refusal :=
  .next (s.whenRunning fun s => s.tableClear 4 32 neverForbids fun n s => s.writeSlot n none)

/-- An entry of the phase table replaced (07:R123). -/
def State.writePhase (s : State) (n : Nat) (e : Option PhaseEntry) : State :=
  s.setSeq { s.seq with table := put s.seq.table n e }

/-- WRITE_ENTRY_PHASE (07:R123). -/
def execWriteEntryPhase (s : State) : Host.Outcome State Fault Refusal :=
  .next (s.whenRunning fun s => s.tableWrite 5 12 (contentsSized 9 4) neverForbids fun n b =>
    (readPhase n b).map fun e s => s.writePhase n (some e))

/-- CLEAR_ENTRY_PHASE (07:R123). -/
def execClearEntryPhase (s : State) : Host.Outcome State Fault Refusal :=
  .next (s.whenRunning fun s => s.tableClear 5 12 neverForbids fun n s => s.writePhase n none)

/-- A control record replaced, with its threshold test and its counter change (09:R157). -/
def State.writeControl (s : State) (k : Nat) (r : Option DutyRecord) : State := s.takeDuty (s.duty.control k r)

/-- WRITE_ENTRY_COUNTER_CONTROL (09:R157). -/
def execWriteEntryCounterControl (s : State) : Host.Outcome State Fault Refusal :=
  .next (s.whenRunning fun s => s.tableWrite 6 8 (fixedSize 13) neverForbids fun k b =>
    (readCounterControl b).map fun r s => s.writeControl k (some r))

/-- CLEAR_ENTRY_COUNTER_CONTROL (09:R157). -/
def execClearEntryCounterControl (s : State) : Host.Outcome State Fault Refusal :=
  .next (s.whenRunning fun s => s.tableClear 6 8 neverForbids fun k s => s.writeControl k none)

/-- The motion state forbids a write of the span record (06:R96) and of the limit record (10:R175). -/
def State.inMotion (s : State) : Bool := s.moving || s.span.motion == .stopping

/-- WRITE_ENTRY_SPAN_RECORD (06:R96). -/
def execWriteEntrySpanRecord (s : State) : Host.Outcome State Fault Refusal :=
  .next (s.whenRunning fun s => s.tableWrite 7 1 (fixedSize 47) State.inMotion fun _ b =>
    (readSpanRecord b).map fun r s => s.writeSpanRecord (some r))

/-- CLEAR_ENTRY_SPAN_RECORD (06:R96). -/
def execClearEntrySpanRecord (s : State) : Host.Outcome State Fault Refusal :=
  .next (s.whenRunning fun s => s.tableClear 7 1 State.inMotion fun _ s => s.writeSpanRecord none)

/-- The channel forbids a write of its record (08:R143). -/
def State.channelBusy (s : State) : Bool := s.chan.state != .closed || s.chan.closing || !s.chan.noneOutstanding

/-- The node of a signal in a record, if there is one. -/
def signalNode (r : Option ChannelRecord) (d : Direction) : Option Nat := r.map fun r => r.node d

/-- The last-order memory is kept only where the signal keeps its node (08:R143). -/
def Signal.forRecord (g : Signal) (old new : Option ChannelRecord) (d : Direction) : Signal :=
  if new.isSome ∧ signalNode old d = signalNode new d then g else { g with memory := none }

/-- The channel record is written or cleared (08:R143). -/
def State.writeChannelRecord (s : State) (r : Option ChannelRecord) : State :=
  s.setChan
    { s.chan with
      record := r
      north := s.chan.north.forRecord s.chan.record r .north
      south := s.chan.south.forRecord s.chan.record r .south }

/-- WRITE_ENTRY_CHANNEL_RECORD (08:R143). -/
def execWriteEntryChannelRecord (s : State) : Host.Outcome State Fault Refusal :=
  .next (s.whenRunning fun s => s.tableWrite 8 1 (fixedSize 9) State.channelBusy fun _ b =>
    (readChannelRecord b).map fun r s => s.writeChannelRecord (some r))

/-- CLEAR_ENTRY_CHANNEL_RECORD (08:R143). -/
def execClearEntryChannelRecord (s : State) : Host.Outcome State Fault Refusal :=
  .next (s.whenRunning fun s => s.tableClear 8 1 State.channelBusy fun _ s => s.writeChannelRecord none)

/-! ### Reads of tables (11:R185) -/

/-- The number of entries of a table (11, section 11.2). -/
def tableEntries (t : Nat) : Nat :=
  match t with
  | 1 => 112
  | 2 => 64
  | 3 => 96
  | 4 => 32
  | 5 => 12
  | 6 => 8
  | _ => 1

/-- Presence, and the contents when present (01, section 1.10). -/
def presence {α : Type} (encode : α → List Byte) : Option α → List Byte
  | some x => 1 :: encode x
  | none => [0]

def CondState.code : CondState → Nat
  | .isFalse => 0
  | .proving _ => 1
  | .isTrue => 2

/-- The time remaining before a proving ends, never below 0 (04:R70, log 25). -/
def provingRemaining (now : Time) (hold : Nat) : CondState → Nat
  | .proving start => hold - elapsed now start
  | .isFalse => 0
  | .isTrue => 0

/-- The state of a condition and the time remaining (04:R70). -/
def State.conditionData (s : State) (n : Nat) : List Byte :=
  let st := look s.cond.states n .isFalse
  byte st.code :: be16 (provingRemaining s.now (holdOf (look s.cond.table n none)) st)

/-- The data of a READ ENTRY (01, section 1.10; 11:R185). -/
def State.entryData (s : State) (t n : Nat) : List Byte :=
  match t with
  | 1 => presence PointEntry.encode (look s.points.map n none)
  | 2 => presence CondEntry.encode (look s.cond.table n none) ++ s.conditionData n
  | 3 => presence Permit.encode (look s.gate.permits n none)
  | 4 => presence ScanSlot.encode (look s.field.scanList n none)
  | 5 => presence PhaseEntry.encode (look s.seq.table n none)
  | 6 => presence DutyRecord.encode (look s.duty.counters n DutyCounter.reset).record
  | 7 => presence SpanRecord.encode s.span.record
  | _ => presence ChannelRecord.encode s.chan.record

/-- READ_ENTRY (11:R185). -/
def execReadEntry (s : State) : Host.Outcome State Fault Refusal :=
  .next (s.whenRunning fun s => s.request (isRequest 3) fun f s => sized f 3 <|
    if !knownTable f then denied .badTable
    else if tableEntries (tableCode f) ≤ entryNumber f then denied .badEntry
    else accepted (s.entryData (tableCode f) (entryNumber f)) id)

/-! ### The limit record (10:R175, 11:R185) -/

/-- The limit record is replaced and the lock is set (10:R175). -/
def State.writeLimits (s : State) (l : LimitRecord) : State :=
  s.setUnit { s.unit with limits := some l, locked := true }

/-- WRITE_LIMITS (10:R175). -/
def execWriteLimits (s : State) : Host.Outcome State Fault Refusal :=
  .next (s.whenRunning fun s => s.request (isRequest 4) fun f s => sized f 43 <|
    if s.unit.mode ≠ .maintenance then denied .wrongMode
    else if s.inMotion then denied .wrongMode
    else if s.unit.locked then denied .locked
    else
      match readLimitRecord (f.payload.drop 1) with
      | some l => accepted [] fun s => s.writeLimits l
      | none => denied .range)

/-- READ_LIMITS (11:R185). -/
def execReadLimits (s : State) : Host.Outcome State Fault Refusal :=
  .next (s.whenRunning fun s => s.request (isRequest 5) fun f s => sized f 1 <|
    accepted (presence LimitRecord.encode s.unit.limits ++ [byte (bit s.unit.locked)]) id)

/-! ### Reads of state (11:R186, R187) -/

def Freshness.code : Freshness → Nat
  | .never => 0
  | .fresh => 1
  | .stale => 2

/-- Presence of a time and the time, 0 when absent (01, section 1.10). -/
def timeData : Option Time → List Byte
  | some t => byte 1 :: be32 t.toNat
  | none => byte 0 :: be32 0

def Point.data (p : Point) : List Byte := beS32 p.value ++ [byte p.freshness.code, byte p.age] ++ timeData p.received

/-- The numbers of a range read: the first, and as many as the count. -/
def span (first count : Nat) : List Nat := (List.range count).map (first + ·)

/-- A first number and a count, both inside their ranges (11:R186). -/
def rangeRead (f : Frame) (lo past : Nat) (data : Nat → List Byte) : Reply :=
  let first := u8 f.payload 1
  let count := u8 f.payload 2
  if lo ≤ first && first < past && 1 ≤ count && count ≤ 8 && first + count ≤ past then
    accepted ((span first count).flatMap data) id
  else denied .range

/-- READ_POINTS (11:R186). -/
def execReadPoints (s : State) : Host.Outcome State Fault Refusal :=
  .next (s.whenRunning fun s => s.request (isRequest 6) fun f s => sized f 3 <|
    rangeRead f 0 128 fun n => (s.point n).data)

def NodeState.code : NodeState → Nat
  | .unknown => 0
  | .answering => 1
  | .silent => 2

def NodeRecord.data (r : NodeRecord) : List Byte := [byte r.state.code, byte r.misses] ++ timeData r.lastGood

/-- READ_NODES (11:R186). -/
def execReadNodes (s : State) : Host.Outcome State Fault Refusal :=
  .next (s.whenRunning fun s => s.request (isRequest 8) fun f s => sized f 3 <|
    rangeRead f 1 101 fun n => (nodeRecord s.field n).data)

def Validation.code : Validation → Nat
  | .none => 0
  | .failed n => n
  | .pass => 255

def interruptedCode : Option Interrupted → Nat
  | none => 255
  | some .unknown => 254
  | some (.phase p) => p.num

/-- The code of a scan mode, as SCAN CONTROL carries it (log 19). -/
def ScanMode.code : ScanMode → Nat
  | .continuous => 1
  | .single => 2
  | .stopped => 3

def LinkCounts.data (c : LinkCounts) : List Byte := be16 c.check ++ be16 c.gap ++ be16 c.truncated ++ be16 c.length

/-- The first part of READ STATUS: the Mode and Chain Unit and the Crossing Sequencer (01, section 1.10). -/
def State.unitStatus (s : State) : List Byte :=
  [byte s.unit.mode.num, byte s.unit.causes.mask, byte ((s.unit.firstCause.map Cause.code).getD 0),
    byte (bit s.unit.maintenancePending), byte s.unit.validation.code, byte s.seq.phase.num,
    byte (interruptedCode s.seq.interrupted)]

/-- The second part: the Span Supervisor, the Channel Controller and the Order Gate. -/
def State.workStatus (s : State) : List Byte :=
  [byte s.span.motion.num, byte s.span.correction.num, byte s.span.level.num, byte s.span.levelChanges,
    byte (s.point 125).value.toNat, byte s.chan.state.num, byte s.gate.orders.length, byte s.gate.held.length,
    byte s.gate.own.length]

/-- The last part: the Field Engine and the Console Port. -/
def State.linkStatus (s : State) : List Byte :=
  [byte s.field.scanMode.code, byte s.field.replyTimeout, byte s.field.silentLimit, byte s.field.contention]
    ++ s.field.counts.data ++ s.console.counts.data ++ be16 s.console.ingressOverflows ++ be16 s.console.reportsLost

/-- The data of READ STATUS (01, section 1.10). -/
def State.statusData (s : State) : List Byte := s.unitStatus ++ s.workStatus ++ s.linkStatus

/-- READ_STATUS (11:R187): the level-change count is cleared by reading. -/
def execReadStatus (s : State) : Host.Outcome State Fault Refusal :=
  .next (s.whenRunning fun s => s.request (isRequest 7) fun f s => sized f 1 <|
    accepted s.statusData fun s => s.setSpan { s.span with levelChanges := 0 })

/-- The control record in its layout, all zeros when absent (01, section 1.10). -/
def controlData : Option DutyRecord → List Byte
  | some r => byte 1 :: r.encode
  | none => List.replicate 14 0

def DutyCounter.data (c : DutyCounter) : List Byte :=
  controlData c.record ++ be32 c.value ++ [byte (bit c.overflow + 2 * bit c.reached)]

/-- READ_COUNTERS (11:R186). -/
def execReadCounters (s : State) : Host.Outcome State Fault Refusal :=
  .next (s.whenRunning fun s => s.request (isRequest 9) fun f s => sized f 1 <|
    accepted (s.duty.counters.toList.flatMap DutyCounter.data ++ [byte (bit s.duty.frozen)]
      ++ s.duty.bands.toList.flatMap be32) id)

/-- READ_RESIDENCY (11:R186). -/
def execReadResidency (s : State) : Host.Outcome State Fault Refusal :=
  .next (s.whenRunning fun s => s.request (isRequest 10) fun f s => sized f 1 <|
    accepted (s.duty.residency.toList.flatMap fun x => be48 x.toNat) id)

def Vessel.data (v : Vessel) : List Byte :=
  be16 v.tag ++ [byte v.direction.num] ++ be32 v.arrival.toNat ++ [byte (bit v.cleared)]

/-- READ_VESSELS (11:R186). -/
def execReadVessels (s : State) : Host.Outcome State Fault Refusal :=
  .next (s.whenRunning fun s => s.request (isRequest 11) fun f s => sized f 1 <|
    accepted (byte s.chan.vessels.length :: s.chan.vessels.flatMap Vessel.data ++ be16 s.chan.ignoredCalls
      ++ be16 s.chan.badDirections ++ be16 s.chan.unexpectedPassages) id)

/-! ### Actions (11:R188, R189) -/

/-- The counters a COUNTER CLEAR names (09:R164). -/
def clearedCounters (n : Nat) : Option (List Nat) :=
  if n = 255 then some dutyNumbers else if n ≤ 7 then some [n] else none

/-- The speed-band counters go to 0 with a clear of ALL (09:R164). -/
def Duty.clearBands (d : Duty) (all : Bool) : Duty := if all then { d with bands := Vector.replicate 4 0 } else d

/-- COUNTER_CLEAR (09:R164). That the mode is judged before the counter number is the model's order (log 41). -/
def execCounterClear (s : State) : Host.Outcome State Fault Refusal :=
  .next (s.whenRunning fun s => s.request (isRequest 12) fun f s => sized f 2 <|
    if s.unit.mode ≠ .maintenance then denied .wrongMode
    else
      match clearedCounters (u8 f.payload 1) with
      | some ks => accepted [] fun s => s.takeDuty ((s.duty.clearBands (u8 f.payload 1 == 255)).clear ks)
      | none => denied .range)

/-- UNFREEZE (09:R163). -/
def execUnfreeze (s : State) : Host.Outcome State Fault Refusal :=
  .next (s.whenRunning fun s => s.request (isRequest 13) fun f _ => sized f 1 <|
    accepted [] fun s => s.setDuty { s.duty with frozen := false })

/-- The scan mode a SCAN CONTROL asks for: `some none` is KEEP. -/
def scanModeOf (n : Nat) : Option (Option ScanMode) :=
  if n = 0 then some none else if n = 1 then some (some .continuous) else if n = 2 then some (some .single)
  else if n = 3 then some (some .stopped) else none

/-- The scan mode changes; SINGLE starts a sweep (02:R36, R37). -/
def Field.setScanMode (f : Field) : Option ScanMode → Field
  | none => f
  | some .single => { f with scanMode := .single, sweep := 0 }
  | some .continuous => { f with scanMode := .continuous }
  | some .stopped => { f with scanMode := .stopped }

/-- The fields of a SCAN CONTROL lie in their ranges (11:R188). -/
def scanFieldsOk (timeout limit : Nat) : Bool := 2 ≤ timeout && timeout ≤ 50 && 1 ≤ limit && limit ≤ 7

/-- SCAN_CONTROL (11:R188). That the mode is judged before the fields is the model's order (log 41). -/
def execScanControl (s : State) : Host.Outcome State Fault Refusal :=
  .next (s.whenRunning fun s => s.request (isRequest 14) fun f s => sized f 4 <|
    if s.unit.mode ≠ .maintenance then denied .wrongMode
    else
      match scanModeOf (u8 f.payload 1) with
      | none => denied .range
      | some m =>
        if scanFieldsOk (u8 f.payload 2) (u8 f.payload 3) then
          accepted [] fun s => s.setField
            { s.field.setScanMode m with replyTimeout := u8 f.payload 2, silentLimit := u8 f.payload 3 }
        else denied .range)

/-! ### Sequence requests (07:R133 to R138) -/

/-- A sequence request: accepted in SERVICE when its own condition holds (07:R133). -/
def sequenceReply (ok : Bool) (effect : State → State) (s : State) : Reply :=
  if s.unit.mode ≠ .service then denied .wrongMode else if ok then accepted [] effect else denied .wrongPhase

/-- The request record is set and the advance test made (07:R134). -/
def State.record (s : State) (r : RequestRecord) : State := (s.setSeq { s.seq with request := r }).advanceTest

/-- OPEN (07:R134). -/
def execOpenRequest (s : State) : Host.Outcome State Fault Refusal :=
  .next (s.whenRunning fun s => s.request (isRequest 15) fun f s => sized f 1 <|
    sequenceReply (s.seq.phase == .roadOpen) (fun s => s.record .openRequest) s)

/-- CLOSE (07:R134). -/
def execCloseRequest (s : State) : Host.Outcome State Fault Refusal :=
  .next (s.whenRunning fun s => s.request (isRequest 16) fun f s => sized f 1 <|
    sequenceReply (s.seq.phase == .channelOpen) (fun s => s.record .closeRequest) s)

/-- HALT (07:R135, 06:R119). -/
def State.halt (s : State) : State := (s.phaseFault .haltRequest).motionStop .haltRequest

def execHaltRequest (s : State) : Host.Outcome State Fault Refusal :=
  .next (s.whenRunning fun s => s.request (isRequest 17) fun f s => sized f 1 <|
    sequenceReply (s.seq.phase.working && s.seq.phase != .roadOpen) State.halt s)

/-- The working phase that a HALTED crossing stopped in. -/
def State.stoppedIn (s : State) : Option Phase :=
  match s.seq.phase, s.seq.interrupted with
  | .halted, some (.phase p) => if p.working then some p else none
  | _, _ => none

/-- An entry asked for by RESUME or REVERSE; refused where there is no phase to enter or the cause set is not empty. -/
def entryReply (p : Option Phase) (cause : PhaseCause) (s : State) : Reply :=
  match p with
  | some p => sequenceReply s.unit.causes.isEmpty (fun s => s.enter p cause) s
  | none => sequenceReply false id s

/-- RESUME (07:R136). -/
def execResumeRequest (s : State) : Host.Outcome State Fault Refusal :=
  .next (s.whenRunning fun s => s.request (isRequest 18) fun f s => sized f 1 <| entryReply s.stoppedIn .resume s)

/-- The phase a REVERSE enters (07:R137). -/
def Phase.reverse : Phase → Option Phase
  | .warning => some .gatesRaising
  | .entryGates => some .gatesRaising
  | .exitGates => some .gatesRaising
  | .roadProof => some .gatesRaising
  | .lifting => some .lowering
  | .channelOpen => some .channelClosing
  | .channelClosing => some .channelOpen
  | .lowering => some .lifting
  | .seating => some .lifting
  | .gatesRaising => some .entryGates
  | .roadRelease => some .warning
  | .roadOpen => none
  | .halted => none
  | .inactive => none

/-- REVERSE (07:R137). -/
def execReverseRequest (s : State) : Host.Outcome State Fault Refusal :=
  .next (s.whenRunning fun s => s.request (isRequest 19) fun f s => sized f 1 <|
    entryReply (s.stoppedIn.bind Phase.reverse) .reverse s)

/-- The three acts of RECOVER (07:R138). -/
def State.recover (s : State) : State :=
  ((s.setSeq { s.seq with recovery := true }).channelStep State.close).enter .entryGates .recover

/-- RECOVER (07:R138). -/
def execRecoverRequest (s : State) : Host.Outcome State Fault Refusal :=
  .next (s.whenRunning fun s => s.request (isRequest 20) fun f s => sized f 1 <|
    sequenceReply (s.seq.phase == .halted && s.seq.interrupted == some .unknown) State.recover s)

/-! ### Vessels (08:R148) -/

/-- VESSEL ADD in SERVICE (08:R148). -/
def vesselAddReply (tag : Nat) (direction : Nat) (s : State) : Reply :=
  match directionOf direction with
  | none => denied .range
  | some d =>
    if tag = 0 then denied .range
    else if s.chan.hasTag tag then accepted [] id
    else if Config.vesselCapacity ≤ s.chan.vessels.length then
      { denied .queueFull with effect := fun s => s.alert (.vesselQueueFull tag) }
    else accepted [] fun s => s.channelStep fun s => s.joinVessel tag d

/-- VESSEL_ADD (08:R148). -/
def execVesselAdd (s : State) : Host.Outcome State Fault Refusal :=
  .next (s.whenRunning fun s => s.request (isRequest 21) fun f s => sized f 4 <|
    if s.unit.mode ≠ .service then denied .wrongMode else vesselAddReply (u16 f.payload 1) (u8 f.payload 3) s)

/-- VESSEL_REMOVE (08:R148). -/
def execVesselRemove (s : State) : Host.Outcome State Fault Refusal :=
  .next (s.whenRunning fun s => s.request (isRequest 22) fun f s => sized f 3 <|
    if s.chan.hasTag (u16 f.payload 1) then
      accepted [] fun s => s.channelStep fun s => s.removeVessel (u16 f.payload 1)
    else denied .unknownTag)

/-! ### The Mode and Chain Unit (10:R171, R178, R179, R181) -/

/-- The Supervisor's answer for SKEW TRIP (06:R108, 10:R178). -/
def State.skewSettled (s : State) : Bool :=
  match s.span.lastSkew, s.unit.limits with
  | some k, some l => k.natAbs ≤ l.aSkew
  | _, _ => false

/-- The causes that remain after the clearing tests (10:R178). -/
def State.remainingCauses (s : State) : CauseSet :=
  let c := s.unit.causes
  { estopLine := c.estopLine && s.unit.estop.active
    consoleBreak := c.consoleBreak && s.console.line == .broken
    skewTrip := c.skewTrip && !s.skewSettled
    stopFailed := c.stopFailed && s.unit.mode != .maintenance
    fieldContention := c.fieldContention && s.field.contention != 0
    channelSignal := c.channelSignal && !s.chan.bothRedDone }

/-- The causes remaining are kept; when the last is removed the stand-down ends (10:R179). -/
def State.clearCauses (s : State) (c : CauseSet) : State :=
  if c.isEmpty && !s.unit.causes.isEmpty then
    (s.setUnit ({ s.unit with causes := c, firstCause := none } : ModeChain).settleChain).writePoint 124 0
  else s.setUnit ({ s.unit with causes := c } : ModeChain).settleChain

/-- CLEAR_STANDDOWN (10:R178, R179). -/
def execClearStanddown (s : State) : Host.Outcome State Fault Refusal :=
  .next (s.whenRunning fun s => s.request (isRequest 23) fun f s => sized f 1 <|
    accepted [byte s.remainingCauses.mask] fun t => t.clearCauses s.remainingCauses)

/-- START_SERVICE (10:R171, R174): a failed validation is held as its result. -/
def execStartService (s : State) : Host.Outcome State Fault Refusal :=
  .next (s.whenRunning fun s => s.request (isRequest 24) fun f s => sized f 1 <|
    if s.unit.mode ≠ .init ∨ s.unit.key.active = true then denied .wrongMode
    else
      match s.failingCheck with
      | some n => { status := Denial.invalid.code, detail := n, data := [], effect := State.validated }
      | none => accepted [] fun s => s.validated.enterService)

/-- RESTART (10:R181): the warm reset waits until the response has been sent (log 22). -/
def execRestartRequest (s : State) : Host.Outcome State Fault Refusal :=
  .next (s.whenRunning fun s => s.request (isRequest restartCode) fun f s => sized f 1 <|
    if s.unit.mode = .service then denied .wrongMode
    else accepted [] fun s => s.setConsole { s.console with restart := .waiting })

end Sys2Proof.Machine
end

