-- ==== Sys2Proof/Machine/Dispatch.lean ====
section
/-! DEFINITION. The dispatch: one arm per command, each one direct call of its meaning. -/

namespace Sys2Proof.Machine

def exec (i : Instr) (s : State) : Host.Outcome State Fault Refusal :=
  match i with
  | .frameComplete link data => Sys2Proof.Machine.execFrameComplete link data s
  | .badStopBit link => Sys2Proof.Machine.execBadStopBit link s
  | .gapFault link => Sys2Proof.Machine.execGapFault link s
  | .truncatedFault link data => Sys2Proof.Machine.execTruncatedFault link data s
  | .lengthFault link data => Sys2Proof.Machine.execLengthFault link data s
  | .consoleFrameReceived => Sys2Proof.Machine.execConsoleFrameReceived s
  | .motionHold => Sys2Proof.Machine.execMotionHold s
  | .lineBreak => Sys2Proof.Machine.execLineBreak s
  | .lineMark => Sys2Proof.Machine.execLineMark s
  | .fieldBreak => Sys2Proof.Machine.execFieldBreak s
  | .egressFrameStart => Sys2Proof.Machine.execEgressFrameStart s
  | .egressFrameSent => Sys2Proof.Machine.execEgressFrameSent s
  | .arbiterChoice => Sys2Proof.Machine.execArbiterChoice s
  | .frameFullySent => Sys2Proof.Machine.execFrameFullySent s
  | .contention => Sys2Proof.Machine.execContention s
  | .turnaroundEnd => Sys2Proof.Machine.execTurnaroundEnd s
  | .replyTimeout => Sys2Proof.Machine.execReplyTimeout s
  | .fieldFrameReceived => Sys2Proof.Machine.execFieldFrameReceived s
  | .allStopBreak => Sys2Proof.Machine.execAllStopBreak s
  | .breakIdleEnd => Sys2Proof.Machine.execBreakIdleEnd s
  | .stopTimerExpiry => Sys2Proof.Machine.execStopTimerExpiry s
  | .startWindowExpiry => Sys2Proof.Machine.execStartWindowExpiry s
  | .holdTimerExpiry => Sys2Proof.Machine.execHoldTimerExpiry s
  | .provingEnd => Sys2Proof.Machine.execProvingEnd s
  | .counterChange => Sys2Proof.Machine.execCounterChange s
  | .holdRelease => Sys2Proof.Machine.execHoldRelease s
  | .advanceTest => Sys2Proof.Machine.execAdvanceTest s
  | .passage => Sys2Proof.Machine.execPassage s
  | .conditionTrueEvent => Sys2Proof.Machine.execConditionTrueEvent s
  | .consoleOrderAdmission => Sys2Proof.Machine.execConsoleOrderAdmission s
  | .holdDeadlineExpiry => Sys2Proof.Machine.execHoldDeadlineExpiry s
  | .gateStanddownCancel => Sys2Proof.Machine.execGateStanddownCancel s
  | .dwellExpiry => Sys2Proof.Machine.execDwellExpiry s
  | .phaseLimitExpiry => Sys2Proof.Machine.execPhaseLimitExpiry s
  | .sequencerStanddown => Sys2Proof.Machine.execSequencerStanddown s
  | .greenTimerExpiry => Sys2Proof.Machine.execGreenTimerExpiry s
  | .changeoverTimerExpiry => Sys2Proof.Machine.execChangeoverTimerExpiry s
  | .retryTimerExpiry => Sys2Proof.Machine.execRetryTimerExpiry s
  | .channelStanddownClose => Sys2Proof.Machine.execChannelStanddownClose s
  | .millisecondAdvance => Sys2Proof.Machine.execMillisecondAdvance s
  | .estopAsserted => Sys2Proof.Machine.execEstopAsserted s
  | .estopReleased => Sys2Proof.Machine.execEstopReleased s
  | .maintKeyOn => Sys2Proof.Machine.execMaintKeyOn s
  | .maintKeyOff => Sys2Proof.Machine.execMaintKeyOff s
  | .powerOnReset => Sys2Proof.Machine.execPowerOnReset s
  | .warmReset source => Sys2Proof.Machine.execWarmReset source s
  | .unknownRequest => Sys2Proof.Machine.execUnknownRequest s
  | .writeEntryPointMap => Sys2Proof.Machine.execWriteEntryPointMap s
  | .clearEntryPointMap => Sys2Proof.Machine.execClearEntryPointMap s
  | .writeEntryCondition => Sys2Proof.Machine.execWriteEntryCondition s
  | .clearEntryCondition => Sys2Proof.Machine.execClearEntryCondition s
  | .writeEntryPermit => Sys2Proof.Machine.execWriteEntryPermit s
  | .clearEntryPermit => Sys2Proof.Machine.execClearEntryPermit s
  | .writeEntryScanList => Sys2Proof.Machine.execWriteEntryScanList s
  | .clearEntryScanList => Sys2Proof.Machine.execClearEntryScanList s
  | .writeEntryPhase => Sys2Proof.Machine.execWriteEntryPhase s
  | .clearEntryPhase => Sys2Proof.Machine.execClearEntryPhase s
  | .writeEntryCounterControl => Sys2Proof.Machine.execWriteEntryCounterControl s
  | .clearEntryCounterControl => Sys2Proof.Machine.execClearEntryCounterControl s
  | .writeEntrySpanRecord => Sys2Proof.Machine.execWriteEntrySpanRecord s
  | .clearEntrySpanRecord => Sys2Proof.Machine.execClearEntrySpanRecord s
  | .writeEntryChannelRecord => Sys2Proof.Machine.execWriteEntryChannelRecord s
  | .clearEntryChannelRecord => Sys2Proof.Machine.execClearEntryChannelRecord s
  | .readEntry => Sys2Proof.Machine.execReadEntry s
  | .writeLimits => Sys2Proof.Machine.execWriteLimits s
  | .readLimits => Sys2Proof.Machine.execReadLimits s
  | .readPoints => Sys2Proof.Machine.execReadPoints s
  | .readStatus => Sys2Proof.Machine.execReadStatus s
  | .readNodes => Sys2Proof.Machine.execReadNodes s
  | .readCounters => Sys2Proof.Machine.execReadCounters s
  | .readResidency => Sys2Proof.Machine.execReadResidency s
  | .readVessels => Sys2Proof.Machine.execReadVessels s
  | .counterClear => Sys2Proof.Machine.execCounterClear s
  | .unfreeze => Sys2Proof.Machine.execUnfreeze s
  | .scanControl => Sys2Proof.Machine.execScanControl s
  | .openRequest => Sys2Proof.Machine.execOpenRequest s
  | .closeRequest => Sys2Proof.Machine.execCloseRequest s
  | .haltRequest => Sys2Proof.Machine.execHaltRequest s
  | .resumeRequest => Sys2Proof.Machine.execResumeRequest s
  | .reverseRequest => Sys2Proof.Machine.execReverseRequest s
  | .recoverRequest => Sys2Proof.Machine.execRecoverRequest s
  | .vesselAdd => Sys2Proof.Machine.execVesselAdd s
  | .vesselRemove => Sys2Proof.Machine.execVesselRemove s
  | .clearStanddown => Sys2Proof.Machine.execClearStanddown s
  | .startService => Sys2Proof.Machine.execStartService s
  | .restartRequest => Sys2Proof.Machine.execRestartRequest s
  | .validCharacter link markBit data => Sys2Proof.Machine.execValidCharacter link markBit data s
  | .fieldLineMark => Sys2Proof.Machine.execFieldLineMark s
  | .rawLineChange line level => Sys2Proof.Machine.execRawLineChange line level s
  | .resetLineReleased => Sys2Proof.Machine.execResetLineReleased s
  | .supplyLoss => Sys2Proof.Machine.execSupplyLoss s

end Sys2Proof.Machine
end

