-- ==== Sys2Proof/Safety.lean ====
section
/-!
DEFINITION. What a safe run keeps, in the terms the statements use: the laws of the manual as predicates on one state,
and the shapes (a served request, a waiting transaction) that the statements of single commands share.
-/

namespace Sys2Proof.Machine

/-! ### The laws -/

/-- The CHAIN output is energised exactly in MAINTENANCE and SERVICE with the cause set empty, and is de-energised while
the controller does not run (10:R180). -/
def ChainLaw (s : State) : Prop :=
  (s.unit.chain = true ↔ (s.unit.mode = .maintenance ∨ s.unit.mode = .service) ∧ s.unit.causes = CauseSet.empty)
    ∧ (s.power ≠ .running → s.unit.chain = false)

/-- The motion state is RAISING or LOWERING only in MAINTENANCE or SERVICE with the cause set empty (06:R120). -/
def MotionLaw (s : State) : Prop :=
  (s.span.motion = .raising ∨ s.span.motion = .lowering) →
    (s.unit.mode = .maintenance ∨ s.unit.mode = .service) ∧ s.unit.causes = CauseSet.empty

/-- No two held orders have the same target node and class (05:R83). -/
def HeldDistinct (rs : List OrderRecord) : Prop := rs.Pairwise fun a b => ¬(a.node = b.node ∧ a.cls = b.cls)

/-- The queues of the gate and the ingress queue stay within their places (01:R13, 05:R82, R83, R88). -/
def QueueLaw (s : State) : Prop :=
  s.console.ingress.length ≤ 4 ∧ s.gate.orders.length ≤ 8 ∧ s.gate.held.length ≤ 8 ∧ s.gate.own.length ≤ 12
    ∧ HeldDistinct s.gate.held

/-- The vessel queue holds at most 8 entries with pairwise distinct tags (08:R146). -/
def VesselLaw (s : State) : Prop :=
  s.chan.vessels.length ≤ 8 ∧ s.chan.vessels.Pairwise fun a b => a.tag ≠ b.tag

/-- An own GREEN of the Channel Controller to the signal of direction d. -/
def OwnGreen (d : Direction) (r : OrderRecord) : Prop := r.origin = .channel d .green

/-- The transaction carries an own GREEN to the signal of direction d. -/
def GreenInFlight (d : Direction) (tx : Transaction) : Prop := ∃ r, tx.source = .order r ∧ OwnGreen d r

/-- The clearances of the vessel queue, and what they rest on. `opened` and `shut` are the law of 08:R146: in GREEN d every
CLEARED entry has direction d, and in every other channel state none is CLEARED. The rest says why no second GREEN can open
the channel over them: one own GREEN at most is outstanding, in CLOSED or CHANGEOVER or under a closing, and only it is
queued or in flight (08:R149); a closing, and a changeover that waits for its RED, leave none CLEARED (08:R151, R152). -/
structure ClearanceLaw (s : State) : Prop where
  opened : ∀ d, s.chan.state = ChannelState.green d → ∀ v ∈ s.chan.vessels, v.cleared = true → v.direction = d
  shut : (∀ d, s.chan.state ≠ ChannelState.green d) → ∀ v ∈ s.chan.vessels, v.cleared = false
  closing : s.chan.closing = true → ∀ v ∈ s.chan.vessels, v.cleared = false
  pending : s.chan.changeoverPending = true →
    s.chan.closing = false ∧ (∃ d, s.chan.state = ChannelState.green d) ∧ ∀ v ∈ s.chan.vessels, v.cleared = false
  timer : s.chan.changeoverTimer ≠ none → s.chan.state = .changeover ∧ s.chan.closing = false
    ∧ ∀ d, SignalKind.green ∉ (s.chan.signal d).outstanding
  single : s.chan.north.outstanding.count .green + s.chan.south.outstanding.count .green ≤ 1
  awaited : ∀ d, SignalKind.green ∈ (s.chan.signal d).outstanding →
    s.chan.closing = true ∨ s.chan.state = .closed ∨ s.chan.state = .changeover
  held : ∀ d, ∀ r ∈ s.gate.own, OwnGreen d r → SignalKind.green ∈ (s.chan.signal d).outstanding
  sent : ∀ d tx, s.field.tx = some tx → GreenInFlight d tx →
    SignalKind.green ∈ (s.chan.signal d).outstanding ∧ ∀ r ∈ s.gate.own, ¬OwnGreen d r
  alone : s.gate.own.Pairwise fun a b => ∀ d, OwnGreen d a → ¬OwnGreen d b
  console : ∀ r ∈ s.gate.orders ++ s.gate.held, ∀ d, ¬OwnGreen d r

/-- The console order in flight, if there is one, counts once (01, "The egress bound worked out"). -/
def inFlight (tx : Option Transaction) : Nat :=
  match tx with
  | some { source := .order { origin := .console _, .. }, .. } => 1
  | _ => 0

/-- The pool: console orders served and not yet given their final result. -/
def pool (s : State) : Nat := s.gate.orders.length + s.gate.held.length + inFlight s.field.tx

/-- An order of the console. -/
def FromConsole (r : OrderRecord) : Prop := ∃ tag, r.origin = .console tag

/-- The bound of the egress queue with what the pool can still add to it (01:R15): the own-order queue, which the pool
leaves out, holds no order of the console (05:R88). -/
def EgressLaw (s : State) : Prop :=
  s.gate.orders.length ≤ 8 ∧ s.gate.held.length ≤ 8 ∧ s.console.egress.length + pool s ≤ 42
    ∧ ∀ r ∈ s.gate.own, ¬FromConsole r

/-- What a TRUE condition asks of one of its terms: its point is FRESH, its condition is TRUE (04:R64). -/
def TermFresh (s : State) : Term → Prop
  | .point n _ => (s.point n).freshness = .fresh
  | .condition j => look s.cond.states j .isFalse = .isTrue
  | .counterBelow _ => True

/-- Every entry references lower conditions only (04:R58); no point change is half gathered. -/
def TableLaw (s : State) : Prop :=
  s.points.gather = none ∧
    ∀ n e, look s.cond.table n none = some e → ∀ j, Term.condition j ∈ e.terms → j < n

/-- A TRUE condition has a present entry, all of whose points are FRESH and all of whose conditions are TRUE (04:R64). -/
def FreshLaw (s : State) : Prop :=
  ∀ n, look s.cond.states n .isFalse = .isTrue →
    ∃ e, look s.cond.table n none = some e ∧ ∀ t ∈ e.terms, TermFresh s t

/-! ### Names of the records -/

/-- Orders to node n with class c are signal orders to the signal of direction d: a channel record is present and names both
(08:R143, R145). Its two nodes differ; in a record that no write has made, one node for both signals is the north one. -/
def IsSignal (s : State) (n c : Nat) (d : Direction) : Prop :=
  ∃ r, s.chan.record = some r ∧ c = r.cls
    ∧ match d with
      | .north => n = r.northNode
      | .south => n = r.southNode ∧ n ≠ r.northNode

/-- Orders to node n with class c are hoist STARTs of tower x, upward or downward: a span record is present and names both
(05:R78, 06:R113). Its two hoists and its classes differ; in a record that no write has made, A comes before B and up before
down. -/
def IsStart (s : State) (n c : Nat) (x : Tower) (up : Bool) : Prop :=
  ∃ r, s.span.record = some r
    ∧ (match x with
      | .a => n = r.a.hoist
      | .b => n = r.b.hoist ∧ n ≠ r.a.hoist)
    ∧ if up = true then c = r.startUp else c = r.startDown ∧ c ≠ r.startUp

/-! ### Frames -/

/-- The kinds that a link carries inward, with the lengths that each may have (01:R7, section 1.10). -/
def LengthFits (l : Link) (kind : Byte) (n : Nat) : Prop :=
  match l with
  | .console => (kind = 1 ∧ n = 3) ∨ (kind = 2 ∧ 1 ≤ n ∧ n ≤ 200) ∨ (kind = 3 ∧ n = 0)
  | .field => (kind = 49 ∧ n ≤ 24) ∨ (kind = 50 ∧ n = 0) ∨ (kind = 51 ∧ n = 1)

/-- One bit enters the check register: the polynomial x^16 + x^12 + x^5 + 1 is taken away where the bit that leaves differs
from the one that enters (01:R3). -/
def checkShift (r : BitVec 16) (b : Bool) : BitVec 16 := (r <<< 1) ^^^ (if r.msb = b then 0 else 0x1021)

/-- The check: the bits of the bytes enter a register of sixteen ones, each byte most significant bit first (01:R3). -/
def checkOf (bytes : List Byte) : BitVec 16 :=
  (bytes.flatMap fun b => [7, 6, 5, 4, 3, 2, 1, 0].map b.getLsbD).foldl checkShift (BitVec.allOnes 16)

/-- The bytes of a frame on the line: header, payload, and the check with its high byte first (01:R2, R3). -/
def frameBytes (f : Frame) : List Byte :=
  let body := f.kind :: f.node :: f.tag :: BitVec.ofNat 8 f.payload.length :: f.payload
  body ++ [(checkOf body).extractLsb' 8 8, (checkOf body).extractLsb' 0 8]

/-! ### Readings -/

/-- The bytes of a width (03:R43). -/
def bytesOf : Width → Nat
  | .bit | .u8 => 1
  | .u16 | .s16 => 2
  | .u24 | .call => 3

/-- The value of a reading (03:R45). -/
def readingOf (e : PointEntry) (payload : List Byte) : Int :=
  let at_ := fun i => (payload[e.offset + i]?.getD 0).toNat
  match e.width with
  | .bit => if (at_ 0 / 2 ^ e.bitIndex % 2 = 1) = (e.invert = false) then 1 else 0
  | .u8 => at_ 0
  | .u16 | .call => 256 * at_ 0 + at_ 1
  | .s16 => if at_ 0 < 128 then 256 * at_ 0 + at_ 1 else (256 * at_ 0 + at_ 1 : Int) - 65536
  | .u24 => 65536 * at_ 0 + 256 * at_ 1 + at_ 2

/-- What a good reply makes of a point of its node: a reading where its bytes lie inside the reply, else a miss (03:R44). -/
def replyGives (e : PointEntry) (p : Point) (payload : List Byte) (time : Time) : Point :=
  if e.offset + bytesOf e.width ≤ payload.length then p.take e payload time else p.miss e.staleLimit

/-! ### Shapes shared by the statements -/

/-- The Console Port is as before, but for reports and alerts offered to the egress queue (01:R15, R16). -/
def Reports (c d : Console) : Prop :=
  ∃ added, (∀ f ∈ added, f.kind = kindConditionReport ∨ f.kind = kindPhaseReport ∨ f.kind = kindAlert)
    ∧ d = { c with egress := c.egress ++ added, reportsLost := d.reportsLost, reportSeq := d.reportSeq }

/-- What stands in t's egress queue behind s's: reports, then this report, then reports (01:R15, R16). -/
def ReportsAround (c d : Console) (kind : Byte) (payload : List Byte) : Prop :=
  ∃ m, Reports c m ∧ Reports (m.offer kind payload) d

/-- Nothing but the Condition Evaluator has moved: t is s but for the condition states, the reports offered, and the
condition change sets handed to the four blocks (04:R66, R68, R69). -/
def Walked (s t : State) : Prop :=
  Reports s.console t.console
    ∧ t = (((((s.setCond { s.cond with states := t.cond.states }).setConsole t.console).setGate
        { s.gate with sets := t.gate.sets }).setSeq { s.seq with sets := t.seq.sets }).setChan
        { s.chan with sets := t.chan.sets }).setDuty { s.duty with sets := t.duty.sets }

/-- The Point Image with value v in point n. Where a point change is being gathered, a new value joins it (03:R50, R53,
log 7). -/
def WithValue (s : State) (n : Nat) (v : Int) : PointImage :=
  { s.points with
    points := put s.points.points n { s.point n with value := v }
    gather := s.points.gather.map fun ns => if v = (s.point n).value then ns else ns ++ [n] }

/-- The conditions an entry references have changed their standing between the states of s and of t. -/
def ReferenceChanged (s t : State) (n : Nat) : Prop :=
  ∃ e j, look s.cond.table n none = some e ∧ Term.condition j ∈ e.terms
    ∧ standsTrue s.cond.states j ≠ standsTrue t.cond.states j

/-- A comparison holds of the value of a point (04:R59). -/
def Compares (v : Int) : PointOp → Prop
  | .eq a => v = a
  | .ne a => v ≠ a
  | .lt a => v < a
  | .ge a => a ≤ v
  | .inRange a b => a ≤ v ∧ v ≤ b
  | .outRange a b => v < a ∨ b < v
  | .inSet mask => 0 ≤ v ∧ v ≤ 15 ∧ mask.getLsbD v.toNat = true

/-- A term is true in these condition states (04:R59 to R61). -/
def TermTrue (s : State) (states : Vector CondState 64) : Term → Prop
  | .point n op => (s.point n).freshness = .fresh ∧ Compares (s.point n).value op
  | .condition j => look states j .isFalse = .isTrue
  | .counterBelow k => ∃ r, (look s.duty.counters k DutyCounter.reset).record = some r
    ∧ (look s.duty.counters k DutyCounter.reset).value < r.threshold

/-- All terms of the entry are true in these condition states: it is present and holds at least one (04:R62). A COUNTER
BELOW term of a counter in `unseen` counts as true (log 37). -/
def TermsTrue (s : State) (states : Vector CondState 64) (unseen : List Nat) (entry : Option CondEntry) : Prop :=
  ∃ e, entry = some e ∧ e.terms ≠ [] ∧ ∀ x ∈ e.terms, TermTrue s states x ∨ ∃ k ∈ unseen, x = .counterBelow k

/-- The table of 04:R62, with the end of a proving time (04:R63): an evaluation takes the condition state `before` to
`after`. -/
structure TableGives (s : State) (states : Vector CondState 64) (unseen : List Nat) (expire : Bool)
    (entry : Option CondEntry) (before after : CondState) : Prop where
  otherwise : ¬TermsTrue s states unseen entry → after = .isFalse
  proven : TermsTrue s states unseen entry → before = .isFalse → holdOf entry = 0 → after = .isTrue
  proves : TermsTrue s states unseen entry → before = .isFalse → holdOf entry ≠ 0 → after = .proving s.now
  ends : ∀ start, TermsTrue s states unseen entry → before = .proving start → expire = true →
    holdOf entry ≤ (s.now - start).toNat → after = .isTrue
  keeps : ∀ start, TermsTrue s states unseen entry → before = .proving start →
    expire = false ∨ (s.now - start).toNat < holdOf entry → after = .proving start
  stays : TermsTrue s states unseen entry → before = .isTrue → after = .isTrue

/-- The evaluation of condition n by the table of 04:R62, its terms read in t's condition states. Where proving times end,
a counter change that waits has not reached the condition (04:R67, log 37). -/
def Evaluated (s t : State) (expire : Bool) (n : Nat) : Prop :=
  let st := look s.cond.states n .isFalse
  let unseen := if expire = true ∧ st ≠ .isFalse then s.cond.counterChanges else []
  TableGives s t.cond.states unseen expire (look s.cond.table n none) st (look t.cond.states n .isFalse)

/-- The condition states of t come from one walk over s: every condition marked, or with a reference whose standing
changed in the walk, is evaluated once, and every other condition is as it was (04:R66). -/
def Settles (s t : State) (marked : Nat → Prop) (expire : Bool) : Prop :=
  ∀ n, n < 64 →
    (marked n ∨ ReferenceChanged s t n → Evaluated s t expire n)
      ∧ (¬marked n → ¬ReferenceChanged s t n → look t.cond.states n .isFalse = look s.cond.states n .isFalse)

/-- The condition change set between two condition states: each condition whose standing differs, with its new standing,
in ascending number (04:R66, R68). -/
def IsChangeSet (base states : Vector CondState 64) (set : ChangeSet) : Prop :=
  (set.map Prod.fst).Pairwise (· < ·)
    ∧ ∀ n b, (n, b) ∈ set ↔ n < 64 ∧ standsTrue base n ≠ standsTrue states n ∧ b = standsTrue states n

/-- A walk that ends in t hands its change set to the four blocks, unless it is empty, and offers a CONDITION REPORT of
every change whose entry asks for it: 2 for TRUE, 0 for FALSE (04:R68, R69). -/
structure HandsOut (s t : State) (set : ChangeSet) : Prop where
  gate : t.gate.sets = s.gate.sets + (if set = [] then 0 else 1)
  seq : t.seq.sets = s.seq.sets + (if set = [] then 0 else 1)
  chan : t.chan.sets = s.chan.sets ++ (if set = [] then [] else [set])
  duty : t.duty.sets = s.duty.sets ++ (if set = [] then [] else [set])
  reports : t.console =
    (set.filter fun x => ((look s.cond.table x.1 none).map CondEntry.report).getD false).foldl
      (fun c x => c.offer 19 [BitVec.ofNat 8 x.1, if x.2 then 2 else 0]) s.console

/-- The entries reference lower conditions only (04:R58). -/
def LowerReferences (s : State) : Prop :=
  ∀ n e, look s.cond.table n none = some e → ∀ j, Term.condition j ∈ e.terms → j < n

/-- One walk of the Condition Evaluator takes s to t, and nothing else has moved: in a table whose entries reference lower
conditions it settles the conditions marked, and it hands out its change set (04:R65, R66, R68, R69). -/
def Walks (s t : State) (marked : Nat → Prop) : Prop :=
  Walked s t ∧ ∃ set, IsChangeSet s.cond.states t.cond.states set ∧ HandsOut s t set
    ∧ (LowerReferences s → Settles s t marked false)

/-- The entry of condition c holds a POINT TEST of one of these points (04:R65). -/
def Tests (s : State) (points : Nat → Prop) (c : Nat) : Prop :=
  ∃ e p op, look s.cond.table c none = some e ∧ Term.point p op ∈ e.terms ∧ points p

/-- Point n has another value or freshness (03:R50). -/
def PointDiffers (s t : State) (n : Nat) : Prop :=
  (t.point n).value ≠ (s.point n).value ∨ (t.point n).freshness ≠ (s.point n).freshness

/-- Point n has taken value v (03:R53): where the value is new, one walk evaluates the conditions that test the point
(03:R50, 04:R65). While a point change is being gathered it waits for that change's walk (log 7). -/
structure PointWritten (s t : State) (n : Nat) (v : Int) : Prop where
  walks : s.points.gather = none →
    Walks (s.setPoints (WithValue s n v)) t (Tests s fun p => p = n ∧ v ≠ (s.point n).value)
  joins : s.points.gather ≠ none → t = s.setPoints (WithValue s n v)

/-- Points have changed within one event of the Point Image, and the two marks of the span points are as given: one walk
evaluates the conditions that test one of the points changed (03:R50, R54, 04:R65). While a point change is being gathered,
they join it and wait for its walk (log 7). -/
structure PointsMoved (s t : State) (firstPair pairLoss : Bool) : Prop where
  points : t.points =
    { s.points with points := t.points.points, firstPair := firstPair, pairLoss := pairLoss, gather := t.points.gather }
  walks : s.points.gather = none →
    t.points.gather = none ∧ Walks (s.setPoints t.points) t (Tests s (PointDiffers s t))
  joins : ∀ ns, s.points.gather = some ns → t = s.setPoints t.points
    ∧ ∃ more, t.points.gather = some (ns ++ more) ∧ ∀ n, n ∈ more ↔ PointDiffers s t n

/-- The Span Supervisor's own state after a stand-down entry, and after the entry to INIT (06:R120). -/
def StoodDown (p : Span) : Span :=
  { p with
    motion := .stopped, stopKind := none, startWindow := none, stopTimer := none, overspeedRun := 0, standstillRun := 0
    towerA := { p.towerA with trimLoss := 0 }, towerB := { p.towerB with trimLoss := 0 } }

/-- A cause makes a stand-down entry, which takes s to t (10:R177, 06:R120). `course` gives its steps: the cause set and the
CHAIN, point 124, ALL-STOP and the alert, then STOPPED on point 119, and the entry handed to the three blocks. The rest is
what t keeps of s. ALERT STANDDOWN, code 1, is offered once, with the reports of the conditions that the two points move
before and after it; with no condition, it is all that is offered. -/
structure StandsDown (s t : State) (c : Cause) : Prop where
  course : ∃ a b,
    PointWritten (s.setUnit { s.unit with causes := CauseSet.empty.join c, firstCause := some c, chain := false }) a 124 1
      ∧ PointWritten (((a.setField { a.field with allStop := true }).setConsole
        (a.console.offer 21 [1, 0, BitVec.ofNat 8 c.code])).setSpan (StoodDown s.span)) b 119 4
      ∧ t = ((b.setGate { b.gate with standdowns := b.gate.standdowns + 1 }).setSeq
        { b.seq with standdowns := b.seq.standdowns + 1 }).setChan { b.chan with standdowns := b.chan.standdowns + 1 }
  power : t.power = s.power ∧ t.now = s.now ∧ t.pending = s.pending
  unit : t.unit = { s.unit with causes := CauseSet.empty.join c, firstCause := some c, chain := false }
  field : t.field = { s.field with allStop := true }
  span : t.span = StoodDown s.span
  points : (t.point 124).value = 1 ∧ (t.point 119).value = 4 ∧ (∀ n, n ≠ 119 → n ≠ 124 → t.point n = s.point n)
  gate : t.gate = { s.gate with standdowns := s.gate.standdowns + 1, sets := t.gate.sets }
  seq : t.seq = { s.seq with standdowns := s.seq.standdowns + 1, sets := t.seq.sets }
  chan : t.chan = { s.chan with standdowns := s.chan.standdowns + 1, sets := t.chan.sets }
  duty : t.duty = { s.duty with sets := t.duty.sets }
  cond : t.cond = { s.cond with states := t.cond.states }
  console : Reports s.console t.console
  alert : ReportsAround s.console t.console 21 [1, 0, BitVec.ofNat 8 c.code]
  alone : (∀ n, look s.cond.table n none = none) → t.console = s.console.offer 21 [1, 0, BitVec.ofNat 8 c.code]

/-- The Field Engine right after it has begun a transaction (02:R20): the transaction takes the next tag. -/
def Begun (f : Field) (source : TxSource) (node cls : Nat) (arg : Int) : Field :=
  { f with
    tx := some
      { source := source, node := node, cls := cls, arg := arg, tag := f.nextTag, abandoned := 0, transmitted := false }
    nextTag := f.nextTag + 1
    link := .sending
    echo := []
    receiver := .hunting
    arrivals := [] }

/-- The Field Engine right after a transaction has ended (02:R19, R26): one with an abandoned attempt is contended. The
receiver is in HUNTING (02:R19). -/
def EndedField (f : Field) (tx : Transaction) : Field :=
  { f with
    link := .turnaround, tx := none, receiver := .hunting
    contention := if tx.abandoned = 0 then 0 else min (f.contention + 1) 255 }

/-- The Field Engine right after a break has begun (02:R32, R33). -/
def Broken (f : Field) : Field :=
  { f with
    allStop := false, link := .breaking, tx := none, trimA := none, trimB := none, stopA := none, stopB := none
    receiver := .hunting, arrivals := [] }

/-- The four slots are empty. -/
def SlotsEmpty (f : Field) : Prop := f.trimA = none ∧ f.trimB = none ∧ f.stopA = none ∧ f.stopB = none

/-- The frame is the one that answers the transaction: from the node addressed, with the transaction's tag. -/
def Answers (tx : Transaction) (f : Frame) : Prop := f.node.toNat = tx.node ∧ f.tag = tx.tag

/-- A final ORDER RESULT of a console order, and after it its ORDER OUTCOME event (05:R90, R93; their order is log 8). -/
def FinalResult (s : State) (r : OrderRecord) (tag : Byte) (x : Result) (detail : Nat) (transmitted : Bool) : State :=
  (s.orderResult tag r.node r.cls r.arg x.code detail (bit transmitted + 2 * bit r.clamped)).occur (.orderOutcome r.node x)

/-- What one addition, with the threshold test that follows it, makes of a duty counter (09:R161 to R163). -/
def CountsTo (frozen : Bool) (amount : Nat) (c c' : DutyCounter) : Prop :=
  match c.record with
  | none => c' = c
  | some r =>
    if amount = 0 ∨ frozen = true ∧ r.freezable = true then c' = c
    else
      let value := min (c.value + amount) 4294967295
      c' = { c with
        value := value, overflow := c.overflow || decide (4294967295 ≤ c.value + amount)
        reached := c.reached || decide (r.threshold ≤ value) }

/-- The record selects the occurrence: it names its kind, its filter is ANY or the number carried, and the outcome mask
holds the result (09:R158). -/
def Selects (r : DutyRecord) : DutyEvent → Prop
  | .orderOutcome node x =>
    r.event = .orderOutcome ∧ (r.filter = none ∨ r.filter = some node) ∧ r.mask.getLsbD x.code = true
  | .nodeMiss node => r.event = .nodeMiss ∧ (r.filter = none ∨ r.filter = some node)
  | .linkFault node => r.event = .linkFault ∧ (r.filter = none ∨ r.filter = some node)
  | .pairMiss => r.event = .pairMiss
  | .trimSent node => r.event = .trimSent ∧ (r.filter = none ∨ r.filter = some node)
  | .motionStop cause => r.event = .motionStop ∧ (r.filter = none ∨ r.filter = some cause.code)
  | .vesselPassage d => r.event = .vesselPassage ∧ (r.filter = none ∨ r.filter = some d.num)

/-- The level that the record counts stands: its condition is TRUE, its phase is the present one, the combined occupancy is
above 0 (09:R158). -/
def LevelStands (d : Duty) (r : DutyRecord) : Prop :=
  (r.event = .conditionTrue ∧ ∃ n, r.filter = some n ∧ look d.standing n false = true)
    ∨ (r.event = .phaseEntry ∧ r.filter = some d.phase.num) ∨ (r.event = .queueOccupancy ∧ 0 < d.occupancy)

/-- What a counter with this record adds for an occurrence (09:R159). -/
def OccurrenceAdds (e : DutyEvent) (c : DutyCounter) : Nat :=
  match c.record with
  | none => 0
  | some r => if r.selects e = true ∧ r.time = false then 1 else 0

/-- What a counter adds at an advance of one millisecond (09:R160). -/
def MillisecondAdds (d : Duty) (c : DutyCounter) : Nat :=
  match c.record with
  | none => 0
  | some r =>
    if r.time = false ∨ r.event.isLevel = false then 0
    else if r.invert = true then (if d.level r = true then 0 else 1)
    else if r.event = .queueOccupancy then d.occupancy
    else if d.level r = true then 1 else 0

/-- What a counter of a level event adds at a change of the levels from those of d to those of d' (09:R159). -/
def EdgeAdds (d' : Duty) (kind : DutyEventKind) (c : DutyCounter) : Nat :=
  match c.record with
  | none => 0
  | some r =>
    if r.event ≠ kind ∨ r.time = true then 0
    else if r.invert = true then (if c.levelHeld = true ∧ d'.level r = false then 1 else 0)
    else if c.levelHeld = false ∧ d'.level r = true then 1 else 0

/-- Counter k at a change of the levels of this event from s to t: its edge is counted, and its level held follows the level,
frozen or not, where it selects the event (09:R159, R163). -/
def EdgesCounted (s t : State) (kind : DutyEventKind) (k : Nat) : Prop :=
  let c := look s.duty.counters k DutyCounter.reset
  ∃ c', CountsTo s.duty.frozen (EdgeAdds t.duty kind c) c c'
    ∧ look t.duty.counters k DutyCounter.reset =
      match c.record with
      | some r => if r.event = kind then { c' with levelHeld := t.duty.level r } else c'
      | none => c'

/-- ALERT COUNTER THRESHOLD is offered for each of the counters for which `reached` holds and whose action is REPORT or
FREEZE, in ascending number (09:R162). -/
def ThresholdAlerts (d : Duty) (reached : Nat → Prop) [DecidablePred reached] (c : Console) : Console :=
  ((List.range 8).filter fun k =>
    decide (reached k) && ((look d.counters k DutyCounter.reset).record.map DutyRecord.action).getD .none != .none).foldl
      (fun c k => c.offer 21 [7, 0, BitVec.ofNat 8 k]) c

/-- What the Duty Counter Unit hands on when its counters went from those of s to those of t: the alerts of the thresholds
reached, and a counter change for every counter whose value changed (09:R162, R165). -/
def DutyHandsOn (s t : State) : Prop :=
  t.console = ThresholdAlerts s.duty (fun k => (look s.duty.counters k DutyCounter.reset).reached = false
      ∧ (look t.duty.counters k DutyCounter.reset).reached = true) s.console
    ∧ (∃ changes, t.cond = { s.cond with counterChanges := s.cond.counterChanges ++ changes }
      ∧ ∀ k, k ∈ changes ↔ k < 8
        ∧ (look t.duty.counters k DutyCounter.reset).value ≠ (look s.duty.counters k DutyCounter.reset).value)
    ∧ (t.duty.frozen = true ↔ s.duty.frozen = true
      ∨ ∃ k r, k < 8 ∧ (look s.duty.counters k DutyCounter.reset).record = some r ∧ r.action = .freeze
        ∧ (look s.duty.counters k DutyCounter.reset).reached = false
        ∧ (look t.duty.counters k DutyCounter.reset).reached = true)

/-- What a COUNTER CLEAR of the counters named hands on: the alerts of those whose threshold is 0, and a counter change for
every counter whose value changed (09:R164, R165). -/
def ClearHandsOn (s t : State) (named : Nat → Prop) [DecidablePred named] : Prop :=
  t.console = ThresholdAlerts s.duty (fun k => named k ∧ (look t.duty.counters k DutyCounter.reset).reached = true) s.console
    ∧ ∃ changes, t.cond = { s.cond with counterChanges := s.cond.counterChanges ++ changes }
      ∧ ∀ k, k ∈ changes ↔ k < 8
        ∧ (look t.duty.counters k DutyCounter.reset).value ≠ (look s.duty.counters k DutyCounter.reset).value

/-- A frame stands at the head of the ingress queue and is served next (01:R14). -/
def Serves (s : State) (f : Frame) (rest : List Frame) : Prop :=
  s.power = .running ∧ s.console.ingress = f :: rest ∧ s.console.restart = .none ∧ s.console.egress.length < 24

/-- Permit entry p governs orders to this node with this class (05:R75). -/
def Governs (p : Permit) (node cls : Nat) : Prop :=
  p.cls = cls ∧ (p.node = some node ∨ p.node = none ∧ 1 ≤ node ∧ node ≤ 100)

/-- Entry n, p, is the matching entry: present, governing, and the lowest-numbered that does (05:R75). -/
def Matches (permits : Vector (Option Permit) 96) (node cls n : Nat) (p : Permit) : Prop :=
  look permits n none = some p ∧ Governs p node cls
    ∧ ∀ m q, m < n → look permits m none = some q → ¬Governs q node cls

/-- Checks 1 and 3 pass through entry p (05:R77). -/
def FlagsPass (s : State) (p : Permit) : Prop :=
  s.unit.mode ≠ .init ∧ (s.unit.mode = .maintenance → p.maint = true)
    ∧ (s.unit.causes ≠ CauseSet.empty → p.standdown = true)

/-- Check 4 passes (05:R78). -/
def OwnedPass (s : State) (p : Permit) : Prop := p.owned = true → s.seq.phase = .roadOpen ∨ s.seq.phase = .inactive

/-- Check 5 passes: the order is no hoist START, or the span neither stops nor moves the other way (05:R78). -/
def MotionPass (s : State) (node cls : Nat) : Prop :=
  ∀ t up, IsStart s node cls t up →
    s.span.motion ≠ .stopping ∧ s.span.motion ≠ (if up then .lowering else .raising)

/-- The argument as forwarded: the nearer bound where it lies outside the range (05:R79). -/
def Forwarded (p : Permit) (a : Int) : Int := if a < p.argMin then p.argMin else if p.argMax < a then p.argMax else a

/-- The argument lies outside the entry's range, so that a clamp replaces it (05:R79). -/
def Outside (p : Permit) (a : Int) : Bool := decide (a < p.argMin ∨ p.argMax < a)

/-- c is the lowest-numbered required condition that is not TRUE (05:R80). -/
def LowestFailing (s : State) (required : List Nat) (c : Nat) : Prop :=
  c ∈ required ∧ standsTrue s.cond.states c = false ∧ ∀ d ∈ required, standsTrue s.cond.states d = false → c ≤ d

/-- Every required condition is TRUE. -/
def AllTrue (s : State) (required : List Nat) : Prop := ∀ c ∈ required, standsTrue s.cond.states c = true

/-- The ORDER frame's target node, class and argument (01:R14). -/
def orderNode (f : Frame) : Nat := f.node.toNat
def orderClass (f : Frame) : Nat := u8 f.payload 0
def orderArg (f : Frame) : Int := s16 f.payload 1

/-- The state in which the ORDER at the head of the ingress queue has been taken. -/
def Taken (s : State) (rest : List Frame) : State := s.setConsole { s.console with ingress := rest }

/-- The ORDER f is refused: its one final result, and after it its ORDER OUTCOME event (05:R81, R93; their order is
log 8). -/
def Refuses (s : State) (f : Frame) (rest : List Frame) (arg : Int) (clamped : Bool) (x : Result) (detail : Nat) : State :=
  ((Taken s rest).orderResult f.tag (orderNode f) (orderClass f) arg x.code detail (2 * bit clamped)).occur
    (.orderOutcome (orderNode f) x)

/-- The record the ORDER f gains through entry n, p (05:R76). -/
def Admitted (f : Frame) (n : Nat) (p : Permit) : OrderRecord :=
  { origin := .console f.tag, node := orderNode f, cls := orderClass f, arg := Forwarded p (orderArg f)
    clamped := Outside p (orderArg f), entry := n, required := p.required, deadline := none, memory := none }

/-- An ORDER is served whose first five checks pass through entry n, p, and whose argument may go on (05:R77 to R79). -/
def ReachesCheckSeven (s : State) (f : Frame) (n : Nat) (p : Permit) : Prop :=
  Matches s.gate.permits (orderNode f) (orderClass f) n p ∧ FlagsPass s p ∧ OwnedPass s p
    ∧ MotionPass s (orderNode f) (orderClass f) ∧ (Outside p (orderArg f) = true → p.clamp = true)

/-- The ORDER RESULT frame of a console order (01, section 1.10). -/
def resultFrame (tag : Byte) (r : OrderRecord) (code detail flags : Nat) : Frame :=
  { kind := kindOrderResult, node := byte r.node, tag := tag
    payload := byte r.cls :: beS16 r.arg ++ [byte code, byte detail, byte flags] }

/-- The ORDER RESULT frames that t's egress queue holds behind the frames of s. -/
def NewResults (s t : State) : List Frame :=
  (t.console.egress.drop s.console.egress.length).filter fun f => f.kind == kindOrderResult

/-- The tag of a console order. -/
def consoleTag (r : OrderRecord) : Byte :=
  match r.origin with
  | .console tag => tag
  | _ => 0

/-- The state in which the head of the ingress queue has been taken and its response placed. -/
def responded (s : State) (f : Frame) (rest : List Frame) (status detail : Nat) (data : List Byte) : State :=
  s.setConsole
    { s.console with
      ingress := rest
      egress := s.console.egress ++
        [{ kind := 18, node := 0, tag := f.tag
           payload := [f.payload[0]?.getD 0, byte status, byte detail] ++ data }] }

/-- A frame that carries a management request of n payload bytes with this code. -/
def Request (f : Frame) (code n : Nat) : Prop := f.kind = 2 ∧ u8 f.payload 0 = code ∧ f.payload.length = n

/-- A table request names this table and this entry. -/
def Names (f : Frame) (table entry : Nat) : Prop := u8 f.payload 1 = table ∧ u8 f.payload 2 = entry

/-- Every table and record is as before: `s` before, `t` after. -/
def SameTables (s t : State) : Prop :=
  t.points.map = s.points.map ∧ t.cond.table = s.cond.table ∧ t.gate.permits = s.gate.permits
    ∧ t.field.scanList = s.field.scanList ∧ t.seq.table = s.seq.table ∧ t.span.record = s.span.record
    ∧ t.chan.record = s.chan.record ∧ t.unit.limits = s.unit.limits

/-- A cause is latched while another is latched already: the set grows and nothing else happens (10:R176). -/
def LatchedBeside (s : State) (c : Cause) : State :=
  s.setUnit { s.unit with causes := s.unit.causes.join c, chain := if s.unit.causes.has c then s.unit.chain else false }

/-- The number of SILENT nodes, which point 126 holds (02:R39). -/
def SilentCount (f : Field) : Int := (f.nodes.toList.filter fun r => decide (r.state = .silent)).length

/-- A poll has ended as a MISS (02:R22, R39; 03:R48): TURNAROUND begins with the receiver in HUNTING, the miss is
counted on the node's record and taken by every point of the node; a node that falls SILENT is alerted and counted on
point 126. -/
def PollMissed (s t : State) (tx : Transaction) : Prop :=
  let before := nodeRecord s.field tx.node
  let after := nodeRecord t.field tx.node
  let n := min (before.misses + 1) 15
  t.field.link = .turnaround ∧ t.field.tx = none ∧ t.field.receiver = .hunting
    ∧ after.misses = n ∧ after.lastGood = before.lastGood
    ∧ (after.state = .silent ↔ before.state = .silent ∨ s.field.silentLimit ≤ n)
    ∧ (before.state ≠ .silent → s.field.silentLimit ≤ n →
      ReportsAround s.console t.console 21 [3, 0, BitVec.ofNat 8 tx.node] ∧ (t.point 126).value = SilentCount t.field)
    ∧ ∀ i, i < 112 →
      (∀ m, look s.points.map i none = some m → m.node = tx.node → t.point i = (s.point i).miss m.staleLimit)
        ∧ ((∀ m, look s.points.map i none = some m → m.node ≠ tx.node) → t.point i = s.point i)

/-- The command c brings a receive fault of a frame in assembly, which the count f counts (01:R3 to R7). -/
def BringsFault (bytes : List Byte) (c : Instr) (f : LinkCounts → LinkCounts) : Prop :=
  (c = .badStopBit .field ∧ f = LinkCounts.addCheck) ∨ (c = .gapFault .field ∧ f = LinkCounts.addGap)
    ∨ ∃ data, (c = .truncatedFault .field data ∧ f = LinkCounts.addTruncated)
      ∨ (c = .lengthFault .field data ∧ f = LinkCounts.addLength ∧ bytes.length = 3
        ∧ ¬LengthFits .field (bytes[0]?.getD 0) data.toNat)
      ∨ (c = .frameComplete .field data ∧ f = LinkCounts.addCheck ∧ 4 ≤ bytes.length ∧ bytes.length = u8 bytes 3 + 5
        ∧ ∀ g, frameBytes g ≠ bytes ++ [data])

/-! ### The Span Supervisor -/

/-- Points 112 to 116 share the freshness that the first-pair mark, the pair-loss mark, the span record and the two encoder
points give them (03:R55). -/
def SpanPointsSettled (s : State) : Prop :=
  let known := ∃ r, s.span.record = some r ∧ (s.point r.a.encoder).freshness = .fresh
    ∧ (s.point r.b.encoder).freshness = .fresh
  ∀ n, 112 ≤ n → n ≤ 116 →
    (s.points.firstPair = false → (s.point n).freshness = .never)
      ∧ (s.points.firstPair = true → s.points.pairLoss = true ∨ ¬known → (s.point n).freshness = .stale)
      ∧ (s.points.firstPair = true → s.points.pairLoss = false → known → (s.point n).freshness = .fresh)

/-- Points 112 to 116 hold these values and are settled, and every other point is as before (03:R54, R55). -/
def SpanPoints (s t : State) (values : Nat → Int) : Prop :=
  SpanPointsSettled t ∧ (∀ n, n < 112 ∨ 116 < n → t.point n = s.point n)
    ∧ ∀ n, 112 ≤ n → n ≤ 116 → t.point n = { s.point n with value := values n, freshness := (t.point n).freshness }

/-- The values of a pair write (03:R54). -/
def PairValues (hA hB skew mean speed : Int) (n : Nat) : Int :=
  if n = 112 then hA else if n = 113 then hB else if n = 114 then skew else if n = 115 then mean else speed

/-- The values after a height write (03:R54). -/
def HeightValues (s : State) (x : Tower) (h : Int) (n : Nat) : Int :=
  if s.points.firstPair = true ∧ n = (if x = .a then 112 else 113) then h else (s.point n).value

/-- The encoder points of the span record are field points (06, section 6.1). -/
def EncodersInField (s : State) : Prop :=
  ∀ r, s.span.record = some r → r.a.encoder < 112 ∧ r.b.encoder < 112

/-- The level indicator after a pair of this skew (06:R109). -/
def Levelled (p : Span) (l : LimitRecord) (skew : Int) : Span :=
  let run := if skew.natAbs ≤ l.lTol then min (p.levelRun + 1) 15 else 0
  let now := if skew.natAbs ≤ l.lTol then (if l.nLvl ≤ run then .level else p.level) else .notLevel
  { p with
    levelRun := run, level := now
    levelChanges := if now = p.level then p.levelChanges else min (p.levelChanges + 1) 255 }

/-- A motion stop with a cause, in a phase in which the sequencer takes no action on it (06:R98): what t keeps of s. -/
structure StopsMotion (s t : State) (l : LimitRecord) (r : SpanRecord) (c : MotionCause) : Prop where
  power : t.power = s.power ∧ t.now = s.now ∧ t.pending = s.pending ∧ t.unit = s.unit
  span : t.span =
    { s.span with
      motion := .stopping, stopKind := some .fault, standstillRun := 0, startWindow := none
      stopTimer := some (s.now + BitVec.ofNat 32 (l.stopLimit * 1000)) }
  field : t.field =
    { s.field with
      trimA := none, trimB := none
      stopA := some { node := r.a.hoist, cls := r.stop, arg := 0 }
      stopB := some { node := r.b.hoist, cls := r.stop, arg := 0 } }
  points : t.points = WithValue s 119 3
  gate : t.gate = { s.gate with sets := t.gate.sets }
  seq : t.seq = { s.seq with sets := t.seq.sets }
  chan : t.chan = { s.chan with sets := t.chan.sets }
  cond : t.cond = { s.cond with states := t.cond.states, counterChanges := t.cond.counterChanges }
  duty : t.duty = { s.duty with counters := t.duty.counters, frozen := t.duty.frozen, sets := t.duty.sets }
  counters : ∀ k, k < 8 →
    CountsTo s.duty.frozen (OccurrenceAdds (.motionStop c) (look s.duty.counters k DutyCounter.reset))
      (look s.duty.counters k DutyCounter.reset) (look t.duty.counters k DutyCounter.reset)
  alert : ReportsAround s.console t.console 21 [2, 0, byte c.code]

/-- The span moves in a phase that a motion stop faults (07:R131). -/
def FaultedByStop (p : Phase) : Prop := p = .lifting ∨ p = .lowering ∨ p = .seating

/-- The motion state is RAISING or LOWERING. -/
def Moving (s : State) : Prop := s.span.motion = .raising ∨ s.span.motion = .lowering

/-- The level indicator is set to NOT_LEVEL with the level run 0 (06:R105, R106, R109). -/
def Unlevelled (p : Span) : Span :=
  { p with
    levelRun := 0, level := .notLevel
    levelChanges := if p.level = .notLevel then p.levelChanges else min (p.levelChanges + 1) 255 }

/-- The level indicator goes from that of s.span to that of p: a change is written to point 117 (06:R109). -/
def LevelSet (s t : State) (p : Span) : Prop :=
  (p.level = s.span.level → t = s.setSpan p) ∧ (p.level ≠ s.span.level → PointWritten (s.setSpan p) t 117 p.level.num)

/-- The two ends can be compared: pair loss is not announced, and both encoder points are FRESH (06:R113). -/
def SkewKnown (s : State) (r : SpanRecord) : Prop :=
  s.span.pairLost = false ∧ (s.point r.a.encoder).freshness = .fresh ∧ (s.point r.b.encoder).freshness = .fresh

/-- The speed limit of the zone of a mean height (06:R117). -/
def ZoneLimit (l : LimitRecord) (mean : Int) : Nat :=
  if mean ≤ l.z1.bound then l.z1.speed
  else if mean ≤ l.z2.bound then l.z2.speed
  else if mean ≤ l.z3.bound then l.z3.speed
  else l.z4.speed

/-- |v| lies in speed band n (06:R112). -/
def InBand (r : SpanRecord) (v : Int) (n : Nat) : Prop :=
  (n = 0 ∧ v.natAbs ≤ r.b1) ∨ (n = 1 ∧ r.b1 < v.natAbs ∧ v.natAbs ≤ r.b2) ∨ (n = 2 ∧ r.b2 < v.natAbs ∧ v.natAbs ≤ r.b3)
    ∨ (n = 3 ∧ r.b3 < v.natAbs ∧ v.natAbs ≤ r.b4)

/-- A pair has arrived (06:R99). -/
def Arrives (r : SpanRecord) (m : MotionState) (mean : Int) : Prop :=
  (m = .raising ∧ r.top - (r.arrival : Int) ≤ mean) ∨ (m = .lowering ∧ mean ≤ r.seat + (r.arrival : Int))

/-- Stages 1 to 3 of an encoder update: the unchanged run, the height and the latest update of its tower (06:R102). -/
def Updated (p : Span) (r : SpanRecord) (x : Tower) (raw : Nat) (time : Time) : Span :=
  p.setTower x
    { p.tower x with
      unchanged := match (p.tower x).latest with
        | some u => if u.raw = raw then min ((p.tower x).unchanged + 1) 255 else 0
        | none => 0
      latest := some { raw := raw, height := (r.tower x).height raw, time := time } }

/-- Stage 4 finds nothing: the span does not move, or the height is not saturated and the tower does not stall (06:R102,
R116). -/
def WatchesPass (s : State) (r : SpanRecord) (x : Tower) (raw : Nat) (time : Time) : Prop :=
  Moving s → (r.tower x).outOfRange raw = false
    ∧ ∀ t0, s.span.motionStart = some t0 → (s.now - t0).toNat < r.stallGrace
      ∨ ((Updated s.span r x raw time).tower x).unchanged < r.stallLimit

/-- Stage 4 stops the motion with this cause: a saturated height, else a run of unchanged updates of the tower after the
grace (06:R102, R116). -/
def WatchStops (s : State) (r : SpanRecord) (x : Tower) (raw : Nat) (time : Time) (c : MotionCause) : Prop :=
  Moving s
    ∧ (((r.tower x).outOfRange raw = true ∧ c = .heightRange)
      ∨ ((r.tower x).outOfRange raw = false
        ∧ (∃ t0, s.span.motionStart = some t0 ∧ r.stallGrace ≤ (s.now - t0).toNat
          ∧ r.stallLimit ≤ ((Updated s.span r x raw time).tower x).unchanged)
        ∧ c = if x = .a then .encoderStallA else .encoderStallB))

/-- An update at `time` lies within the pair window of the other tower's latest update u (06:R104). -/
def WithinWindow (l : LimitRecord) (time : Time) (u : Update) : Prop :=
  (time - u.time).toNat ≤ l.window ∨ (u.time - time).toNat ≤ l.window

/-- The failures of a field order that reached the link (02:R23). -/
def FailedOnLink (x : Result) : Prop := x = .nodeRefused ∨ x = .noAnswer ∨ x = .garbled ∨ x = .linkFault

/-- A cause is reported: a stand-down entry where the set was empty, else the set alone grows (10:R176, R177). -/
def Latches (s t : State) (c : Cause) : Prop :=
  (s.unit.causes = CauseSet.empty → StandsDown s t c) ∧ (s.unit.causes ≠ CauseSet.empty → t = LatchedBeside s c)

/-- Stages 5 and 6 of an update of tower x that pairs with the update u of the other tower, at height h (06:R102, R104,
R107 to R109): the speed basis, the pair write, the skew trip and the level indicator, then the stages of motion, or, for a
span that was STOPPING when the update arrived, the standstill test. -/
def PairTaken (s t : State) (l : LimitRecord) (r : SpanRecord) (x : Tower) (h : Int) (time : Time) (u : Update)
    (stopping : Bool) : Prop :=
  let tp := if (time - u.time).toNat ≤ l.window then time else u.time
  let hA := if x = .a then h else u.height
  let hB := if x = .a then u.height else h
  let skew := hA - hB
  let mean := (hA + hB) / 2
  let v := match s.span.previous with
    | none => 0
    | some q =>
      if tp = q.time then s.span.speed
      else max (-3000) (min 3000 (((mean - q.mean) * 1000).tdiv (tp - q.time).toNat))
  ∃ p c w,
    let span := { s.span with
      pairMisses := 0, pairLost := false, previous := some { mean := mean, time := tp }, speed := v
      lastSkew := some skew }
    PointsMoved (s.setSpan span) p true false ∧ SpanPoints s p (PairValues hA hB skew mean v)
      ∧ (l.tSkew < skew.natAbs → Latches p c .skewTrip) ∧ (skew.natAbs ≤ l.tSkew → c = p)
      ∧ LevelSet c w (Levelled c.span l skew)
      ∧ (¬Moving s → stopping = false → t = w)
      ∧ (Moving s → stopping = false → t = w.motionStages l r skew mean v)
      ∧ (stopping = true → t = w.standstillStage r v)

/-- The hold-to-run interval (06:R115). -/
def HoldInterval (s : State) (ms : Nat) : Prop :=
  (∀ l, s.unit.limits = some l → ms = l.holdInterval) ∧ (s.unit.limits = none → ms = 300)

/-- The integer nearest to x / d, ties away from zero (00_scope, Conventions). -/
def Nearest (x : Int) (d : Nat) (h : Int) : Prop :=
  (2 * (d * h - x)).natAbs ≤ d ∧ ((2 * (d * h - x)).natAbs = d → x.natAbs < (d * h).natAbs)

/-! ### The Crossing Sequencer -/

/-- The five things that make a phase ready to advance (07:R128). -/
def PhaseReady (s : State) : Prop :=
  s.seq.phase ≠ .halted ∧ s.seq.phase ≠ .inactive ∧ (∀ x ∈ s.seq.tracking, x = .done) ∧ s.seq.dwell = .elapsed
    ∧ (∀ e c, look s.seq.table s.seq.phase.num none = some e → e.advance = some c → standsTrue s.cond.states c = true)
    ∧ (s.seq.phase = .roadOpen → s.seq.request = .openRequest)
    ∧ (s.seq.phase = .channelOpen → s.seq.request = .closeRequest)
    ∧ (s.seq.phase = .channelClosing → s.chan.state = .closed)

/-- What t keeps of s over a phase change to p (07:R125), but for the sequencer itself: the phase on point 120, the PHASE
REPORT, and the phase handed to the Channel Controller and the Duty Counter Unit. -/
structure PhaseHanded (s t : State) (p : Phase) (cause : PhaseCause) : Prop where
  power : t.power = s.power ∧ t.now = s.now ∧ t.pending = s.pending ∧ t.unit = s.unit ∧ t.field = s.field
    ∧ t.span = s.span
  points : t.points = { s.points with points := put s.points.points 120 { s.point 120 with value := p.num } }
  chan : t.chan = { s.chan with phaseSeen := p, sets := t.chan.sets }
  cond : t.cond = { s.cond with states := t.cond.states, counterChanges := t.cond.counterChanges }
  duty : t.duty =
    { s.duty with phase := p, counters := t.duty.counters, frozen := t.duty.frozen, sets := t.duty.sets }
  report : ReportsAround s.console t.console 20 [byte p.num, byte cause.code]

/-- The sequencer right after it has entered working phase p, whose entry e has a dwell (07:R126). -/
def EnteredPhase (s t : State) (p : Phase) (e : PhaseEntry) (tracking : List Place) : Sequencer :=
  { s.seq with
    phase := p, interrupted := none, request := .none, recovery := s.seq.recovery && decide (p ≠ .roadOpen)
    serial := s.seq.serial + 1, tracking := tracking
    dwell := .running (s.now + BitVec.ofNat 32 e.dwell)
    limit := if e.limit = 0 then none else some (s.now + BitVec.ofNat 32 (e.limit * 1000))
    sets := t.seq.sets, standdowns := t.seq.standdowns }

/-- The entry of phase p: present, with a dwell, and with these entry orders. -/
def HasEntry (s : State) (p : Phase) (e : PhaseEntry) (orders : List EntryOrder) : Prop :=
  look s.seq.table p.num none = some e ∧ e.orders = orders ∧ 1 ≤ e.dwell

/-- A working phase faults: the crossing is HALTED and remembers it (07:R130). -/
structure Halts (s t : State) (cause : PhaseCause) : Prop where
  seq : t.seq =
    { s.seq with
      phase := .halted, interrupted := some (.phase s.seq.phase), tracking := [], dwell := .absent, limit := none
      request := .none, sets := t.seq.sets }
  gate : t.gate = { s.gate with sets := t.gate.sets }
  handed : PhaseHanded s t .halted cause

/-- A phase numbered 0 to 11 (07, section 7.1). -/
def Working (p : Phase) : Prop := p ≠ .halted ∧ p ≠ .inactive

/-- Working phase p is entered, its entry e holding no entry orders and a dwell (07:R126). Phases 6 and 7 act on the
channel besides. -/
def Enters (s t : State) (p : Phase) (cause : PhaseCause) (e : PhaseEntry) : Prop :=
  t.seq = EnteredPhase s t p e []
    ∧ (p ≠ .channelOpen → p ≠ .channelClosing → PhaseHanded s t p cause ∧ t.gate = { s.gate with sets := t.gate.sets })

/-- The phase that a REVERSE enters from each interrupted phase (07:R137). -/
def reversals : List (Phase × Phase) :=
  [(.warning, .gatesRaising), (.entryGates, .gatesRaising), (.exitGates, .gatesRaising), (.roadProof, .gatesRaising),
    (.lifting, .lowering), (.channelOpen, .channelClosing), (.channelClosing, .channelOpen), (.lowering, .lifting),
    (.seating, .lifting), (.gatesRaising, .entryGates), (.roadRelease, .warning)]

/-! ### The Channel Controller -/

/-- An own order passes every check through entry n, p, and the own-order queue has room (05:R87, R88). -/
def OwnPasses (s : State) (node cls : Nat) (arg : Int) (n : Nat) (p : Permit) : Prop :=
  Matches s.gate.permits node cls n p ∧ FlagsPass s p ∧ MotionPass s node cls ∧ p.argMin ≤ arg ∧ arg ≤ p.argMax
    ∧ p.required = [] ∧ s.gate.own.length < 12

/-- The record of an own order that passes through entry n, p (05:R76, R79, R87). -/
def OwnRecord (origin : Origin) (node cls : Nat) (arg : Int) (n : Nat) (p : Permit) : OrderRecord :=
  { origin := origin, node := node, cls := cls, arg := Forwarded p arg, clamped := Outside p arg, entry := n
    required := p.required, deadline := none, memory := none }

/-- A RED or a GREEN has joined the own-order queue, and is outstanding on its signal (08:R143). -/
def SignalOffered (s : State) (r : ChannelRecord) (d : Direction) (k : SignalKind) (n : Nat) (p : Permit) : State :=
  (s.setGate { s.gate with own := s.gate.own ++ [OwnRecord (.channel d k) (r.node d) r.cls k.arg n p] }).setChan
    (s.chan.addOwn d k)

/-- An own order passes every check through entry n, p, and the own-order queue has room: OWNED is not checked (05:R77 to
R80, R87, R88). -/
def OwnAdmitted (s : State) (node cls : Nat) (arg : Int) (n : Nat) (p : Permit) : Prop :=
  Matches s.gate.permits node cls n p ∧ FlagsPass s p ∧ MotionPass s node cls ∧ (Outside p arg = true → p.clamp = true)
    ∧ AllTrue s p.required ∧ s.gate.own.length < 12

/-- An own order is refused x at admission, by the first check that fails, or for want of room: OWNED is not checked, and
HOLD is treated as REFUSE (05:R77 to R80, R87, R88). -/
def OwnRefused (s : State) (node cls : Nat) (arg : Int) (x : Result) : Prop :=
  (s.unit.mode = .init ∧ x = .notReady)
    ∨ (s.unit.mode ≠ .init ∧ (∀ n p, look s.gate.permits n none = some p → ¬Governs p node cls) ∧ x = .noPermit)
    ∨ ∃ n p, s.unit.mode ≠ .init ∧ Matches s.gate.permits node cls n p
      ∧ let inside := Outside p arg = true → p.clamp = true
        ((s.unit.mode = .maintenance ∧ p.maint = false ∧ x = .maintenance)
          ∨ ((s.unit.mode = .maintenance → p.maint = true) ∧ s.unit.causes ≠ CauseSet.empty ∧ p.standdown = false
            ∧ x = .standdown)
          ∨ (FlagsPass s p ∧ ¬MotionPass s node cls ∧ x = .motionBusy)
          ∨ (FlagsPass s p ∧ MotionPass s node cls ∧ ¬inside ∧ x = .argument)
          ∨ (FlagsPass s p ∧ MotionPass s node cls ∧ inside ∧ ¬AllTrue s p.required ∧ x = .refusedCondition)
          ∨ (FlagsPass s p ∧ MotionPass s node cls ∧ inside ∧ AllTrue s p.required ∧ 12 ≤ s.gate.own.length
            ∧ x = .queueFull))

/-- A RED is offered to a signal: it joins the own-order queue, or its refusal clears RED wanted and is the cause CHANNEL
SIGNAL (08:R143, R153). Without a channel record nothing is offered. That the ORDER OUTCOME of the refusal comes before what
it makes is the model's (log 8). -/
structure RedOffered (s t : State) (d : Direction) : Prop where
  absent : s.chan.record = none → t = s
  passes : ∀ r n p, s.chan.record = some r → OwnAdmitted s (r.node d) r.cls 0 n p → t = SignalOffered s r d .red n p
  refused : ∀ r x, s.chan.record = some r → OwnRefused s (r.node d) r.cls 0 x →
    let u := s.occur (.orderOutcome (r.node d) x)
    Latches (u.setChan (u.chan.setSignal d { u.chan.signal d with redWanted := false })) t .channelSignal

/-- Every vessel in the queue waits no more. -/
def NoneWaits (vs : List Vessel) : Prop := ∀ v ∈ vs, v.cleared = true

/-- The vessel queue with a new entry at its tail: CLEARED under a GREEN that admits it (08:R146). -/
def QueueJoined (s : State) (tag : Nat) (d : Direction) : List Vessel :=
  s.chan.vessels ++
    [{ tag := tag, direction := d, arrival := s.now
       cleared := decide (s.chan.state = ChannelState.green d) && !s.chan.greenExpired && !s.chan.changeoverPending
        && !s.chan.closing }]

/-- The tests that follow a join or a removal find nothing to do: the channel is CLOSED outside phase 6, or no vessel
waits (08:R149, R151). -/
def ChannelQuiet (c : Channel) (vs : List Vessel) : Prop :=
  (c.state = .closed ∧ c.phaseSeen ≠ .channelOpen) ∨ NoneWaits vs

/-- The vessel queue has become vs, mirrored by points 121 and 122, and nothing else has moved but the Condition
Evaluator (08:R146). -/
def VesselsBecome (s t : State) (vs : List Vessel) : Prop :=
  ∃ u, PointWritten (s.setChan { s.chan with vessels := vs }) u 121 vs.length
    ∧ PointWritten u t 122 (match vs with
      | [] => 0
      | v :: _ => v.direction.num)

/-- What a close withdraws (08:R152, steps 1 and 2). -/
def Withdrawn (c : Channel) : Channel :=
  { c with
    vessels := c.vessels.map fun v => { v with cleared := false }
    greenTimer := none, changeoverTimer := none, retryTimer := none, greenExpired := false, changeoverPending := false }

/-- The signal shows RED by its last order and no GREEN is on its way (08:R152, step 3). -/
def SignalRed (g : Signal) : Prop := g.memory = some { kind := .red, result := .done } ∧ SignalKind.green ∉ g.outstanding

/-- A RED is offered to a signal, unless an own RED to it is outstanding (08:R152, R154). -/
def RedOfferedOnce (s t : State) (d : Direction) : Prop :=
  (SignalKind.red ∈ (s.chan.signal d).outstanding → t = s)
    ∧ (SignalKind.red ∉ (s.chan.signal d).outstanding → RedOffered s t d)

/-- RED is wanted for a signal after a close (08:R152, step 3). -/
def WantsRed (g : Signal) : Bool :=
  g.redWanted || decide (g.memory ≠ some { kind := .red, result := .done }) || decide (SignalKind.green ∈ g.outstanding)

/-- A GREEN to direction d failed with x, which takes u to t (08:R149). That the alert comes first is the model's
(log 8). -/
def GreenFails (u t : State) (d : Direction) (x : Result) : Prop :=
  let v := u.alert (.channelGreenFailed d)
  ∃ w, (u.chan.closing = true ∨ u.chan.record = none → w = v)
    ∧ (∀ r, u.chan.closing = false → u.chan.record = some r →
      let timed := { v.chan with retryTimer := some (u.now + BitVec.ofNat 32 (r.changeover * 1000)) }
      (u.chan.state ≠ .changeover → w = v.setChan timed)
        ∧ (u.chan.state = .changeover → PointWritten (v.setChan { timed with state := .closed }) w 127 0))
    ∧ (¬FailedOnLink x → t = w)
    ∧ (FailedOnLink x →
      RedOfferedOnce (w.setChan (w.chan.setSignal d { w.chan.signal d with redWanted := true })) t d)

/-- A GREEN is offered to the signal of direction d: it joins the own-order queue, or fails with the result of its refusal
(08:R143, R149). That the ORDER OUTCOME of the refusal comes first is the model's (log 8). -/
structure GreenOffered (s t : State) (d : Direction) : Prop where
  absent : s.chan.record = none → t = s
  passes : ∀ r n p, s.chan.record = some r → OwnAdmitted s (r.node d) r.cls 1 n p → t = SignalOffered s r d .green n p
  refused : ∀ r x, s.chan.record = some r → OwnRefused s (r.node d) r.cls 1 x →
    GreenFails (s.occur (.orderOutcome (r.node d) x)) t d x

/-- The opening test offers a GREEN to direction d, that of the head of the vessel queue (08:R149). -/
def MayOpen (s : State) (d : Direction) : Prop :=
  s.unit.mode = .service ∧ s.chan.record ≠ none ∧ s.chan.phaseSeen = .channelOpen ∧ s.chan.state = .closed
    ∧ s.chan.closing = false ∧ s.chan.retryTimer = none ∧ s.chan.north.outstanding = [] ∧ s.chan.south.outstanding = []
    ∧ ¬NoneWaits s.chan.vessels ∧ s.chan.vessels.head?.map Vessel.direction = some d
    ∧ (s.chan.signal d.opposite).memory = some { kind := .red, result := .done }

/-- Step 3 of a close at the signal of direction d (08:R152), which stood as g before it: one that does not show RED is
offered a RED. -/
structure CloseOffers (g : Signal) (s t : State) (d : Direction) : Prop where
  shown : SignalRed g → t = s
  offered : ¬SignalRed g → RedOfferedOnce s t d

/-- A close takes s to t (08:R152). That the north signal comes first is the model's (log 8); so are the judging of step 4
by the flags as step 3 sets them (log 11), and a close without a channel record (log 10). It offers its REDs in every mode
(log 12). -/
structure Closes (s t : State) : Prop where
  unwanted : (∀ d, WantsRed (s.chan.signal d) = false) →
    PointWritten (s.setChan { Withdrawn s.chan with closing := false, state := .closed }) t 127 0
  wanted : (∃ d, WantsRed (s.chan.signal d) = true) →
    let c := Withdrawn s.chan
    let w := s.setChan
      { c with
        closing := true, north := { c.north with redWanted := WantsRed s.chan.north }
        south := { c.south with redWanted := WantsRed s.chan.south } }
    ∃ u, CloseOffers s.chan.north w u .north ∧ CloseOffers s.chan.south u t .south

/-- An event of the Channel Controller that takes s to t ends: at a change of the channel state the sequencer makes its
advance test (07:R128, 08:R144), and where the channel became CLOSED the opening test is made after it (08:R149,
log 8). -/
def ChannelDone (s t : State) : State :=
  if t.chan.state = s.chan.state then t
  else if t.chan.state = .closed then t.advanceTest.openingTest
  else t.advanceTest

/-- The vessel queue becomes vs, and the opening test and the changeover test are made (08:R146); t is v, in which only the
queue has changed, where the two tests find nothing to do. -/
def VesselsTested (s t : State) (vs : List Vessel) : Prop :=
  ∃ v, VesselsBecome s v vs ∧ t = v.openingTest.changeoverTest ∧ (ChannelQuiet s.chan vs → t = v)

/-- A passage of direction d takes s to t (08:R150): the oldest CLEARED entry of the direction leaves the queue, and the two
tests follow; with none the passage is unexpected. That its event comes after the points, and before the tests, is the
model's (log 8). -/
structure Passes (s t : State) (d : Direction) : Prop where
  unexpected : (∀ v ∈ s.chan.vessels, ¬(v.cleared = true ∧ v.direction = d)) →
    t = ((s.setChan { s.chan with unexpectedPassages := min (s.chan.unexpectedPassages + 1) 65535 }).alert
      (.unexpectedPassage d)).occur (.vesselPassage d)
  removes : ∀ pre v post, s.chan.vessels = pre ++ v :: post → v.cleared = true → v.direction = d →
    (∀ w ∈ pre, ¬(w.cleared = true ∧ w.direction = d)) →
    ∃ u, VesselsBecome s u (pre ++ post) ∧ t = (u.occur (.vesselPassage d)).openingTest.changeoverTest
      ∧ (ChannelQuiet s.chan (pre ++ post) → t = u.occur (.vesselPassage d))

/-! ### Phase changes, and changes of mode -/

/-- Steps 1 to 3 of a phase change to p (07:R125): point 120, the PHASE REPORT, the PHASE ENTRY event. -/
def PhaseChanged (s t : State) (p : Phase) (cause : PhaseCause) : Prop :=
  ∃ u, PointWritten (s.setSeq { s.seq with phase := p }) u 120 p.num
    ∧ let v := u.setConsole (u.console.offer 20 [byte p.num, byte cause.code])
      t = v.takeDuty (v.duty.phaseTo p)

/-- The Channel Controller takes a phase handed to it (07:R125): it acts on an entry into phase 6 (08:R149) and into
phase 7 (08:R152). -/
def ChannelTakes (s : State) (p : Phase) : State :=
  let u := s.setChan { s.chan with phaseSeen := p }
  match p with
  | .channelOpen => u.openingTest
  | .channelClosing => ChannelDone u u.close
  | _ => u

/-- SERVICE ends and MAINTENANCE begins (10:R172): the mode on point 123, the sequencer INACTIVE (07:R140), a close
(08:R152). That the close comes last is the model's (log 8). -/
def MaintenanceBegun (s t : State) : Prop :=
  ∃ a b, PointWritten (s.setUnit
      { s.unit with
        mode := .maintenance, chain := decide (s.unit.causes = CauseSet.empty), maintenancePending := false }) a 123 1
    ∧ PhaseChanged (a.setSeq
      { a.seq with
        interrupted := none, tracking := [], dwell := .absent, limit := none, request := .none, recovery := false }) b
      .inactive .mode
    ∧ Closes (b.setChan { b.chan with phaseSeen := .inactive }) t

/-- The Mode and Chain Unit takes a phase handed to it: MAINTENANCE that is pending begins at phase 0 and HALTED
(07:R141). -/
def ModeTakes (s t : State) (p : Phase) : Prop :=
  let begins := s.unit.maintenancePending = true ∧ s.unit.mode = .service ∧ (p = .roadOpen ∨ p = .halted)
  (begins → MaintenanceBegun s t) ∧ (¬begins → t = s)

/-- A phase fault takes s to t: a working phase is HALTED and remembered; it has no effect outside the working phases
(07:R130). -/
def Faults (s t : State) (cause : PhaseCause) : Prop :=
  (¬Working s.seq.phase → t = s)
    ∧ (Working s.seq.phase → ∃ v, PhaseChanged (s.setSeq
        { s.seq with
          interrupted := some (.phase s.seq.phase), tracking := [], dwell := .absent, limit := none, request := .none }) v
        .halted cause
      ∧ ModeTakes (ChannelTakes v .halted) t .halted)

/-- A motion stop begins, steps 1 to 4 of 06:R98: the stops, the trims, the motion state on point 119, the alert. -/
def StopBegins (s u : State) (l : LimitRecord) (r : SpanRecord) (c : MotionCause) : Prop :=
  ∃ w, PointWritten ((s.setField
      { s.field with
        trimA := none, trimB := none
        stopA := some { node := r.a.hoist, cls := r.stop, arg := 0 }
        stopB := some { node := r.b.hoist, cls := r.stop, arg := 0 } }).setSpan
      { s.span with
        motion := .stopping, stopKind := some .fault, standstillRun := 0, startWindow := none
        stopTimer := some (s.now + BitVec.ofNat 32 (l.stopLimit * 1000)) }) w 119 3
    ∧ u = w.setConsole (w.console.offer 21 [2, 0, byte c.code])

/-- A motion stop with a cause, in any phase (06:R98): it begins, then reaches the sequencer, where it faults phases 5, 8 and
9 (07:R131), also with MAINTENANCE pending, and last it is reported to the Duty Counter Unit. `alone` and `halts` say what
that leaves. -/
structure MotionStopped (s t : State) (l : LimitRecord) (r : SpanRecord) (c : MotionCause) : Prop where
  course : ∃ u v, StopBegins s u l r c ∧ (FaultedByStop s.seq.phase → Faults u v .motionStop)
    ∧ (¬FaultedByStop s.seq.phase → v = u) ∧ t = v.occur (.motionStop c)
  alone : ¬FaultedByStop s.seq.phase → StopsMotion s t l r c
  halts : FaultedByStop s.seq.phase → s.unit.maintenancePending = false →
    t.span =
        { s.span with
          motion := .stopping, stopKind := some .fault, standstillRun := 0, startWindow := none
          stopTimer := some (s.now + BitVec.ofNat 32 (l.stopLimit * 1000)) }
      ∧ t.field =
        { s.field with
          trimA := none, trimB := none
          stopA := some { node := r.a.hoist, cls := r.stop, arg := 0 }
          stopB := some { node := r.b.hoist, cls := r.stop, arg := 0 } }
      ∧ t.unit = s.unit ∧ t.seq.phase = .halted ∧ t.seq.interrupted = some (.phase s.seq.phase)
      ∧ (t.point 119).value = 3 ∧ (t.point 120).value = 12

/-- Entry orders are offered in listed order, the first of them at place i; a refusal faults the phase, and those after it
are not offered (07:R126, step 4). That the ORDER OUTCOME of the refusal comes before the fault is the model's
(log 8). -/
def EntriesOffered (serial : BitVec 16) : Nat → List EntryOrder → State → State → Prop
  | _, [], s, t => t = s
  | i, o :: os, s, t =>
    (∀ x, OwnRefused s o.node o.cls o.arg x → Faults (s.occur (.orderOutcome o.node x)) t .entryRefused)
      ∧ ∀ n p, OwnAdmitted s o.node o.cls o.arg n p →
        EntriesOffered serial (i + 1) os
          ((s.setGate { s.gate with own := s.gate.own ++ [OwnRecord (.sequencer serial i) o.node o.cls o.arg n p] }).setSeq
            { s.seq with tracking := s.seq.tracking.set i .awaiting }) t

/-- Working phase p is entered (07:R126), with every advance that follows in the event (07:R128): state and timers, phase
change, hand-overs, and, while the phase is still p, the offers and the advance test. -/
def EntersPhase (s t : State) (p : Phase) (cause : PhaseCause) : Prop :=
  let entry := (look s.seq.table p.num none).getD { orders := [], advance := none, dwell := 0, limit := 0, proof := none }
  ∃ b c d, PhaseChanged (s.setSeq
      { s.seq with
        interrupted := none, request := .none, recovery := s.seq.recovery && decide (p ≠ .roadOpen)
        serial := s.seq.serial + 1, tracking := entry.orders.map fun _ => .notOffered
        dwell := if entry.dwell = 0 then .elapsed else .running (s.now + BitVec.ofNat 32 entry.dwell)
        limit := if entry.limit = 0 then none else some (s.now + BitVec.ofNat 32 (entry.limit * 1000)) }) b p cause
    ∧ ModeTakes (ChannelTakes b p) c p
    ∧ (c.seq.phase ≠ p → t = c)
    ∧ (c.seq.phase = p → EntriesOffered c.seq.serial 0 entry.orders c d
      ∧ (d.seq.phase ≠ p → t = d) ∧ (d.seq.phase = p → t = d.advanceTest))

/-- The phase that each phase advances to (07:R128). -/
def successors (recovery : Bool) : List (Phase × Phase) :=
  [(.roadOpen, .warning), (.warning, .entryGates), (.entryGates, .exitGates), (.exitGates, .roadProof),
    (.roadProof, if recovery then .lowering else .lifting), (.lifting, .channelOpen), (.channelOpen, .channelClosing),
    (.channelClosing, .lowering), (.lowering, .seating), (.seating, .gatesRaising), (.gatesRaising, .roadRelease),
    (.roadRelease, .roadOpen)]

/-- The advance test takes s to t (07:R128). -/
def Advances (s t : State) : Prop :=
  (¬PhaseReady s → t = s)
    ∧ ∀ q, PhaseReady s → (s.seq.phase, q) ∈ successors s.seq.recovery →
      EntersPhase (s.setSeq { s.seq with limit := none }) t q .advance

/-- The road-open proof of entry 0 is present and TRUE (07:R139). -/
def RoadProven (s : State) : Prop :=
  ∃ e c, look s.seq.table 0 none = some e ∧ e.proof = some c ∧ standsTrue s.cond.states c = true

/-- The mode becomes SERVICE (10:R172): point 123, the scan mode, adoption (07:R139), and the REDs of both signals
(08:R154). That adoption comes before the REDs is the model's (log 8). -/
def EntersService (s t : State) : Prop :=
  ∃ a c, PointWritten (s.setUnit
      { s.unit with
        mode := .service, chain := decide (s.unit.causes = CauseSet.empty), maintenancePending := false }) a 123 2
    ∧ (let b := a.setField { a.field with scanMode := .continuous }
      (RoadProven b → EntersPhase b c .roadOpen .adopted)
        ∧ (¬RoadProven b → ∃ v, PhaseChanged (b.setSeq { b.seq with interrupted := some .unknown }) v .halted .adopted
          ∧ c = ChannelTakes v .halted))
    ∧ t = c.channelService

/-! ### Cancellation at a stand-down entry -/

/-- The queued order r, which no re-check has reached, ends CANCELLED (05:R91): its result goes to the console, to the
sequencer, where it marks a place of the present entry (07:R127), or to the Channel Controller, where it leaves the
outstanding orders of its signal. A GREEN does nothing more (08:R149); a RED is offered again while RED is wanted
(08:R153). -/
structure Cancelled (s t : State) (r : OrderRecord) : Prop where
  console : ∀ tag, r.origin = .console tag → t = s.orderResult tag r.node r.cls r.arg 17 0 (2 * bit r.clamped)
  entry : ∀ serial place, r.origin = .sequencer serial place →
    (serial = s.seq.serial → Working s.seq.phase →
        t = s.setSeq { s.seq with tracking := s.seq.tracking.set place .cancelled })
      ∧ (serial ≠ s.seq.serial ∨ ¬Working s.seq.phase → t = s)
  signal : ∀ d k, r.origin = .channel d k →
    let u := s.setChan
      (s.chan.setSignal d { s.chan.signal d with outstanding := (s.chan.signal d).outstanding.erase k })
    (k = .green ∨ (s.chan.signal d).redWanted = false → t = u)
      ∧ (k = .red → (s.chan.signal d).redWanted = true → RedOffered u t d)

/-- The orders end CANCELLED one after the other, each with its ORDER OUTCOME event after its result (05:R91, R93; that
order is log 8). -/
def CancelledInTurn : List OrderRecord → State → State → Prop
  | [], s, t => t = s
  | r :: rs, s, t => ∃ u, Cancelled s u r ∧ CancelledInTurn rs (u.occur (.orderOutcome r.node .cancelled)) t

/-! ### How transactions end -/

/-- A transaction ends, which takes s to u: a contended one that leaves the count at 8 or more reports FIELD CONTENTION
(02:R19, R26), before its outcome reaches its owner (log 8). -/
def Ends (s u : State) (tx : Transaction) : Prop :=
  let v := s.setField (EndedField s.field tx)
  (tx.abandoned = 0 ∨ v.field.contention < 8 → u = v)
    ∧ (tx.abandoned ≠ 0 → 8 ≤ v.field.contention → Latches v u .fieldContention)

/-- A kept order ends with its final result, of any origin (05:R90, R92, R93): the memory of its signal is settled
(08:R145), a DONE is handed to the Span Supervisor, the result reaches the console or the originating block, the tests at
the settling of a memory are made (08:R149, R152), and ORDER OUTCOME is reported. Their order is log 8. -/
def ResultGiven (s : State) (r : OrderRecord) (x : Result) (detail : Nat) (sent : Bool) : State :=
  let a := s.settleMemory r x
  let b := if x = .done then a.startDone r.node r.cls else a
  let c := match r.origin with
    | .console tag => b.orderResult tag r.node r.cls r.arg x.code detail (bit sent + 2 * bit r.clamped)
    | .sequencer serial place => b.entryResult serial place x
    | .channel d .red => ChannelDone b (b.redResult d x)
    | .channel d .green => ChannelDone b (b.greenResult d x)
  let e := if r.memory = none then c else ChannelDone c c.closingCheck.openingTest
  e.occur (.orderOutcome r.node x)

/-- The outcome of a transaction reaches its owner (02:R23): the gate for an order, the Span Supervisor for a trim or a
stop. -/
def OwnerTakes (s : State) (tx : Transaction) (x : Result) (detail : Nat) : State :=
  match tx.source with
  | .poll => s
  | .order r => ResultGiven s r x detail tx.transmitted
  | .trim w => s.trimOutcome w x
  | .stop _ => s.stopOutcome x

/-- A frame of the node has been taken (02:R38): it is ANSWERING, and one that was SILENT is alerted and leaves the count on
point 126 (in this order: log 8). -/
def NodeAnswered (s t : State) (node : Nat) (time : Time) : Prop :=
  let w := s.setField
    { s.field with nodes := put s.field.nodes (node - 1) { state := .answering, misses := 0, lastGood := some time } }
  ((nodeRecord s.field node).state ≠ .silent → t = w)
    ∧ ((nodeRecord s.field node).state = .silent →
      PointWritten (w.alert (.nodeAnswering node)) t 126 (SilentCount w.field))

/-- A miss of the node is counted (02:R39, R40): one that falls SILENT is alerted and joins the count on point 126, and the
NODE MISS event comes last (log 8). -/
def NodeMissed (s t : State) (node : Nat) : Prop :=
  let r := nodeRecord s.field node
  let n := min (r.misses + 1) 15
  let counted := fun x => s.setField
    { s.field with nodes := put s.field.nodes (node - 1) { r with misses := n, state := x } }
  let falls := s.field.silentLimit ≤ n ∧ r.state ≠ .silent
  ∃ w, t = w.occur (.nodeMiss node) ∧ (¬falls → w = counted r.state)
    ∧ (falls → PointWritten ((counted .silent).alert (.nodeSilent node)) w 126 (SilentCount (counted .silent).field))

/-- The field points of the node become what f makes of them, and those whose value or freshness has changed are gathered,
in ascending number (03:R44, R50). -/
def PointsBecome (s t : State) (node : Nat) (f : PointEntry → Point → Point) : Prop :=
  (∃ ns, t = s.setPoints { s.points with points := t.points.points, gather := some ns } ∧ ns.Pairwise (· < ·)
      ∧ ∀ n, n ∈ ns ↔ n < 112 ∧ PointDiffers s t n)
    ∧ ∀ n, (∀ m, look s.points.map n none = some m → m.node = node → t.point n = f m (s.point n))
      ∧ ((∀ m, look s.points.map n none = some m → m.node ≠ node) → t.point n = s.point n)

/-- After field points have changed from those of `before`: points 112 to 116 are settled, then the Span Supervisor learns
of each encoder point that left FRESH (03:R55, 06:R106), tower A first (log 8). -/
def EncodersFollow (before s : State) : State :=
  match s.span.record with
  | none => s.settleSpanPoints
  | some r => (s.settleSpanPoints.encoderLoss before r .a).encoderLoss before r .b

/-- The gathered point change reaches the Condition Evaluator: one walk over the conditions whose entries test one of the
points, and its hand-out (03:R50, 04:R65, R66, R68, R69). -/
def PointsRaised (s t : State) : Prop :=
  ∀ ns, s.points.gather = some ns →
    Walks (s.setPoints { s.points with gather := none }) t (Tests s (· ∈ ns))

/-- A MISS of the node reaches its points (03:R48). -/
def PointsMissed (s t : State) (node : Nat) : Prop :=
  ∃ v, PointsBecome s v node (fun m p => p.miss m.staleLimit) ∧ PointsRaised (EncodersFollow s v) t

/-- The encoder update that a reply of the node carries for tower x: a U24 reading of its encoder point, which it hands to
the Span Supervisor (03:R51). -/
def EncoderTold (s : State) (node : Nat) (payload : List Byte) (time : Time) (x : Tower) : State :=
  match s.span.record with
  | none => s
  | some r =>
    match look s.points.map (r.tower x).encoder none with
    | none => s
    | some m =>
      if m.node = node ∧ m.width = .u24 ∧ m.offset + 3 ≤ payload.length then
        s.encoderUpdate x (u8 payload m.offset * 65536 + u16 payload (m.offset + 1)) time
      else s

/-- The points of the node offer their vessel calls, in ascending number (03:R52, log 8); `before` holds the points before
the reply. -/
def CallsOffered (before s : State) (node : Nat) : State :=
  (List.range 112).foldl
    (fun v n =>
      match look before.points.map n none with
      | some m => if m.node = node then v.offerCall before (n, m) else v
      | none => v) s

/-- A good REPLY of the node is decoded (03:R44): its readings and misses, the losses and the updates of the encoder
points, its one point change, and its vessel calls (in this order: log 8). -/
def ReplyTaken (s t : State) (node : Nat) (payload : List Byte) (time : Time) : Prop :=
  ∃ v w, PointsBecome s v node (fun m p => replyGives m p payload time)
    ∧ PointsRaised ((EncoderTold (EncoderTold (EncodersFollow s v) node payload time .a)) node payload time .b) w
    ∧ t = CallsOffered s w node

/-- A poll ends as a MISS (02:R22): the transaction ends, the miss reaches the points, and is counted (log 8). -/
def PollEndsMissed (s t : State) (tx : Transaction) : Prop :=
  PollMissed s t tx ∧ ∃ u v, Ends s u tx ∧ PointsMissed u v tx.node ∧ NodeMissed v t tx.node

/-! ### The scan list -/

/-- The cycle count k cycles ahead (02:R35). -/
def cycleAhead (f : Field) (k : Nat) : Nat := if k = 0 then f.cycle else (f.cycle + k) % 840

/-- The slot at which the search begins, k cycles ahead. -/
def searchFrom (f : Field) (k : Nat) : Nat := if k = 0 then f.pointer else 0

/-- Slot i, x is the next that the CONTINUOUS scan polls, k cycles ahead: the first that is present, enabled and due, from
the pointer on and through the cycles that follow (02:R35). -/
def NextDue (f : Field) (k i : Nat) (x : ScanSlot) : Prop :=
  searchFrom f k ≤ i ∧ i < 32 ∧ look f.scanList i none = some x ∧ x.enabled = true ∧ cycleAhead f k % x.divisor = 0
    ∧ ∀ j m y, j ≤ k → searchFrom f j ≤ m → (j = k → m < i) → look f.scanList m none = some y → y.enabled = true →
      cycleAhead f j % y.divisor ≠ 0

/-- Nothing of items 3 to 5 waits. -/
def NothingWaits (s : State) : Prop := SlotsEmpty s.field ∧ s.gate.own = [] ∧ s.gate.orders = []

/-! ### Modes and resets -/

/-- The sequencer in INACTIVE, all its work discarded (07:R140). -/
def InactiveSequencer (s t : State) : Sequencer :=
  { s.seq with
    phase := .inactive, interrupted := none, tracking := [], dwell := .absent, limit := none, request := .none
    recovery := false, sets := t.seq.sets, standdowns := t.seq.standdowns }

/-- SERVICE has begun (10:R172, 07:R139): e is the entry of the road-open phase, with a dwell and no entry orders. Where
no condition reads the mode on point 123, adoption is decided by the road-open proof c as it stood. -/
def ServiceBegun (s t : State) (e : PhaseEntry) (c : Nat) : Prop :=
  t.unit.mode = .service ∧ t.unit.validation = .pass ∧ t.unit.maintenancePending = false
    ∧ t.field = { s.field with scanMode := .continuous, allStop := t.field.allStop }
    ∧ ∃ proven : Bool,
      t.seq =
        (if proven then EnteredPhase s t .roadOpen e []
        else { s.seq with
          phase := .halted, interrupted := some .unknown, sets := t.seq.sets, standdowns := t.seq.standdowns })
      ∧ ((∀ n x op, look s.cond.table n none = some x → Term.point 123 op ∉ x.terms) →
        proven = standsTrue s.cond.states c)

/-- Check n of the validation passes, n from 1 to 7 (10:R174). -/
def CheckPasses (s : State) (n : Nat) : Prop :=
  (n = 1 → s.unit.limits ≠ none)
    ∧ (n = 2 → ∃ r, s.span.record = some r
      ∧ ∀ t, ∃ e, look s.points.map (r.tower t).encoder none = some e ∧ e.width = .u24)
    ∧ (n = 3 → ∀ i p, look s.gate.permits i none = some p → ∀ c ∈ p.required, look s.cond.table c none ≠ none)
    ∧ (n = 4 → ∀ i e, look s.cond.table i none = some e → ∀ x ∈ e.terms,
      (∀ p op, x = .point p op → p < 112 → look s.points.map p none ≠ none)
        ∧ (∀ j, x = .condition j → look s.cond.table j none ≠ none)
        ∧ ∀ k, x = .counterBelow k → (look s.duty.counters k DutyCounter.reset).record ≠ none)
    ∧ (n = 5 → (∃ e, look s.seq.table 0 none = some e ∧ e.proof ≠ none)
      ∧ ∀ p, 1 ≤ p → p ≤ 11 → p ≠ 6 → ∃ e, look s.seq.table p none = some e ∧ e.advance ≠ none)
    ∧ (n = 6 → s.chan.record ≠ none)
    ∧ (n = 7 → ∃ r, s.span.record = some r ∧ ∀ t, ∃ e i x, look s.points.map (r.tower t).encoder none = some e
      ∧ look s.field.scanList i none = some x ∧ x.enabled = true ∧ x.node = e.node)

/-- Check n is the first of the seven that fails (10:R174). -/
def FirstFailing (s : State) (n : Nat) : Prop :=
  1 ≤ n ∧ n ≤ 7 ∧ ¬CheckPasses s n ∧ ∀ m, m < n → CheckPasses s m

/-- The validation passes all of its seven checks (10:R174). -/
def Validates (s : State) : Prop := ∀ n, CheckPasses s n

/-- A cleared filter that follows its raw line, as the first sample after a reset leaves it (10:R170). -/
def Sampled (f : FilteredLine) : FilteredLine := { raw := f.raw, active := decide (f.raw = .low), since := none }

/-- The reset evaluation (04:R72): one walk in which every present condition is evaluated, and its hand-out. -/
def ResetEvaluated (s t : State) : Prop := Walks s t fun n => look s.cond.table n none ≠ none

/-- A reset ends, which takes s to t (10:R170, R182): the conditions are evaluated, and the hardwired inputs take their first
samples. ESTOP that is low is the cause ESTOP LINE, and a key that is low begins MAINTENANCE. Their order is log 23. -/
def EndsReset (s t : State) : Prop :=
  ∃ a b, ResetEvaluated s a
    ∧ (let sampled := a.setUnit { a.unit with estop := Sampled s.unit.estop }
      (s.unit.estop.raw = .high → b = sampled) ∧ (s.unit.estop.raw = .low → Latches sampled b .estopLine))
    ∧ (let sampled := b.setUnit { b.unit with key := Sampled s.unit.key }
      (s.unit.key.raw = .high → t = sampled)
        ∧ (s.unit.key.raw = .low → s.unit.mode = .init →
          PointWritten (sampled.setUnit
            { sampled.unit with
              mode := .maintenance, chain := decide (b.unit.causes = CauseSet.empty), maintenancePending := false })
            t 123 1))

/-! ### Layouts (01, section 1.10) -/

/-- Fields: each a size in bytes and a number. -/
abbrev Fields := List (Nat × Int)

/-- Fields one after the other, high byte first, in two's complement. -/
def laid (fields : Fields) : List Byte :=
  fields.flatMap fun (k, n) => (List.range k).map fun i => BitVec.ofInt 8 (n / 256 ^ (k - 1 - i))

/-- A flag: 0 for clear, 1 for set. -/
def flagField (b : Bool) : Int := if b then 1 else 0

/-- The code of x among names that are coded from `first` on. -/
def codeFrom {α : Type} [BEq α] (first : Nat) (names : List α) (x : α) : Int := first + names.idxOf x

/-- A number, or 255 for absent or ANY. -/
def orAbsent (n : Option Nat) : Int := (n.getD 255 : Nat)

/-- Presence, and the fields of what is present. -/
def presentFields {α : Type} (fields : α → Fields) : Option α → Fields
  | none => [(1, 0)]
  | some x => (1, 1) :: fields x

/-- Presence of a time, and the time, 0 when absent. -/
def timeFields (t : Option Time) : Fields := [(1, flagField t.isSome), (4, (t.getD 0).toNat)]

/-- The contents of a POINT MAP entry. -/
def mapFields (e : PointEntry) : Fields :=
  [(1, e.node), (1, e.offset), (1, codeFrom 1 [Width.bit, .u8, .u16, .s16, .u24, .call] e.width), (1, e.bitIndex),
    (1, flagField e.invert), (1, e.debounce), (1, e.staleLimit)]

/-- A term of a condition entry. An unused constant is carried as 0, and so is the operator of a term of another kind. -/
def termFields : Term → Fields
  | .point p op => ([(1, 1), (1, p)] : Fields) ++ match op with
    | .eq a => ([(1, 1), (4, a), (4, 0)] : Fields)
    | .ne a => [(1, 2), (4, a), (4, 0)]
    | .lt a => [(1, 3), (4, a), (4, 0)]
    | .ge a => [(1, 4), (4, a), (4, 0)]
    | .inRange a b => [(1, 5), (4, a), (4, b)]
    | .outRange a b => [(1, 6), (4, a), (4, b)]
    | .inSet m => [(1, 7), (4, m.toNat), (4, 0)]
  | .condition j => [(1, 2), (1, j), (1, 0), (4, 0), (4, 0)]
  | .counterBelow k => [(1, 3), (1, k), (1, 0), (4, 0), (4, 0)]

/-- The contents of a CONDITION entry. -/
def condFields (e : CondEntry) : Fields :=
  ([(2, e.hold), (1, flagField e.report), (1, e.terms.length)] : Fields) ++ e.terms.flatMap termFields

/-- The contents of a PERMIT entry. -/
def permitFields (p : Permit) : Fields :=
  [(1, orAbsent p.node), (1, p.cls), (2, p.argMin), (2, p.argMax), (1, flagField (!p.clamp)), (1, flagField p.hold),
    (1, p.holdLimit), (1, flagField p.maint + 2 * flagField p.standdown + 4 * flagField p.owned), (1, p.required.length)]
    ++ p.required.map fun c => ((1, c) : Nat × Int)

/-- The contents of a SCAN LIST entry. -/
def slotFields (x : ScanSlot) : Fields := [(1, x.node), (1, x.divisor), (1, flagField x.enabled)]

/-- The contents of a PHASE entry. -/
def phaseFields (e : PhaseEntry) : Fields :=
  [(1, orAbsent e.advance), (1, orAbsent e.proof), (4, e.dwell), (2, e.limit), (1, e.orders.length)]
    ++ e.orders.flatMap fun o => ([(1, o.node), (1, o.cls), (2, o.arg)] : Fields)

/-- The contents of a COUNTER CONTROL entry. -/
def controlFields (r : DutyRecord) : Fields :=
  [(1, codeFrom 1 [DutyEventKind.orderOutcome, .conditionTrue, .phaseEntry, .nodeMiss, .linkFault, .pairMiss, .trimSent,
      .motionStop, .vesselPassage, .queueOccupancy] r.event), (1, orAbsent r.filter), (3, r.mask.toNat),
    (1, flagField r.time), (1, flagField r.invert), (4, r.threshold),
    (1, codeFrom 0 [DutyAction.none, .report, .freeze] r.action), (1, flagField r.freezable)]

/-- The sign of a tower: 1 for +1, 255 for −1. -/
def signField (t : TowerRecord) : Int := if t.negative then 255 else 1

/-- The contents of the SPAN RECORD. -/
def spanFields (r : SpanRecord) : Fields :=
  [(1, r.a.encoder), (1, r.b.encoder), (3, r.a.zero), (3, r.b.zero), (2, r.a.scale), (2, r.b.scale), (1, signField r.a),
    (1, signField r.b), (1, r.a.hoist), (1, r.b.hoist), (1, r.startUp), (1, r.startDown), (1, r.stop), (1, r.trim),
    (1, r.gainAcquire), (1, r.gainTrack), (1, r.deadband), (4, r.top), (4, r.seat), (2, r.arrival), (2, r.startWindow),
    (1, r.stallLimit), (2, r.stallGrace), (1, r.standstill), (2, r.b1), (2, r.b2), (2, r.b3), (2, r.b4)]

/-- The contents of the CHANNEL RECORD. -/
def channelFields (r : ChannelRecord) : Fields :=
  [(1, r.northNode), (1, r.southNode), (1, r.cls), (1, r.northPassage), (1, r.southPassage), (2, r.changeover),
    (2, r.greenLimit)]

/-- The limit record. -/
def limitFields (l : LimitRecord) : Fields :=
  [(2, l.eTrk), (2, l.xTrk), (2, l.lTol), (2, l.aSkew), (2, l.tSkew), (1, l.nTrk), (1, l.nLvl), (1, l.uMax),
    (1, l.window), (1, l.missLimit), (2, l.holdInterval), (1, l.stopLimit), (4, l.z1.bound), (2, l.z1.speed),
    (4, l.z2.bound), (2, l.z2.speed), (4, l.z3.bound), (2, l.z3.speed), (4, l.z4.bound), (2, l.z4.speed)]

/-- The state of condition n and the milliseconds its proving has still to run (04:R70); that they are 0 once they have run
out is the model's (log 25). -/
def provingFields (s : State) (n : Nat) : Fields :=
  match look s.cond.states n .isFalse with
  | .isFalse => [(1, 0), (2, 0)]
  | .proving start =>
    [(1, 1), (2, max 0 ((((look s.cond.table n none).map CondEntry.hold).getD 0 : Int) - (s.now - start).toNat))]
  | .isTrue => [(1, 2), (2, 0)]

/-- The data of READ ENTRY for entry n of table t, 1 to 8. -/
def entryFields (s : State) (t n : Nat) : Fields :=
  match t with
  | 1 => presentFields mapFields (look s.points.map n none)
  | 2 => presentFields condFields (look s.cond.table n none) ++ provingFields s n
  | 3 => presentFields permitFields (look s.gate.permits n none)
  | 4 => presentFields slotFields (look s.field.scanList n none)
  | 5 => presentFields phaseFields (look s.seq.table n none)
  | 6 => presentFields controlFields (look s.duty.counters n DutyCounter.reset).record
  | 7 => presentFields spanFields s.span.record
  | _ => presentFields channelFields s.chan.record

/-- The entries of each table (11, section 11.2). -/
def entriesOf (t : Nat) : Nat := [112, 64, 96, 32, 12, 8, 1, 1][t - 1]?.getD 0

/-- A point in READ POINTS. -/
def pointFields (p : Point) : Fields :=
  [(4, p.value), (1, codeFrom 0 [Freshness.never, .fresh, .stale] p.freshness), (1, p.age)] ++ timeFields p.received

/-- A node in READ NODES. -/
def nodeFields (r : NodeRecord) : Fields :=
  [(1, codeFrom 0 [NodeState.unknown, .answering, .silent] r.state), (1, r.misses)] ++ timeFields r.lastGood

/-- A counter in READ COUNTERS: its control record all 0 when absent. -/
def counterFields (c : DutyCounter) : Fields :=
  (match c.record with
    | none => List.replicate 14 (1, 0)
    | some r => (1, 1) :: controlFields r)
    ++ ([(4, c.value), (1, flagField c.overflow + 2 * flagField c.reached)] : Fields)

/-- A vessel in READ VESSELS. -/
def vesselFields (v : Vessel) : Fields :=
  [(2, v.tag), (1, codeFrom 1 [Direction.north, .south] v.direction), (4, v.arrival.toNat), (1, flagField v.cleared)]

/-- The causes, in the order of their codes from 1 on. -/
def causeList : List Cause := [.estopLine, .consoleBreak, .skewTrip, .stopFailed, .fieldContention, .channelSignal]

/-- A cause mask: bit c − 1 for each cause of code c. -/
def maskField (c : CauseSet) : Int :=
  flagField c.estopLine + 2 * flagField c.consoleBreak + 4 * flagField c.skewTrip + 8 * flagField c.stopFailed
    + 16 * flagField c.fieldContention + 32 * flagField c.channelSignal

/-- The validation result: 0 none, 1 to 7 the failing check, 255 PASS. -/
def validationField : Validation → Int
  | .none => 0
  | .failed n => n
  | .pass => 255

/-- The interrupted phase: 254 UNKNOWN, 255 absent. -/
def interruptedField : Option Interrupted → Int
  | none => 255
  | some .unknown => 254
  | some (.phase p) => p.num

/-- The four fault counts of a link. -/
def countFields (c : LinkCounts) : Fields := [(2, c.check), (2, c.gap), (2, c.truncated), (2, c.length)]

/-- The data of READ STATUS; the codes of the scan modes are the model's (log 19). -/
def statusFields (s : State) : Fields :=
  [(1, codeFrom 0 [Mode.init, .maintenance, .service] s.unit.mode), (1, maskField s.unit.causes),
    (1, (s.unit.firstCause.map (codeFrom 1 causeList)).getD 0), (1, flagField s.unit.maintenancePending),
    (1, validationField s.unit.validation), (1, s.seq.phase.num), (1, interruptedField s.seq.interrupted),
    (1, codeFrom 0 [MotionState.idle, .raising, .lowering, .stopping, .stopped] s.span.motion),
    (1, codeFrom 0 [Correction.acquire, .track] s.span.correction), (1, codeFrom 0 [Level.notLevel, .level] s.span.level),
    (1, s.span.levelChanges), (1, (s.point 125).value.toNat),
    (1, codeFrom 0 [ChannelState.closed, .greenNorth, .greenSouth, .changeover] s.chan.state), (1, s.gate.orders.length),
    (1, s.gate.held.length), (1, s.gate.own.length),
    (1, codeFrom 1 [ScanMode.continuous, .single, .stopped] s.field.scanMode), (1, s.field.replyTimeout),
    (1, s.field.silentLimit), (1, s.field.contention)]
    ++ countFields s.field.counts ++ countFields s.console.counts
    ++ ([(2, s.console.ingressOverflows), (2, s.console.reportsLost)] : Fields)

/-! ### Management requests -/

/-- The request f is answered with this refusal and changes nothing else (11:R183). -/
def Denies (c : Instr) (s : State) (f : Frame) (rest : List Frame) (code : Nat) : Prop :=
  exec c s = .next (responded s f rest code 0 [])

/-- The WRITE ENTRY rows with their table codes and their entry counts (11, section 11.2). -/
def writeRows : List (Instr × Nat × Nat) :=
  [(.writeEntryPointMap, 1, 112), (.writeEntryCondition, 2, 64), (.writeEntryPermit, 3, 96), (.writeEntryScanList, 4, 32),
    (.writeEntryPhase, 5, 12), (.writeEntryCounterControl, 6, 8), (.writeEntrySpanRecord, 7, 1),
    (.writeEntryChannelRecord, 8, 1)]

/-- The CLEAR ENTRY rows, likewise. -/
def clearRows : List (Instr × Nat × Nat) :=
  [(.clearEntryPointMap, 1, 112), (.clearEntryCondition, 2, 64), (.clearEntryPermit, 3, 96), (.clearEntryScanList, 4, 32),
    (.clearEntryPhase, 5, 12), (.clearEntryCounterControl, 6, 8), (.clearEntrySpanRecord, 7, 1),
    (.clearEntryChannelRecord, 8, 1)]

/-- The requests that write the limits, act, or move the crossing, the vessels or the mode, each with its code and the size
of its payload (01, section 1.10). -/
def sizedRows : List (Instr × Nat × Nat) :=
  [(.writeLimits, 4, 43), (.counterClear, 12, 2), (.unfreeze, 13, 1), (.scanControl, 14, 4), (.openRequest, 15, 1),
    (.closeRequest, 16, 1), (.haltRequest, 17, 1), (.resumeRequest, 18, 1), (.reverseRequest, 19, 1),
    (.recoverRequest, 20, 1), (.vesselAdd, 21, 4), (.vesselRemove, 22, 3), (.clearStanddown, 23, 1), (.startService, 24, 1),
    (.restartRequest, 25, 1)]

/-- The requests that read, likewise. -/
def readRows : List (Instr × Nat × Nat) :=
  [(.readEntry, 3, 3), (.readLimits, 5, 1), (.readPoints, 6, 3), (.readStatus, 7, 1), (.readNodes, 8, 3),
    (.readCounters, 9, 1), (.readResidency, 10, 1), (.readVessels, 11, 1)]

/-- The rows that serve the head of the ingress queue (01:R14): the admission of an ORDER, and every request. -/
def servingRows : List Instr :=
  .consoleOrderAdmission :: .unknownRequest :: (readRows ++ writeRows ++ clearRows ++ sizedRows).map Prod.fst

/-- The contents b of an entry of table t hold exactly its fields (01, section 1.10): a fixed size, or a fixed part whose
last byte counts the pieces that follow. -/
def ContentsFit (t : Nat) (b : List Byte) : Prop :=
  (t = 1 → b.length = 7)
    ∧ (t = 2 → 4 ≤ b.length ∧ b.length = 4 + 11 * (b[3]?.getD 0).toNat)
    ∧ (t = 3 → 11 ≤ b.length ∧ b.length = 11 + (b[10]?.getD 0).toNat)
    ∧ (t = 4 → b.length = 3)
    ∧ (t = 5 → 9 ≤ b.length ∧ b.length = 9 + 4 * (b[8]?.getD 0).toNat)
    ∧ (t = 6 → b.length = 13) ∧ (t = 7 → b.length = 47) ∧ (t = 8 → b.length = 9)

/-- Byte i of the term that begins at byte `start` of the contents b of a CONDITION entry is used: kind, number and operator,
constant a of a POINT TEST, and constant b of one with IN RANGE or OUT RANGE (01, section 1.10). -/
def ConstantUsed (b : List Byte) (start i : Nat) : Prop :=
  i < 3 ∨ b[start]? = some 1 ∧ (i < 7 ∨ b[start + 2]? = some 5 ∨ b[start + 2]? = some 6)

/-- The fields of a map entry lie in their ranges (03:R43). -/
def PointEntryRange (e : PointEntry) : Prop :=
  1 ≤ e.node ∧ e.node ≤ 100 ∧ e.offset ≤ 23 ∧ e.bitIndex ≤ 7 ∧ e.debounce ≤ 7 ∧ 1 ≤ e.staleLimit ∧ e.staleLimit ≤ 15
    ∧ e.offset + e.width.bytes ≤ 24 ∧ (e.width ≠ .bit → e.bitIndex = 0 ∧ e.invert = false ∧ e.debounce = 0)

/-- A constant of a POINT TEST (04:R58). -/
def ConstantRange (a : Int) : Prop := -16777216 ≤ a ∧ a ≤ 16777215

/-- The constants of a POINT TEST (04:R58). -/
def OperatorRange : PointOp → Prop
  | .eq a | .ne a | .lt a | .ge a => ConstantRange a
  | .inRange a b | .outRange a b => ConstantRange a ∧ ConstantRange b ∧ a ≤ b
  | .inSet _ => True

/-- A term of the entry of condition n (04:R58). -/
def TermRange (n : Nat) : Term → Prop
  | .point p op => p ≤ 127 ∧ OperatorRange op
  | .condition j => j < n
  | .counterBelow k => k ≤ 7

/-- The entry of condition n (04:R58). -/
def CondEntryRange (n : Nat) (e : CondEntry) : Prop :=
  e.terms.length ≤ 4 ∧ e.hold ≤ 60000 ∧ e.hold % 10 = 0 ∧ ∀ t ∈ e.terms, TermRange n t

/-- A field node (01, section 1.2). -/
def NodeRange (n : Nat) : Prop := 1 ≤ n ∧ n ≤ 100

/-- A permit entry (05:R74). -/
def PermitRange (p : Permit) : Prop :=
  (∀ m, p.node = some m → NodeRange m) ∧ p.cls ≤ 63 ∧ -32768 ≤ p.argMin ∧ p.argMin ≤ p.argMax ∧ p.argMax ≤ 32767
    ∧ p.required.length ≤ 6 ∧ (∀ c ∈ p.required, c ≤ 63) ∧ p.required.Nodup ∧ 1 ≤ p.holdLimit ∧ p.holdLimit ≤ 120

/-- A slot of the scan list (02, section 2.5; 11:R184). -/
def ScanSlotRange (x : ScanSlot) : Prop := NodeRange x.node ∧ 1 ≤ x.divisor ∧ x.divisor ≤ 8

/-- The entry of phase p (07:R122, R123). -/
def PhaseEntryRange (p : Nat) (e : PhaseEntry) : Prop :=
  e.orders.length ≤ 6 ∧ (∀ o ∈ e.orders, NodeRange o.node ∧ o.cls ≤ 63 ∧ -32768 ≤ o.arg ∧ o.arg ≤ 32767)
    ∧ (∀ c, e.advance = some c → c ≤ 63) ∧ (∀ c, e.proof = some c → c ≤ 63) ∧ e.dwell ≤ 600000 ∧ e.limit ≤ 3600
    ∧ (p ≠ 0 → e.proof = none) ∧ (p = 0 → e.limit = 0)

/-- The filter of an event (09:R158). -/
def FilterRange (filter : Option Nat) : DutyEventKind → Prop
  | .orderOutcome | .nodeMiss | .linkFault | .trimSent => ∀ m, filter = some m → NodeRange m
  | .conditionTrue => ∃ m, filter = some m ∧ m ≤ 63
  | .phaseEntry => ∃ m, filter = some m ∧ m ≤ 13
  | .motionStop => ∀ m, filter = some m → 1 ≤ m ∧ m ≤ 9
  | .vesselPassage => ∀ m, filter = some m → m = 1 ∨ m = 2
  | .pairMiss | .queueOccupancy => filter = none

/-- A control record (09:R156, R157). -/
def DutyRecordRange (r : DutyRecord) : Prop :=
  FilterRange r.filter r.event ∧ r.threshold ≤ 4294967295 ∧ (r.event ≠ .orderOutcome → r.mask = 0)
    ∧ (r.time = true ∨ r.invert = true → r.event = .conditionTrue ∨ r.event = .phaseEntry ∨ r.event = .queueOccupancy)

/-- A height in millimetres (06, section 6.1; 10:R175). -/
def HeightRange (h : Int) : Prop := -5000 ≤ h ∧ h ≤ 80000

/-- The span record (06, section 6.1; R96). -/
def SpanRecordRange (r : SpanRecord) : Prop :=
  (∀ t, (r.tower t).encoder ≤ 111 ∧ (r.tower t).zero ≤ 16777215 ∧ 1 ≤ (r.tower t).scale ∧ (r.tower t).scale ≤ 65535
      ∧ NodeRange (r.tower t).hoist)
    ∧ r.a.encoder ≠ r.b.encoder ∧ r.a.hoist ≠ r.b.hoist ∧ (∀ c ∈ [r.startUp, r.startDown, r.stop, r.trim], c ≤ 63)
    ∧ [r.startUp, r.startDown, r.stop, r.trim].Nodup ∧ 1 ≤ r.gainAcquire ∧ r.gainAcquire ≤ 255 ∧ 1 ≤ r.gainTrack
    ∧ r.gainTrack ≤ 255 ∧ r.deadband ≤ 20 ∧ HeightRange r.top ∧ HeightRange r.seat ∧ r.seat < r.top ∧ r.arrival ≤ 2000
    ∧ 100 ≤ r.startWindow ∧ r.startWindow ≤ 2000 ∧ 2 ≤ r.stallLimit ∧ r.stallLimit ≤ 30 ∧ r.stallGrace ≤ 5000
    ∧ r.standstill ≤ 50 ∧ r.b1 ≤ r.b2 ∧ r.b2 ≤ r.b3 ∧ r.b3 ≤ r.b4 ∧ r.b4 ≤ 3000

/-- The channel record (08:R143). -/
def ChannelRecordRange (r : ChannelRecord) : Prop :=
  NodeRange r.northNode ∧ NodeRange r.southNode ∧ r.northNode ≠ r.southNode ∧ r.cls ≤ 63 ∧ r.northPassage ≤ 63
    ∧ r.southPassage ≤ 63 ∧ r.northPassage ≠ r.southPassage ∧ 10 ≤ r.changeover ∧ r.changeover ≤ 300
    ∧ 60 ≤ r.greenLimit ∧ r.greenLimit ≤ 3600

/-- The limit record (10:R175). -/
def LimitRecordRange (l : LimitRecord) : Prop :=
  1 ≤ l.lTol ∧ l.lTol ≤ l.eTrk ∧ l.eTrk ≤ l.xTrk ∧ l.xTrk < l.aSkew ∧ l.aSkew < l.tSkew ∧ l.tSkew ≤ 1000
    ∧ (∀ n ∈ [l.nTrk, l.nLvl, l.missLimit], 1 ≤ n ∧ n ≤ 15) ∧ 1 ≤ l.uMax ∧ l.uMax ≤ 200 ∧ 5 ≤ l.window ∧ l.window ≤ 100
    ∧ 100 ≤ l.holdInterval ∧ l.holdInterval ≤ 1000 ∧ 1 ≤ l.stopLimit ∧ l.stopLimit ≤ 30
    ∧ (∀ z ∈ [l.z1, l.z2, l.z3, l.z4], HeightRange z.bound ∧ 1 ≤ z.speed ∧ z.speed ≤ 3000)
    ∧ l.z1.bound ≤ l.z2.bound ∧ l.z2.bound ≤ l.z3.bound ∧ l.z3.bound ≤ l.z4.bound

/-- The owner of table t forbids a rewrite in its present state: the span record during a motion (06:R96), the channel
record while the channel is not at rest (08:R143). -/
def OwnerForbids (s : State) (t : Nat) : Prop :=
  (t = 7 ∧ (s.span.motion = .raising ∨ s.span.motion = .lowering ∨ s.span.motion = .stopping))
    ∨ (t = 8 ∧ (s.chan.state ≠ .closed ∨ s.chan.closing = true ∨ s.chan.north.outstanding ≠ []
      ∨ s.chan.south.outstanding ≠ []))

/-- A table request that may take effect: its code, table, entry and mode (11:R184). -/
def TableRequest (s : State) (f : Frame) (code t n entries : Nat) : Prop :=
  f.kind = 2 ∧ u8 f.payload 0 = code ∧ Names f t n ∧ 3 ≤ f.payload.length ∧ n < entries ∧ s.unit.mode = .maintenance
    ∧ ¬OwnerForbids s t

/-- The signal keeps its last-order memory over a rewrite of the channel record only where it keeps its node
(08:R143). -/
def MemoryKept (g g' : Signal) (same : Prop) : Prop :=
  g'.redWanted = g.redWanted ∧ g'.outstanding = g.outstanding ∧ (same → g'.memory = g.memory)
    ∧ (¬same → g'.memory = none)

end Sys2Proof.Machine
end

