-- ==== Sys2Proof/Certificates/Slice0/Obligations.lean ====
section
/-! DEFINITION. The statements for the provers. -/

open Sys2Proof Sys2Proof.Machine

/-! ### The machine -/

/-- The front command is executed with the rest of the queue, and an empty queue idles (log 4). -/
def Obligations.StepRunsTheFrontCommand : Prop :=
  (∀ (c : Instr) (q : List Instr) (s : State), step (s.setPending (c :: q)) = exec c (s.setPending q))
    ∧ ∀ s : State, step (s.setPending []) = .next (s.setPending [])

/-- Every command answers a next state, whatever the state, and leaves the waiting commands as they are: a command
whose event cannot occur in a state changes nothing there (log 1, log 4). While the controller is held in reset or
unpowered, only a supply that rises, a supply that falls, the RESET line and the raw lines change anything (10:R181,
log 21). -/
def Obligations.EveryCommandCompletes : Prop :=
  (∀ (c : Instr) (s : State), ∃ t, exec c s = .next t ∧ t.pending = s.pending)
    ∧ ∀ (c : Instr) (s : State), s.power ≠ .running →
      c ≠ .powerOnReset → c ≠ .supplyLoss → c ≠ .resetLineReleased → (∀ l v, c ≠ .rawLineChange l v) →
        exec c s = .next s

/-- The state right after a power-on reset meets every law of the invariants. -/
def Obligations.ResetMeetsTheLaws : Prop :=
  ChainLaw State.reset ∧ MotionLaw State.reset ∧ QueueLaw State.reset ∧ VesselLaw State.reset ∧ ClearanceLaw State.reset
    ∧ EgressLaw State.reset ∧ TableLaw State.reset ∧ FreshLaw State.reset

/-! ### Invariants that every step keeps -/

/-- 10:R180, in every state: the output agrees with the mode and the cause set after each step, and is de-energised
while the controller does not run. -/
def Obligations.ChainFollowsModeAndCauses : Prop :=
  ∀ s t : State, ChainLaw s → step s = .next t → ChainLaw t

/-- The law of 06:R120. -/
def Obligations.MotionOnlyWithChainAllowed : Prop :=
  ∀ s t : State, MotionLaw s → step s = .next t → MotionLaw t

/-- 01:R13, 05:R82, R83, R88: no queue outgrows its places, and no two held orders share node and class. -/
def Obligations.QueuesStayWithinTheirPlaces : Prop :=
  ∀ s t : State, QueueLaw s → step s = .next t → QueueLaw t

/-- The two laws of 08:R146: the places and the tags of the vessel queue; and its clearances, which in GREEN d are those of
direction d alone, and in every other channel state none. That the second is kept rests on what 08:R149, R151 and R152 say
of an own GREEN, a changeover and a closing (ClearanceLaw). -/
def Obligations.VesselTagsStayDistinct : Prop :=
  (∀ s t : State, VesselLaw s → step s = .next t → VesselLaw t)
    ∧ ∀ s t : State, ClearanceLaw s → step s = .next t → ClearanceLaw t

/-- The bound of 01:R15: with the results still owed, the egress queue never passes 42 frames, so never 48; and the
own-order queue never holds an order of the console (05:R88). -/
def Obligations.EgressNeverOverflows : Prop :=
  ∀ s t : State, EgressLaw s → step s = .next t → EgressLaw t ∧ t.console.egress.length ≤ 48

/-- The law of 04:R64. That no point change is half gathered between commands is the model's (log 7). -/
def Obligations.TrueConditionsRestOnFreshPoints : Prop :=
  ∀ s t : State, TableLaw s → FreshLaw s → step s = .next t → TableLaw t ∧ FreshLaw t

/-! ### Receiving (01_links_characters_and_frames) -/

/-- 01:R3, R4, R8: every frame of an inward kind and length, sent character by character as 01:R2 and R3 lay it out, is
delivered whole with its reception time (log 2) when its last character arrives; a character that neither completes nor
ends a frame starts one, joins one, or is ignored. 02:R19: in TURNAROUND the field receiver is in HUNTING and takes none
(log 16). 02:R21: a kind character that comes after the reply timeout finds the transaction ended as the timeout ends it
(log 39). -/
def Obligations.CharactersBecomeFrames : Prop :=
  (∀ (l : Link) (f : Frame) (s : State) (taken : List Byte) (last : Byte),
      s.power = .running → s.hears l = true → LengthFits l f.kind f.payload.length →
      frameBytes f = taken ++ [last] → s.receiver l = .assembling taken →
        exec (.frameComplete l last) s = .next ((s.setReceiver l .hunting).deliver l f))
    ∧ (∀ (l : Link) (data : Byte) (s : State), s.power = .running → s.hears l = true →
      (s.receiver l = .hunting → exec (.validCharacter l false data) s = .next s)
        ∧ (s.receiver l = .hunting →
          (l = .field → ∀ e, s.field.link = .awaiting e → due s.now e = true → s.field.arrivals ≠ []) →
          exec (.validCharacter l true data) s = .next (s.setReceiver l (.assembling [data])))
        ∧ ∀ bytes : List Byte, s.receiver l = .assembling bytes →
          (bytes.length < 3 ∨ (bytes.length = 3 ∧ LengthFits l (bytes[0]?.getD 0) data.toNat)
              ∨ (4 ≤ bytes.length ∧ bytes.length ≠ u8 bytes 3 + 5)) →
            exec (.validCharacter l false data) s = .next (s.setReceiver l (.assembling (bytes ++ [data]))))
    ∧ ∀ (data : Byte) (s : State), s.power = .running →
      (s.hears .console = true ↔ s.console.line = .mark)
        ∧ (s.hears .field = true ↔ s.field.line = .mark ∧ s.field.link ≠ .sending ∧ s.field.link ≠ .breaking
          ∧ s.field.link ≠ .turnaround)
        ∧ (s.field.link = .turnaround → ∀ c m,
          c = .validCharacter .field m data ∨ c = .frameComplete .field data ∨ c = .badStopBit .field
              ∨ c = .gapFault .field ∨ c = .truncatedFault .field data ∨ c = .lengthFault .field data →
            exec c s = .next s)
        ∧ ∀ e, s.field.line = .mark → s.field.receiver = .hunting → s.field.link = .awaiting e → due s.now e = true →
          s.field.arrivals = [] → exec (.validCharacter .field true data) s = exec .replyTimeout s

/-- A fault of a frame in assembly, with no transaction awaiting an answer: only its count and the receiver change
(01:R4 to R7, R17; 02:R24). The break detectors (01:R9, R10): a break of the console line discards the frame in
assembly and is the cause CONSOLE BREAK; a break of the field line, with no transaction awaiting an answer, counts a
gap fault and holds the receiver. -/
def Obligations.FaultsAndBreaksAreCounted : Prop :=
  (∀ (l : Link) (data : Byte) (s : State) (bytes : List Byte),
      s.power = .running → s.hears l = true → s.receiver l = .assembling bytes →
      (l = .field → s.field.arrivals = [] ∧ s.field.awaited = none) →
        exec (.badStopBit l) s = .next ((s.count l LinkCounts.addCheck).setReceiver l .hunting)
          ∧ exec (.gapFault l) s = .next ((s.count l LinkCounts.addGap).setReceiver l .hunting)
          ∧ exec (.truncatedFault l data) s = .next ((s.count l LinkCounts.addTruncated).setReceiver l (.assembling [data]))
          ∧ (bytes.length = 3 → ¬LengthFits l (bytes[0]?.getD 0) data.toNat →
              exec (.lengthFault l data) s = .next ((s.count l LinkCounts.addLength).setReceiver l .hunting))
          ∧ (4 ≤ bytes.length → bytes.length = u8 bytes 3 + 5 → (∀ g, frameBytes g ≠ bytes ++ [data]) →
              exec (.frameComplete l data) s = .next ((s.count l LinkCounts.addCheck).setReceiver l .hunting)))
    ∧ ∀ s : State, s.power = .running →
        (s.console.line = .mark → s.points.gather = none → s.unit.causes = CauseSet.empty →
            ∃ t, exec .lineBreak s = .next t
              ∧ StandsDown (s.setConsole { s.console with line := .broken, receiver := .hunting }) t .consoleBreak)
          ∧ (s.console.line = .mark → s.unit.causes ≠ CauseSet.empty →
            exec .lineBreak s =
              .next ((s.setConsole { s.console with line := .broken, receiver := .hunting }).setUnit
                { s.unit with
                  causes := s.unit.causes.join .consoleBreak
                  chain := if s.unit.causes.consoleBreak then s.unit.chain else false }))
          ∧ exec .lineMark s = .next (s.setConsole { s.console with line := .mark })
          ∧ (s.field.line = .mark → s.field.link ≠ .sending → s.field.link ≠ .breaking → s.field.arrivals = [] →
            s.field.awaited = none →
            exec .fieldBreak s =
              .next (s.setField
                { s.field with
                  line := .broken, receiver := .hunting
                  counts := { s.field.counts with gap := min (s.field.counts.gap + 1) 65535 } }))
          ∧ exec .fieldLineMark s = .next (s.setField { s.field with line := .mark })

/-- 01:R13, whole. -/
def Obligations.IngressJoinsOrOverflows : Prop :=
  ∀ (s : State) (a : Arrival) (rest : List Arrival), s.power = .running → s.console.arrivals = a :: rest →
    a.frame.kind = 1 ∨ a.frame.kind = 2 →
      (s.console.ingress.length < 4 → exec .consoleFrameReceived s =
          .next (s.setConsole { s.console with arrivals := rest, ingress := s.console.ingress ++ [a.frame] }))
        ∧ (4 ≤ s.console.ingress.length → exec .consoleFrameReceived s =
          .next (s.setConsole
            { s.console with arrivals := rest, ingressOverflows := min (s.console.ingressOverflows + 1) 65535 }))

/-- The console transmitter (01:R16): the head is sent, then leaves the queue; only the response to a RESTART that is
waited for is noticed (10:R181, log 22). -/
def Obligations.EgressHeadIsSent : Prop :=
  ∀ (s : State) (f : Frame) (rest : List Frame), s.power = .running → s.console.egress = f :: rest →
    exec .egressFrameStart s = .next (s.setConsole { s.console with sending := true })
      ∧ (s.console.sending = true → s.console.restart ≠ .waiting →
        exec .egressFrameSent s = .next (s.setConsole { s.console with egress := rest, sending := false }))
      ∧ (s.console.sending = true → s.console.restart = .waiting → f.kind = 18 → f.payload = [25, 0, 0] →
        exec .egressFrameSent s =
          .next (s.setConsole { s.console with egress := rest, sending := false, restart := .sent }))
      ∧ (s.console.sending = true → s.console.restart = .waiting → ¬(f.kind = 18 ∧ f.payload = [25, 0, 0]) →
        exec .egressFrameSent s = .next (s.setConsole { s.console with egress := rest, sending := false }))

/-! ### The field link (02_field_transactions_and_the_scan_list) -/

/-- 02:R27, items 1 and 2: a request for ALL-STOP, then the stop of hoist A, then that of hoist B, ahead of everything
else whatever the credit, which they leave unchanged (R28). Then a trim, which adds 1 to the credit, ahead of orders
and polls; with the credit at 3 while a scan runs, or with nothing above it waiting, the next due slot of the
CONTINUOUS scan is polled, through the cycles that follow where the present one has none left, and the credit
returns to 0 (R35); with a slot present and enabled there always is one. A SINGLE sweep polls every present, enabled slot
once, in slot order, whatever its divisor; when none is left the mode becomes STOPPED, SCAN DONE is offered, and the
arbiter goes on to what waits (R37). That the pointer wraps to slot 0 of the next cycle after slot 31 is the model's
(log 26). -/
def Obligations.ArbiterChoosesInItsOrder : Prop :=
  (∀ s : State, s.power = .running → s.field.link = .idle →
      (s.field.allStop = true → s.field.tx = none → exec .arbiterChoice s = .next (s.setField (Broken s.field)))
        ∧ (∀ o, s.field.allStop = false → s.field.stopA = some o →
          exec .arbiterChoice s =
            .next (s.setField (Begun { s.field with stopA := none } (.stop .a) o.node o.cls o.arg)))
        ∧ (∀ o, s.field.allStop = false → s.field.stopA = none → s.field.stopB = some o →
          exec .arbiterChoice s =
            .next (s.setField (Begun { s.field with stopB := none } (.stop .b) o.node o.cls o.arg))))
    ∧ (∀ s : State, s.power = .running → s.field.link = .idle → s.field.allStop = false → s.field.stopA = none →
          s.field.stopB = none →
            (∀ o, s.field.trimA = some o → (s.field.credit ≠ 3 ∨ s.field.scanRunning = false) →
              exec .arbiterChoice s =
                .next (s.setField (Begun { s.field with trimA := none, credit := min (s.field.credit + 1) 3 } (.trim .a) o.node
                  o.cls o.arg)))
            ∧ (∀ o, s.field.trimA = none → s.field.trimB = some o → (s.field.credit ≠ 3 ∨ s.field.scanRunning = false) →
              exec .arbiterChoice s =
                .next (s.setField (Begun { s.field with trimB := none, credit := min (s.field.credit + 1) 3 } (.trim .b) o.node
                  o.cls o.arg)))
            ∧ (∀ (k i : Nat) (x : ScanSlot), s.field.scanMode = .continuous → s.field.credit = 3 ∨ NothingWaits s →
              k ≤ 840 → NextDue s.field k i x →
              exec .arbiterChoice s =
                .next (s.setField (Begun
                  { s.field with
                    credit := 0
                    pointer := if i = 31 then 0 else i + 1
                    cycle := if i = 31 then (cycleAhead s.field k + 1) % 840 else cycleAhead s.field k } .poll x.node 0 0)))
            ∧ (∀ i x, look s.field.scanList i none = some x → x.enabled = true →
              ∃ k j y, k ≤ 840 ∧ NextDue s.field k j y)
            ∧ (NothingWaits s →
              (s.field.scanMode = .stopped ∨ s.field.scanMode = .continuous ∧ ∀ i x, look s.field.scanList i none = some x →
                x.enabled = false) →
              exec .arbiterChoice s = .next s))
    ∧ ∀ s : State, s.power = .running → s.field.link = .idle → s.field.allStop = false → s.field.stopA = none →
        s.field.stopB = none → s.field.scanMode = .single →
        (s.field.credit = 3 ∧ (∃ i x, look s.field.scanList i none = some x ∧ x.enabled = true)) ∨ NothingWaits s →
          (∀ (i : Nat) (x : ScanSlot), s.field.sweep ≤ i → i < 32 → look s.field.scanList i none = some x →
            x.enabled = true →
            (∀ j y, s.field.sweep ≤ j → j < i → look s.field.scanList j none = some y → y.enabled = false) →
            exec .arbiterChoice s =
              .next (s.setField (Begun { s.field with credit := 0, sweep := i + 1 } .poll x.node 0 0)))
          ∧ ((∀ j y, s.field.sweep ≤ j → look s.field.scanList j none = some y → y.enabled = false) →
            let u := (s.setField { s.field with scanMode := .stopped }).alert .scanDone
            exec .arbiterChoice s = exec .arbiterChoice u ∧ (NothingWaits s → exec .arbiterChoice s = .next u))

/-- 02:R27 to R29, 05:R89: with nothing above it waiting, the head of the own-order queue, and with that empty the
head of the order queue, becomes the transaction in flight when its required conditions are TRUE; else it is REVOKED
unsent. That the occupancy is reported before the re-check is the model's (log 15), and so is the ORDER RESULT before the
ORDER OUTCOME (log 8). -/
def Obligations.OrdersAreTakenFromTheHead : Prop :=
  ∀ (s : State) (r : OrderRecord) (rest : List OrderRecord), s.power = .running → s.field.link = .idle →
    s.field.allStop = false → SlotsEmpty s.field → s.field.credit ≠ 3 → (∀ d, ¬IsSignal s r.node r.cls d) →
      (s.gate.own = r :: rest → (∀ c ∈ r.required, standsTrue s.cond.states c = true) →
        exec .arbiterChoice s =
          .next ((s.setGate { s.gate with own := rest }).setField
            (Begun { s.field with credit := min (s.field.credit + 1) 3 } (.order { r with memory := none }) r.node r.cls
              r.arg)))
      ∧ (s.gate.own = [] → s.gate.orders = r :: rest → (∀ c ∈ r.required, standsTrue s.cond.states c = true) →
        exec .arbiterChoice s =
          .next ((s.setGate { s.gate with orders := rest }).reportOccupancy.setField
            (Begun { s.field with credit := min (s.field.credit + 1) 3 } (.order { r with memory := none }) r.node r.cls
              r.arg)))
      ∧ (∀ c tag, s.gate.own = [] → s.gate.orders = [r] → s.field.scanMode = .stopped → r.origin = .console tag →
        r.memory = none → c ∈ r.required → standsTrue s.cond.states c = false →
        (∀ d ∈ r.required, standsTrue s.cond.states d = false → c ≤ d) →
        exec .arbiterChoice s =
          .next (FinalResult (s.setGate { s.gate with orders := [] }).reportOccupancy r tag .revoked c false))

/-- The law of 05:R89 and that of 08:R145: an order comes to be in flight only with every required condition of its
record TRUE, and a GREEN to a channel signal only with RED DONE as the memory of the opposite signal, at each choice
of the arbiter (02:R27). -/
def Obligations.OnlyProvenOrdersAreTransmitted : Prop :=
  ∀ (c : Instr) (s t : State) (tx : Transaction) (r : OrderRecord),
    c = .arbiterChoice ∨ c = .turnaroundEnd ∨ c = .breakIdleEnd →
    s.field.tx = none → exec c s = .next t → t.field.tx = some tx → tx.source = .order r →
      (∀ c ∈ r.required, standsTrue t.cond.states c = true)
        ∧ ∀ d, r.arg = 1 → IsSignal t r.node r.cls d →
          (t.chan.signal d.opposite).memory = some { kind := .red, result := .done }

/-- 01:R1 to R3: a character is a start bit, eight data bits with the least significant first, its mark bit and a stop
bit; a frame is its header, payload and check, and its kind character alone is marked. 02:R20: a POLL has length 0, a
field ORDER the class in payload byte 0 and the argument in bytes 1 and 2. 01:R12, 02:R20, R40: each character is read
back; with the last one read back as sent the reply timeout starts and the order is marked transmitted, and a trim is
reported when first sent. The characters read back are those of VALID_CHARACTER (log 6). -/
def Obligations.FieldFramesAreBuiltSentAndReadBack : Prop :=
  (∀ c : Character, Character.line c =
      [false, c.data.getLsbD 0, c.data.getLsbD 1, c.data.getLsbD 2, c.data.getLsbD 3, c.data.getLsbD 4, c.data.getLsbD 5,
        c.data.getLsbD 6, c.data.getLsbD 7, c.mark, true])
    ∧ (∀ f : Frame,
      f.characters.map Character.data = frameBytes f
        ∧ f.characters.map Character.mark = true :: List.replicate (f.payload.length + 5) false)
    ∧ (∀ tx : Transaction,
      let arg := BitVec.ofInt 16 tx.arg
      (tx.source = .poll → tx.frame = { kind := 33, node := BitVec.ofNat 8 tx.node, tag := tx.tag, payload := [] })
        ∧ (tx.source ≠ .poll → tx.frame =
          { kind := 34, node := BitVec.ofNat 8 tx.node, tag := tx.tag
            payload := [BitVec.ofNat 8 tx.cls, arg.extractLsb' 8 8, arg.extractLsb' 0 8] }))
    ∧ ∀ (s : State) (tx : Transaction), s.power = .running → s.field.link = .sending → s.field.tx = some tx →
      let sent := tx.frame.characters
      (∀ data m,
          (s.field.echo <+: sent → s.field.echo ≠ sent → exec (.validCharacter .field m data) s =
              .next (s.setField { s.field with echo := s.field.echo ++ [{ data := data, mark := m }] }))
            ∧ (¬s.field.echo <+: sent ∨ s.field.echo = sent → exec (.validCharacter .field m data) s = .next s))
        ∧ (s.field.echo ≠ sent → exec .frameFullySent s = .next s)
        ∧ (s.field.echo = sent →
          let u := s.setField
            { s.field with
              link := .awaiting (s.now + BitVec.ofNat 32 s.field.replyTimeout), tx := some { tx with transmitted := true }
              receiver := .hunting }
          exec .contention s = .next s
            ∧ ((∀ k, tx.source ≠ .trim k) ∨ tx.transmitted = true → exec .frameFullySent s = .next u)
            ∧ (∀ k, tx.source = .trim k → tx.transmitted = false →
              exec .frameFullySent s = .next (u.occur (.trimSent tx.node))))

/-- 02:R25, R26, R40: two retries of the same transaction with the same tag; the third abandoned attempt ends a poll as a
MISS and an order, a trim or a stop in LINK FAULT with transmitted flag 0, counts the contention, and reports FIELD
CONTENTION at 8; a LINK FAULT event follows. That FIELD CONTENTION comes before the outcome, the ORDER OUTCOME of an
order before the LINK FAULT event, and the NODE MISS of a poll before it, is the model's (log 8). -/
def Obligations.ContentionRetriesThenFails : Prop :=
  ∀ (s : State) (tx : Transaction), s.power = .running → s.points.gather = none → s.field.link = .sending →
    s.field.tx = some tx → s.field.echo ≠ tx.frame.characters →
    (tx.abandoned < 2 → exec .contention s =
        .next (s.setField
          { s.field with
            link := .turnaround, tx := some { tx with abandoned := tx.abandoned + 1 }, receiver := .hunting }))
      ∧ (2 ≤ tx.abandoned →
        ∃ u v t, Ends s u { tx with abandoned := tx.abandoned + 1 } ∧ u.field.contention = min (s.field.contention + 1) 255
          ∧ exec .contention s = .next t ∧ t = v.occur (.linkFault tx.node)
          ∧ (tx.source ≠ .poll → v = OwnerTakes u { tx with transmitted := false } .linkFault 0)
          ∧ (tx.source = .poll → 1 ≤ tx.node → ∃ w, PointsMissed u w tx.node ∧ NodeMissed w v tx.node)
          ∧ (8 ≤ s.field.contention + 1 → t.unit.causes.fieldContention = true)
          ∧ t.field.link = .turnaround ∧ t.field.tx = none)

/-- 02:R19, R27, 01:R11: after TURNAROUND, and after the idle period of a break, the line falls IDLE and the arbiter
chooses in the same event, as it does at ARBITER_CHOICE; an abandoned attempt is retried (02:R25). 02:R32, R33: the
break of ALL-STOP empties the four slots and cuts the transaction in flight: an order of any origin ends CANCELLED with
its transmitted flag, a poll ends with no outcome, and a trim or a stop changes nothing more; the contention count stays
(R26). A request present at the end of a turnaround or of a break begins its break then. What a final result brings comes
in the model's order (log 8). -/
def Obligations.TurnaroundsAndBreaksEnd : Prop :=
  ∀ s : State, s.power = .running →
    let idle := s.setField { s.field with link := .idle }
    (∀ c, (c = .turnaroundEnd ∧ s.field.link = .turnaround) ∨ (c = .breakIdleEnd ∧ s.field.link = .breaking) →
        s.field.tx = none →
        (∃ t, exec c s = .next t ∧ exec .arbiterChoice idle = .next t)
          ∧ (s.field.allStop = false → NothingWaits s → s.field.scanMode = .stopped → exec c s = .next idle)
          ∧ (s.field.allStop = true → exec c s = .next (s.setField (Broken s.field))))
      ∧ (s.field.link = .turnaround → s.field.tx ≠ none →
        (s.field.allStop = false → exec .turnaroundEnd s =
            .next (s.setField { s.field with link := .sending, echo := [], receiver := .hunting, arrivals := [] }))
          ∧ (s.field.allStop = true → exec .turnaroundEnd s = exec .allStopBreak s))
      ∧ (s.field.allStop = true → s.field.link ≠ .breaking →
        ((∀ tx r, s.field.tx = some tx → tx.source ≠ .order r) →
            exec .allStopBreak s = .next (s.setField (Broken s.field)))
          ∧ ∀ tx r, s.field.tx = some tx → tx.source = .order r →
            exec .allStopBreak s = .next (ResultGiven (s.setField (Broken s.field)) r .cancelled 0 tx.transmitted))

/-- 02:R22 to R24: with nothing awaited a good frame is discarded; an order, a trim or a stop that awaits its answer ends
DONE by its node's ACK, NODE REFUSED by its NAK, and GARBLED by any other good frame, and the outcome reaches its owner:
the originator through the gate (05:R90; 07:R127; 08:R149, R153) with a DONE handed to the Span Supervisor (05:R93), or
the Span Supervisor (06:R101, R118). A transaction with an abandoned attempt is contended (02:R26). 02:R38: the node that
answers becomes ANSWERING, and one that was SILENT is alerted and leaves the count on point 126. The order of these
effects is the model's (log 8). -/
def Obligations.GoodFrameEndsAnOrder : Prop :=
  ∀ (s : State) (a : Arrival) (rest : List Arrival), s.power = .running → s.points.gather = none →
    s.field.arrivals = a :: rest →
      (s.field.awaited = none → exec .fieldFrameReceived s = .next (s.setField { s.field with arrivals := rest }))
        ∧ ∀ e tx, s.field.link = .awaiting e → s.field.tx = some tx → tx.source ≠ .poll → 1 ≤ tx.node →
          ∃ u t, Ends (s.setField { s.field with arrivals := rest }) u tx ∧ exec .fieldFrameReceived s = .next t
            ∧ (Answers tx a.frame → a.frame.kind = 50 → NodeAnswered (OwnerTakes u tx .done 0) t tx.node a.time)
            ∧ (Answers tx a.frame → a.frame.kind = 51 →
              NodeAnswered (OwnerTakes u tx .nodeRefused (u8 a.frame.payload 0)) t tx.node a.time)
            ∧ (¬(Answers tx a.frame ∧ (a.frame.kind = 50 ∨ a.frame.kind = 51)) → t = OwnerTakes u tx .garbled 0)

/-- 02:R22, R26, R38; 03:R44, R50 to R52: a good REPLY ends its poll and is decoded: every field point that a present map
entry reads from that node takes its reading or its miss, points 112 to 116 are settled, the encoder losses and the
encoder updates reach the Span Supervisor, the changes are raised as one point change, and the CALL points offer their
vessel calls; the points of other nodes are as they were. Its node is set ANSWERING, and one that was SILENT is alerted
and leaves the count on point 126. The order of these effects is the model's (log 8). -/
def Obligations.ReplyReachesItsPoints : Prop :=
  ∀ (s : State) (a : Arrival) (rest : List Arrival) (e : Time) (tx : Transaction),
    s.power = .running → s.points.gather = none → s.field.arrivals = a :: rest → s.field.link = .awaiting e →
    s.field.tx = some tx → tx.source = .poll → 1 ≤ tx.node → tx.node ≤ 100 → Answers tx a.frame → a.frame.kind = 49 →
      ∃ u v t, exec .fieldFrameReceived s = .next t ∧ Ends (s.setField { s.field with arrivals := rest }) u tx
        ∧ ReplyTaken u v tx.node a.frame.payload a.time ∧ NodeAnswered v t tx.node a.time
        ∧ t.field.link = .turnaround ∧ t.field.tx = none ∧ t.field.receiver = .hunting
        ∧ nodeRecord t.field tx.node = { state := .answering, misses := 0, lastGood := some a.time }
        ∧ ((nodeRecord s.field tx.node).state = .silent →
          ReportsAround s.console t.console 21 [4, 0, BitVec.ofNat 8 tx.node] ∧ (t.point 126).value = SilentCount t.field)
        ∧ ∀ n, n < 112 →
          (∀ m, look s.points.map n none = some m → m.node = tx.node →
              t.point n = replyGives m (s.point n) a.frame.payload a.time)
            ∧ ((∀ m, look s.points.map n none = some m → m.node ≠ tx.node) → t.point n = s.point n)

/-- 02:R21 to R23, R26, R39; 03:R48: the timeout ends a poll as a MISS of every point of its node, and an order, a trim or
a stop in NO ANSWER; each is a miss of the node, and contended if an attempt was abandoned. Before its time (log 3), with a
frame in assembly or one that waits, and with nothing awaited, the timeout changes nothing. That the outcome, with its
ORDER OUTCOME event, comes before the NODE MISS event is the model's (log 8). -/
def Obligations.TimeoutIsAMiss : Prop :=
  (∀ s : State,
    (∀ e, s.field.link = .awaiting e → due s.now e = false ∨ s.field.receiver ≠ .hunting ∨ s.field.arrivals ≠ []) →
      exec .replyTimeout s = .next s)
  ∧ ∀ (s : State) (e : Time) (tx : Transaction), s.power = .running → s.points.gather = none →
    s.field.link = .awaiting e → due s.now e = true → s.field.receiver = .hunting → s.field.arrivals = [] →
    s.field.tx = some tx → 1 ≤ tx.node → tx.node ≤ 100 →
      (tx.source = .poll → ∃ t, exec .replyTimeout s = .next t ∧ PollEndsMissed s t tx)
      ∧ (tx.source ≠ .poll → ∃ u t, Ends s u tx ∧ exec .replyTimeout s = .next t
        ∧ NodeMissed (OwnerTakes u tx .noAnswer 0) t tx.node)

/-- 02:R22, R23, R26: while a transaction awaits its answer, a receive fault, and for a poll a good frame that is not its
answer, ends it: a poll as a MISS (R39), an order, a trim or a stop in GARBLED; it is contended if an attempt was
abandoned, which counts and at 8 reports FIELD CONTENTION. TURNAROUND has the receiver in HUNTING (02:R19), also where
the marked character of a TRUNCATED fault has begun a frame (01:R6, log 16). That the miss reaches the points before its
node's record is the model's (log 8). -/
def Obligations.FaultsAndStrayFramesEndATransaction : Prop :=
  ∀ (s : State) (tx : Transaction) (e : Time), s.power = .running → s.points.gather = none → s.field.tx = some tx →
    1 ≤ tx.node → tx.node ≤ 100 → s.field.link = .awaiting e →
      (∀ bytes c f, s.field.arrivals = [] → s.field.line = .mark →
        (s.field.receiver = .assembling bytes ∧ BringsFault bytes c f)
          ∨ (c = .fieldBreak ∧ f = LinkCounts.addGap ∧ (due s.now e = false ∨ s.field.receiver ≠ .hunting)) →
        let counted := s.setField
          { s.field with counts := f s.field.counts, line := if c = .fieldBreak then .broken else .mark }
        (tx.source = .poll → ∃ t, exec c s = .next t ∧ PollEndsMissed counted t tx)
          ∧ (tx.source ≠ .poll → ∃ u, Ends counted u tx ∧ exec c s = .next (OwnerTakes u tx .garbled 0)))
      ∧ ∀ a rest, s.field.arrivals = a :: rest → tx.source = .poll → ¬(Answers tx a.frame ∧ a.frame.kind = 49) →
          ∃ t, exec .fieldFrameReceived s = .next t
            ∧ PollEndsMissed (s.setField { s.field with arrivals := rest }) t tx

/-! ### Points and conditions (03_the_point_image, 04_conditions) -/

/-- 03:R45 and R46, whole: the value of a reading by its width, and its range; a numeric point takes every reading at once;
a CALL point also takes its direction. -/
def Obligations.NumericPointTakesEveryReading : Prop :=
  (∀ (e : PointEntry) (payload : List Byte),
      let x := e.reading payload
      x = readingOf e payload ∧ (e.width = .bit → x = 0 ∨ x = 1) ∧ (e.width = .u8 → 0 ≤ x ∧ x ≤ 255)
        ∧ (e.width = .u16 ∨ e.width = .call → 0 ≤ x ∧ x ≤ 65535) ∧ (e.width = .s16 → -32768 ≤ x ∧ x ≤ 32767)
        ∧ (e.width = .u24 → 0 ≤ x ∧ x ≤ 16777215))
    ∧ ∀ (p : Point) (e : PointEntry) (payload : List Byte) (t : Time), e.width ≠ .bit →
      (e.width ≠ .call → p.take e payload t =
          { value := readingOf e payload, freshness := .fresh, age := 0, run := none, received := some t
            direction := p.direction })
        ∧ (e.width = .call → p.take e payload t =
          { value := readingOf e payload, freshness := .fresh, age := 0, run := none, received := some t
            direction := (payload[e.offset + 2]?.getD 0).toNat })

/-- 03:R47: every reading of a binary point takes one of three courses: one that agrees with a FRESH value clears the run;
any other extends the run of its own value, or begins one with count 1 in place of a run of the other value; and the count
debounce + 1 sets value and freshness. So fewer than debounce + 1 readings of one value toward which a binary point has no
run leave its value and freshness, and the reading that completes them sets both, from every freshness. 03:R44: a point of a
node that replies takes a reading or a miss by the place of its bytes. 03:R48, R49: a point just read is STALE
from the miss that brings its age to the stale limit on, and a NEVER point stays NEVER at age 0. -/
def Obligations.ReadingsAndMissesOfAPoint : Prop :=
  (∀ (p : Point) (k : Nat) (x : Int) (times : List Time), p.run = none → (p.freshness = .fresh → x ≠ p.value) →
    let q := times.foldl (fun q t => q.takeBinary k x t) p
    (times.length ≤ k → q.value = p.value ∧ q.freshness = p.freshness
        ∧ (times ≠ [] → q.run = some { candidate := x, count := times.length } ∧ q.age = 0))
      ∧ (times.length = k + 1 → q.value = x ∧ q.freshness = .fresh ∧ q.run = none ∧ q.age = 0))
  ∧ (∀ (p : Point) (k : Nat) (x : Int) (t : Time),
    let q := p.takeBinary k x t
    let read := { p with age := 0, received := some t }
    let settled := { read with value := x, freshness := .fresh, run := none }
    (p.freshness = .fresh → x = p.value → q = { read with run := none })
      ∧ (p.freshness ≠ .fresh ∨ x ≠ p.value →
        (∀ r, p.run = some r → r.candidate = x →
            (r.count < k → q = { read with run := some { candidate := x, count := r.count + 1 } })
              ∧ (k ≤ r.count → q = settled))
          ∧ ((∀ r, p.run = some r → r.candidate ≠ x) →
            (0 < k → q = { read with run := some { candidate := x, count := 1 } }) ∧ (k = 0 → q = settled))))
  ∧ (∀ (p : Point) (e : PointEntry) (payload : List Byte) (t : Time),
    p.onReply e payload t = replyGives e p payload t
      ∧ (e.width = .bit → p.take e payload t = p.takeBinary e.debounce (readingOf e payload) t))
  ∧ ∀ (p : Point) (limit n : Nat), 1 ≤ limit → limit ≤ 15 → p.age = 0 →
    let q := (List.replicate n ()).foldl (fun q _ => q.miss limit) p
    q.value = p.value ∧ q.direction = p.direction ∧ q.received = p.received ∧ (1 ≤ n → q.run = none)
      ∧ (p.freshness = .fresh → q.age = min n 15 ∧ q.freshness = if limit ≤ n then .stale else .fresh)
      ∧ (p.freshness = .stale → q.age = min n 15 ∧ q.freshness = .stale)
      ∧ (p.freshness = .never → q.age = 0 ∧ q.freshness = .never)

/-- 03:R53: the owner of a point from 117 to 127 writes its value. 03:R54, R55: points 112 to 116 share one freshness, given
by the first-pair mark, the pair-loss mark, the span record and the encoder points: a height is written only once a pair
has been formed, a pair sets the first-pair mark and clears the pair-loss mark, and a pair loss sets it. A settling changes
nothing but that freshness, and a write no other point. 03:R50, 04:R65, R66, R68, R69: each such write is one event, whose
changes are one walk over the conditions that test a point changed, handed out whole; in an event of the Point Image that is
under way they join its point change (log 7). -/
def Obligations.SpanPointsAreSettled : Prop :=
  (∀ (s : State) (n : Nat) (v : Int), 117 ≤ n → n ≤ 127 → PointWritten s (s.writePoint n v) n v)
  ∧ ∀ s : State, EncodersInField s →
    SpanPoints s s.settleSpanPoints (fun n => (s.point n).value)
      ∧ (s.points.gather ≠ none → PointsMoved s s.settleSpanPoints s.points.firstPair s.points.pairLoss)
      ∧ (∀ x h, PointsMoved s (s.heightWrite x h) s.points.firstPair s.points.pairLoss
        ∧ SpanPoints s (s.heightWrite x h) (HeightValues s x h))
      ∧ (∀ hA hB skew mean speed, PointsMoved s (s.pairWrite hA hB skew mean speed) true false
        ∧ SpanPoints s (s.pairWrite hA hB skew mean speed) (PairValues hA hB skew mean speed))
      ∧ PointsMoved s s.pairLossWrite s.points.firstPair true
      ∧ SpanPoints s s.pairLossWrite (fun n => (s.point n).value)

/-- 04:R59, whole: no operator holds on a point that is NEVER or STALE; on a FRESH point the table decides. -/
def Obligations.PointTestNeedsAFreshPoint : Prop :=
  ∀ (points : Vector Point 128) (counters : Vector DutyCounter 8) (states : Vector CondState 64) (n : Nat) (op : PointOp),
    let p := look points n Point.first
    (Term.point n op).holds points counters states = true ↔
      p.freshness = .fresh ∧
        match op with
        | .eq a => p.value = a
        | .ne a => p.value ≠ a
        | .lt a => p.value < a
        | .ge a => p.value ≥ a
        | .inRange a b => a ≤ p.value ∧ p.value ≤ b
        | .outRange a b => p.value < a ∨ b < p.value
        | .inSet mask => 0 ≤ p.value ∧ p.value ≤ 15 ∧ mask.getLsbD p.value.toNat = true

/-- 04:R62, R63, R65 to R69: the end of proving times, and a counter change, are each one walk that settles every
condition; the change set goes to the four blocks exactly when some condition changed its standing, with the CONDITION
REPORTs of the conditions that ask for them. 04:R59 to R62: what makes a term true, and the table by which an evaluation
moves a condition, spelled for every input. 04:R67: a proving time that ends makes its condition TRUE although a counter
change that is still to be walked has made its COUNTER BELOW term false (log 37). 04:R71: a write of a condition entry sets
the condition FALSE and walks it, together with those that reference it. -/
def Obligations.OneWalkSettlesEveryCondition : Prop :=
  (∀ (s : State) (states : Vector CondState 64),
      (∀ x, Term.holds s.points.points s.duty.counters states x = true ↔ TermTrue s states x)
        ∧ ∀ unseen expire entry st, TableGives s states unseen expire entry st
          (evaluate s.now expire (holdOf entry) (allTermsTrue s.points.points s.duty.counters states unseen entry) st))
    ∧ (∀ s : State, s.power = .running → TableLaw s →
      (∃ t set, exec .provingEnd s = .next t ∧ Walked s t
          ∧ Settles s t (fun n => ∃ start, look s.cond.states n .isFalse = .proving start
            ∧ holdOf (look s.cond.table n none) ≤ (s.now - start).toNat) true
          ∧ IsChangeSet s.cond.states t.cond.states set ∧ HandsOut s t set
          ∧ ∀ n e start, n < 64 → look s.cond.states n .isFalse = .proving start → look s.cond.table n none = some e →
            e.hold ≤ (s.now - start).toNat → e.terms ≠ [] →
            (∀ x ∈ e.terms, x.holds s.points.points s.duty.counters t.cond.states = true
              ∨ ∃ k ∈ s.cond.counterChanges, x = .counterBelow k) →
            look t.cond.states n .isFalse = .isTrue)
        ∧ ∀ k ks, s.cond.counterChanges = k :: ks →
          let u := s.setCond { s.cond with counterChanges := ks }
          ∃ t set, exec .counterChange s = .next t ∧ Walked u t
            ∧ Settles u t (fun n => ∃ e, look s.cond.table n none = some e ∧ Term.counterBelow k ∈ e.terms) false
            ∧ IsChangeSet s.cond.states t.cond.states set ∧ HandsOut u t set)
    ∧ ∀ (s : State) (n : Nat) (e : Option CondEntry), n < 64 → TableLaw s →
      (∀ x j, e = some x → Term.condition j ∈ x.terms → j < n) →
        let u := s.setCond
          { s.cond with table := put s.cond.table n e, states := put s.cond.states n .isFalse }
        let t := s.writeCondition n e
        ∃ states set, t.cond = { u.cond with states := states } ∧ Walked u t
          ∧ IsChangeSet s.cond.states states set ∧ HandsOut u t set
          ∧ TableGives s states [] false e .isFalse (look states n .isFalse)
          ∧ ∀ m, m < 64 → m ≠ n →
            ((∃ j x, look s.cond.table m none = some x ∧ Term.condition j ∈ x.terms
                ∧ standsTrue s.cond.states j ≠ standsTrue states j) →
              TableGives s states [] false (look s.cond.table m none) (look s.cond.states m .isFalse)
                (look states m .isFalse))
              ∧ ((∀ j x, look s.cond.table m none = some x → Term.condition j ∈ x.terms →
                  standsTrue s.cond.states j = standsTrue states j) →
                look states m .isFalse = look s.cond.states m .isFalse)

/-! ### Duty counters (09_duty_counters_and_residency) -/

/-- 09:R158: what a control record selects, and when its level stands. 09:R159, R161, R162, R165: an occurrence adds 1
to every counter in COUNT mode that selects it and is not frozen; a counter that reaches its threshold offers ALERT
COUNTER THRESHOLD where its action is REPORT or FREEZE; nothing else of the controller changes but the counter changes
that follow. 09:R160, R167: a millisecond is counted by the residency counter of the present phase and by the TIME
counters whose level stands, and by nothing else. What a residency counter holds past 48 bits is the model's free
value (log 9). -/
def Obligations.OccurrencesAndMillisecondsAreCounted : Prop :=
  (∀ r : DutyRecord, (∀ e, r.selects e = true ↔ Selects r e) ∧ ∀ d : Duty, d.level r = true ↔ LevelStands d r)
    ∧ (∀ (s : State) (e : DutyEvent),
      let t := s.occur e
      t = ((s.setDuty t.duty).setConsole t.console).setCond t.cond
        ∧ t.duty = { s.duty with counters := t.duty.counters, frozen := t.duty.frozen }
        ∧ DutyHandsOn s t
        ∧ ∀ k, k < 8 →
          CountsTo s.duty.frozen (OccurrenceAdds e (look s.duty.counters k DutyCounter.reset))
            (look s.duty.counters k DutyCounter.reset) (look t.duty.counters k DutyCounter.reset))
    ∧ ∀ s : State, s.power = .running →
        ∃ t, exec .millisecondAdvance s = .next t
          ∧ t = (((s.setNow (s.now + 1)).setDuty t.duty).setConsole t.console).setCond t.cond
          ∧ t.duty =
            { s.duty with counters := t.duty.counters, frozen := t.duty.frozen, residency := t.duty.residency }
          ∧ DutyHandsOn s t
          ∧ (∀ k, k < 8 →
            CountsTo s.duty.frozen (MillisecondAdds s.duty (look s.duty.counters k DutyCounter.reset))
              (look s.duty.counters k DutyCounter.reset) (look t.duty.counters k DutyCounter.reset))
          ∧ ∀ n, n < 14 →
            look t.duty.residency n 0 =
              if n = s.duty.phase.num then
                if look s.duty.residency n 0 = BitVec.allOnes 48 then Config.residencyOverflow n
                else look s.duty.residency n 0 + 1
              else look s.duty.residency n 0

/-- 09:R158, R159, R163: the unit follows the standing of every condition in a change set, and counts the edges on the
counters that select it, frozen or not for the levels held. 05:R93; 07:R125: a changed occupancy, and a phase handed
over, are counted at their edges by the counters that select them, and the levels held follow; an occupancy that has not
changed is not reported. -/
def Obligations.LevelEdgesAreCounted : Prop :=
  (∀ (s : State) (set : ChangeSet) (rest : List ChangeSet), s.power = .running → s.duty.sets = set :: rest →
      (set.map Prod.fst).Nodup → (∀ x ∈ set, x.1 < 64) →
        ∃ t, exec .conditionTrueEvent s = .next t
          ∧ t = ((s.setDuty t.duty).setConsole t.console).setCond t.cond
          ∧ t.duty =
            { s.duty with
              counters := t.duty.counters, frozen := t.duty.frozen, standing := t.duty.standing, sets := rest }
          ∧ DutyHandsOn s t
          ∧ (∀ n, n < 64 →
            (∀ b, (n, b) ∈ set → look t.duty.standing n false = b)
              ∧ ((∀ b, (n, b) ∉ set) → look t.duty.standing n false = look s.duty.standing n false))
          ∧ ∀ k, k < 8 → EdgesCounted s t .conditionTrue k)
    ∧ ∀ (s : State) (p : Phase),
        (s.gate.orders.length + s.gate.held.length = s.duty.occupancy → s.reportOccupancy = s)
          ∧ (∀ t, t = s.reportOccupancy →
            s.gate.orders.length + s.gate.held.length ≠ s.duty.occupancy →
            t = ((s.setDuty t.duty).setConsole t.console).setCond t.cond ∧ DutyHandsOn s t
              ∧ t.duty =
                { s.duty with
                  counters := t.duty.counters, frozen := t.duty.frozen
                  occupancy := s.gate.orders.length + s.gate.held.length }
              ∧ ∀ k, k < 8 → EdgesCounted s t .queueOccupancy k)
          ∧ ∀ t, t = s.takeDuty (s.duty.phaseTo p) →
            t = ((s.setDuty t.duty).setConsole t.console).setCond t.cond ∧ DutyHandsOn s t
              ∧ t.duty = { s.duty with counters := t.duty.counters, frozen := t.duty.frozen, phase := p }
              ∧ ∀ k, k < 8 → EdgesCounted s t .phaseEntry k

/-! ### The Order Gate (05_the_order_gate) -/

/-- 05:R75, whole. -/
def Obligations.LookupTakesTheFirstMatch : Prop :=
  ∀ (permits : Vector (Option Permit) 96) (node cls : Nat),
    (∀ n p, matchingEntry permits node cls = some (n, p) ↔ Matches permits node cls n p)
      ∧ (matchingEntry permits node cls = none ↔ ∀ n p, look permits n none = some p → ¬Governs p node cls)
      ∧ ((∀ n p, look permits n none = some p → p.cls ≤ 63 ∧ ∀ m, p.node = some m → 1 ≤ m ∧ m ≤ 100) →
        node = 0 ∨ 100 < node ∨ 63 < cls → matchingEntry permits node cls = none)

/-- 05:R77 to R81: the first check that fails decides the result, its detail and its argument. That the ORDER RESULT comes
before the ORDER OUTCOME (R93) is the model's (log 8). -/
def Obligations.AdmissionRefusesAtTheFirstFailure : Prop :=
  ∀ (s : State) (f : Frame) (rest : List Frame), Serves s f rest → f.kind = 1 →
    (s.unit.mode = .init →
        exec .consoleOrderAdmission s = .next (Refuses s f rest (orderArg f) false .notReady 0))
      ∧ (s.unit.mode ≠ .init → (∀ n p, look s.gate.permits n none = some p → ¬Governs p (orderNode f) (orderClass f)) →
        exec .consoleOrderAdmission s = .next (Refuses s f rest (orderArg f) false .noPermit 0))
      ∧ ∀ n p, s.unit.mode ≠ .init → Matches s.gate.permits (orderNode f) (orderClass f) n p →
        (s.unit.mode = .maintenance → p.maint = false →
            exec .consoleOrderAdmission s = .next (Refuses s f rest (orderArg f) false .maintenance n))
          ∧ ((s.unit.mode = .maintenance → p.maint = true) → s.unit.causes ≠ CauseSet.empty → p.standdown = false →
            exec .consoleOrderAdmission s = .next (Refuses s f rest (orderArg f) false .standdown n))
          ∧ (FlagsPass s p → ¬OwnedPass s p →
            exec .consoleOrderAdmission s = .next (Refuses s f rest (orderArg f) false .owned n))
          ∧ (FlagsPass s p → OwnedPass s p → ¬MotionPass s (orderNode f) (orderClass f) →
            exec .consoleOrderAdmission s = .next (Refuses s f rest (orderArg f) false .motionBusy n))
          ∧ (FlagsPass s p → OwnedPass s p → MotionPass s (orderNode f) (orderClass f) →
            Outside p (orderArg f) = true → p.clamp = false →
            exec .consoleOrderAdmission s = .next (Refuses s f rest (orderArg f) false .argument n))
          ∧ (∀ c, ReachesCheckSeven s f n p → LowestFailing s p.required c → p.hold = false →
            exec .consoleOrderAdmission s =
              .next (Refuses s f rest (Forwarded p (orderArg f)) (Outside p (orderArg f)) .refusedCondition c))

/-- 05:R80, R82 to R84: an order whose conditions are all TRUE joins the order queue; one that is to wait supersedes a
held order of its node and class and joins the hold queue with its HELD result; a full queue refuses it. That a
supersede reports the occupancy twice, without and then with the order that joins (05:R93), and that each report comes
after the result of its step, is the model's (log 15); so is an ORDER RESULT before its ORDER OUTCOME (log 8). -/
def Obligations.AdmissionQueuesOrHolds : Prop :=
  ∀ (s : State) (f : Frame) (rest : List Frame) (n : Nat) (p : Permit), Serves s f rest → f.kind = 1 →
    ReachesCheckSeven s f n p →
      (AllTrue s p.required → s.gate.orders.length < 8 →
        exec .consoleOrderAdmission s =
          .next (((Taken s rest).setGate { s.gate with orders := s.gate.orders ++ [Admitted f n p] }).reportOccupancy))
      ∧ (AllTrue s p.required → 8 ≤ s.gate.orders.length →
        exec .consoleOrderAdmission s =
          .next (Refuses s f rest (Forwarded p (orderArg f)) (Outside p (orderArg f)) .queueFull 0))
      ∧ ∀ c, LowestFailing s p.required c → p.hold = true →
        let joined := fun v : State =>
          ((v.setGate
            { v.gate with
              held := v.gate.held ++
                [{ Admitted f n p with deadline := some (s.now + BitVec.ofNat 32 (p.holdLimit * 1000)) }] }).orderResult
            f.tag (orderNode f) (orderClass f) (Forwarded p (orderArg f)) 128 c
            (2 * bit (Outside p (orderArg f)) + 4)).reportOccupancy
        ((∀ r ∈ s.gate.held, ¬(r.node = orderNode f ∧ r.cls = orderClass f)) → s.gate.held.length < 8 →
            exec .consoleOrderAdmission s = .next (joined (Taken s rest)))
          ∧ ((∀ r ∈ s.gate.held, ¬(r.node = orderNode f ∧ r.cls = orderClass f)) → 8 ≤ s.gate.held.length →
            exec .consoleOrderAdmission s =
              .next (Refuses s f rest (Forwarded p (orderArg f)) (Outside p (orderArg f)) .queueFull 0))
          ∧ (∀ pre old post tag, s.gate.held = pre ++ old :: post → old.node = orderNode f → old.cls = orderClass f →
            old.origin = .console tag → (∀ r ∈ pre, ¬(r.node = orderNode f ∧ r.cls = orderClass f)) →
            s.gate.held.length ≤ 8 →
            exec .consoleOrderAdmission s =
              .next (joined (FinalResult ((Taken s rest).setGate { s.gate with held := pre ++ post }) old tag .superseded 0
                false).reportOccupancy))

/-- 05:R85: a condition change set releases the held orders whose conditions are all TRUE, oldest first, while the
order queue has room; the examination ends at the first such order that finds none. 05:R86: every held order whose
deadline has been reached ends EXPIRED with the lowest failing condition as detail, or 255, oldest first; the others
stay. -/
def Obligations.HeldOrdersAreReleasedOrExpire : Prop :=
  (∀ (s : State) (k : Nat), s.power = .running → s.gate.sets = k + 1 → s.gate.orders.length ≤ 8 →
      let ready := fun r : OrderRecord => r.required.all (standsTrue s.cond.states)
      ∃ held, exec .holdRelease s =
          .next (s.setGate
            { s.gate with
              sets := k
              orders := s.gate.orders
                ++ ((s.gate.held.filter ready).take (8 - s.gate.orders.length)).map fun r => { r with deadline := none }
              held := held })
        ∧ ((s.gate.held.filter ready).length ≤ 8 - s.gate.orders.length →
          held = s.gate.held.filter fun r => !ready r)
        ∧ ∀ pre r post, s.gate.held = pre ++ r :: post → ready r = true →
          (pre.filter ready).length = 8 - s.gate.orders.length → held = (pre.filter fun r => !ready r) ++ r :: post)
    ∧ ∀ s : State, s.power = .running → (∀ r ∈ s.gate.held, FromConsole r) →
        let expired := fun r : OrderRecord => timerDue s.now r.deadline
        ∃ t, exec .holdDeadlineExpiry s = .next t
          ∧ t = (((s.setGate { s.gate with held := s.gate.held.filter fun r => !expired r }).setDuty t.duty).setConsole
              t.console).setCond t.cond
          ∧ t.duty =
            { s.duty with
              counters := t.duty.counters, frozen := t.duty.frozen
              occupancy := s.gate.orders.length + (s.gate.held.filter fun r => !expired r).length }
          ∧ t.cond = { s.cond with counterChanges := t.cond.counterChanges }
          ∧ t.console =
            { s.console with
              egress := t.console.egress, reportsLost := t.console.reportsLost, reportSeq := t.console.reportSeq }
          ∧ ∃ detail : OrderRecord → Nat,
            NewResults s t = (s.gate.held.filter expired).map
              (fun r => resultFrame (consoleTag r) r 14 (detail r) (2 * bit r.clamped))
              ∧ ∀ r, (∀ c, LowestFailing s r.required c → detail r = c) ∧ (AllTrue s r.required → detail r = 255)

/-- 05:R91: a stand-down entry ends every queued order CANCELLED, signal orders of the console among them: the order
queue, then the hold queue, then the own-order queue, each in its order, and the queues are empty from the start. A RED of
the Channel Controller is offered again while RED is wanted (08:R153), into the emptied queue (log 35), so that one RED to
its signal is outstanding again; a GREEN leaves the outstanding orders and does nothing more (08:R149). With no signal order
among the own orders, all three queues are then empty: an entry order of the present entry marks its place CANCELLED
(07:R127), and nothing else changes but results, reports and counters. That the occupancy is reported before the results
is the model's (log 15), and so is each result before its ORDER OUTCOME (log 8). An order in a queue has met no re-check, so
it is the memory of no signal (08:R145). -/
def Obligations.StandDownCancelsTheQueues : Prop :=
  ∀ (s : State) (k : Nat), s.power = .running → s.gate.standdowns = k + 1 →
    let emptied := (s.setGate { s.gate with standdowns := k, orders := [], held := [], own := [] }).reportOccupancy
    ((∀ r ∈ s.gate.orders ++ s.gate.held ++ s.gate.own, r.memory = none) →
      ∃ t, exec .gateStanddownCancel s = .next t
        ∧ CancelledInTurn (s.gate.orders ++ s.gate.held ++ s.gate.own) emptied t)
    ∧ (∀ r d, s.gate.orders = [] → s.gate.held = [] → s.gate.own = [r] → r.memory = none →
      (r.origin = .channel d .green → exec .gateStanddownCancel s =
          .next ((emptied.setChan (s.chan.setSignal d
            { s.chan.signal d with outstanding := (s.chan.signal d).outstanding.erase .green })).occur
              (.orderOutcome r.node .cancelled)))
        ∧ ∀ c n p, r.origin = .channel d .red → s.chan.record = some c → (s.chan.signal d).redWanted = true →
          (s.chan.signal d).outstanding = [.red] →
          OwnAdmitted (s.setGate { s.gate with own := [] }) (c.node d) c.cls 0 n p →
          ∃ t, exec .gateStanddownCancel s = .next t
            ∧ t.gate.own = [OwnRecord (.channel d .red) (c.node d) c.cls 0 n p] ∧ t.chan = s.chan
            ∧ t.unit = s.unit)
    ∧ ((∀ r ∈ s.gate.orders ++ s.gate.held, FromConsole r ∧ r.memory = none) →
    (∀ r ∈ s.gate.own, r.memory = none ∧ ∃ serial place, r.origin = .sequencer serial place) →
      ∃ t, exec .gateStanddownCancel s = .next t
        ∧ t = ((((s.setGate { s.gate with standdowns := k, orders := [], held := [], own := [] }).setSeq t.seq).setDuty
            t.duty).setConsole t.console).setCond t.cond
        ∧ t.seq = { s.seq with tracking := t.seq.tracking }
        ∧ (∀ i,
          let present := (∃ r ∈ s.gate.own, r.origin = .sequencer s.seq.serial i) ∧ Working s.seq.phase
          (present → t.seq.tracking[i]? = s.seq.tracking[i]?.map fun _ => .cancelled)
            ∧ (¬present → t.seq.tracking[i]? = s.seq.tracking[i]?))
        ∧ t.duty =
          { s.duty with counters := t.duty.counters, frozen := t.duty.frozen, occupancy := 0 }
        ∧ t.cond = { s.cond with counterChanges := t.cond.counterChanges }
        ∧ t.console =
          { s.console with
            egress := t.console.egress, reportsLost := t.console.reportsLost, reportSeq := t.console.reportSeq }
        ∧ NewResults s t =
          (s.gate.orders ++ s.gate.held).map fun r => resultFrame (consoleTag r) r 17 0 (2 * bit r.clamped))

/-! ### The Span Supervisor (06_span_supervision) -/

/-- 06:R103, R111: the height is the nearest millimetre, ties away from zero, saturated and marked; the trim lies
within ±U_max, follows the sign of the skew, and lowers hoist A by what it raises hoist B; a change too small for the
deadband places no trim. -/
def Obligations.HeightsAndTrimsAreRounded : Prop :=
  (∀ (t : TowerRecord) (raw : Nat), ∃ h,
      Nearest ((if t.negative then (t.zero : Int) - raw else (raw : Int) - t.zero) * t.scale) 16000 h
        ∧ t.height raw = (if h < -5000 then -5000 else if 80000 < h then 80000 else h)
        ∧ (t.outOfRange raw = true ↔ h < -5000 ∨ 80000 < h))
    ∧ (∀ (skew : Int) (gain uMax : Nat), ∃ u, Nearest (skew * gain) 256 u
        ∧ trimOf skew gain uMax = (if u < -(uMax : Int) then -(uMax : Int) else if (uMax : Int) < u then (uMax : Int) else u)
        ∧ trimOf (-skew) gain uMax = -trimOf skew gain uMax)
    ∧ ∀ (s : State) (l : LimitRecord) (r : SpanRecord) (skew : Int),
      let gain := match s.span.correction with
        | .acquire => r.gainAcquire
        | .track => r.gainTrack
      let u := trimOf skew gain l.uMax
      ((u - s.span.lastTrim).natAbs < r.deadband ∨ u = s.span.lastTrim → s.trimStage l r skew = s)
        ∧ (r.deadband ≤ (u - s.span.lastTrim).natAbs → u ≠ s.span.lastTrim →
          s.trimStage l r skew =
            (s.setField
              { s.field with
                trimA := some { node := r.a.hoist, cls := r.trim, arg := -u }
                trimB := some { node := r.b.hoist, cls := r.trim, arg := u } }).setSpan
              { s.span with lastTrim := u })

/-- 06:R102: in INIT, and while the limit record is absent, an encoder update takes no action, and none without a span record
(R95). R102 to R104, R107, R108, R109: an encoder update within the window of the other tower's latest update forms a
pair: it writes points 112 to 116 and the basis of the next speed, whatever the motion state; a skew above the trip is
the cause SKEW TRIP; the level indicator follows. A span at rest moves nothing else; the stages of motion, and in
STOPPING the standstill test, follow (PairStagesAct). -/
def Obligations.PairIsFormed : Prop :=
  (∀ (s : State) (x : Tower) (raw : Nat) (time : Time),
    s.unit.mode = .init ∨ s.unit.limits = none ∨ s.span.record = none → s.encoderUpdate x raw time = s)
  ∧ ∀ (s : State) (l : LimitRecord) (r : SpanRecord) (x : Tower) (raw : Nat) (time : Time) (u : Update),
    s.unit.limits = some l → s.span.record = some r → s.unit.mode ≠ .init → EncodersInField s →
    (s.span.tower x.other).latest = some u → WithinWindow l time u → WatchesPass s r x raw time →
      PairTaken (s.setSpan (Updated s.span r x raw time)) (s.encoderUpdate x raw time) l r x ((r.tower x).height raw) time u
        (s.span.motion == .stopping)

/-- The stages of a pair, 06:R102 stage 6: outside RAISING and LOWERING none is taken. R110: the correction mode goes
to TRACK after N_trk pairs within E_trk and back above X_trk. R112, 09:R166: the speed-band counter of |v| counts,
unless frozen. R117: the second pair in a row above the zone's limit stops the motion with OVERSPEED. R99: a pair at
the arrival height begins STOPPING with kind ARRIVAL, and no alert. R100: the third pair in a row at standstill ends
STOPPING. -/
def Obligations.PairStagesAct : Prop :=
  ∀ (s : State) (l : LimitRecord) (r : SpanRecord) (skew mean v : Int),
    s.unit.limits = some l → s.span.record = some r →
    (¬Moving s → s.motionStages l r skew mean v = s)
      ∧ (Moving s →
        let b := (s.correctionStage l skew).bandStage r v
        let c := b.overspeedStage l mean v
        (¬Moving c → s.motionStages l r skew mean v = c)
          ∧ (Moving c → ¬Moving (c.arrivalStage r mean) → s.motionStages l r skew mean v = c.arrivalStage r mean)
          ∧ (Moving (c.arrivalStage r mean) →
            s.motionStages l r skew mean v = (c.arrivalStage r mean).trimStage l r skew))
      ∧ (let t := s.correctionStage l skew
        let run := min (s.span.trackRun + 1) 15
        (s.span.correction = .acquire →
            (l.eTrk < skew.natAbs → t = s.setSpan { s.span with trackRun := 0 })
              ∧ (skew.natAbs ≤ l.eTrk → run < l.nTrk → t = s.setSpan { s.span with trackRun := run })
              ∧ (skew.natAbs ≤ l.eTrk → l.nTrk ≤ run →
                PointWritten (s.setSpan { s.span with trackRun := run, correction := .track }) t 118 1))
          ∧ (s.span.correction = .track → (skew.natAbs ≤ l.xTrk → t = s)
            ∧ (l.xTrk < skew.natAbs →
              PointWritten (s.setSpan { s.span with trackRun := 0, correction := .acquire }) t 118 0)))
      ∧ (r.b1 ≤ r.b2 → r.b2 ≤ r.b3 → r.b3 ≤ r.b4 →
        let t := s.bandStage r v
        (r.b4 < v.natAbs ∨ s.duty.frozen = true → t = s)
          ∧ ∀ n, InBand r v n → s.duty.frozen = false →
            t = s.setDuty { s.duty with bands := put s.duty.bands n (min (look s.duty.bands n 0 + 1) 4294967295) })
      ∧ (let t := s.overspeedStage l mean v
        (v.natAbs ≤ ZoneLimit l mean → t = s.setSpan { s.span with overspeedRun := 0 })
          ∧ (ZoneLimit l mean < v.natAbs → s.span.overspeedRun = 0 → t = s.setSpan { s.span with overspeedRun := 1 })
          ∧ (ZoneLimit l mean < v.natAbs → 1 ≤ s.span.overspeedRun → Moving s →
            MotionStopped (s.setSpan { s.span with overspeedRun := 2 }) t l r .overspeed))
      ∧ (let t := s.arrivalStage r mean
        (¬Arrives r s.span.motion mean → t = s)
          ∧ (Arrives r s.span.motion mean →
            PointWritten
              ((s.setField
                { s.field with
                  trimA := none, trimB := none
                  stopA := some { node := r.a.hoist, cls := r.stop, arg := 0 }
                  stopB := some { node := r.b.hoist, cls := r.stop, arg := 0 } }).setSpan
                { s.span with
                  motion := .stopping, stopKind := some .arrival, standstillRun := 0, startWindow := none
                  stopTimer := some (s.now + BitVec.ofNat 32 (l.stopLimit * 1000)) }) t 119 3))
      ∧ let t := s.standstillStage r v
        let ended := fun m => { s.span with motion := m, standstillRun := 3, stopTimer := none, stopKind := none }
        (s.span.motion ≠ .stopping → t = s)
          ∧ (s.span.motion = .stopping → r.standstill < v.natAbs → t = s.setSpan { s.span with standstillRun := 0 })
          ∧ (s.span.motion = .stopping → v.natAbs ≤ r.standstill → s.span.standstillRun < 2 →
            t = s.setSpan { s.span with standstillRun := s.span.standstillRun + 1 })
          ∧ (s.span.motion = .stopping → v.natAbs ≤ r.standstill → 2 ≤ s.span.standstillRun →
            (s.span.stopKind = some .arrival → PointWritten (s.setSpan (ended .idle)) t 119 0)
              ∧ (s.span.stopKind = some .fault → PointWritten (s.setSpan (ended .stopped)) t 119 4))

/-- 06:R105: an update without a partner is a pair miss; at the miss limit pair loss is announced once, and a motion
stops with SKEW UNKNOWN. R106: an encoder point that leaves FRESH unlevels the indicator and stops a motion, but in INIT, and while the limit
record is absent, it changes nothing. R102,
R103, R116: stage 4 of an encoder update, after its height write, stops a motion with HEIGHT RANGE for a saturated height,
else with ENCODER STALL for a run of unchanged updates after the grace; the update is then paired, or is a pair miss, all
the same. R118: the third failed trim of a hoist in a row is TRIM LOST. R101: a stop that fails on the link is
the cause STOP FAILED. -/
def Obligations.LossesStopTheMotion : Prop :=
  (∀ s : State, s.unit.mode = .init ∨ s.unit.limits = none → s.encoderLost = s)
  ∧ ∀ (s : State) (l : LimitRecord) (r : SpanRecord),
    s.unit.limits = some l → s.span.record = some r → EncodersInField s →
    (∀ x raw time, s.unit.mode ≠ .init →
        (∀ u, (s.span.tower x.other).latest = some u →
          l.window < (time - u.time).toNat ∧ l.window < (u.time - time).toNat) →
        WatchesPass s r x raw time →
        ∃ u, PointsMoved (s.setSpan (Updated s.span r x raw time)) u s.points.firstPair s.points.pairLoss
          ∧ SpanPoints s u (HeightValues s x ((r.tower x).height raw)) ∧ s.encoderUpdate x raw time = u.pairMiss l)
      ∧ (let n := min (s.span.pairMisses + 1) 255
        let u := (s.setSpan { s.span with pairMisses := n }).occur .pairMiss
        (n < l.missLimit → s.pairMiss l = u)
          ∧ (l.missLimit ≤ n → ∃ p w, (s.span.pairLost = true → w = u)
            ∧ (s.span.pairLost = false →
              PointsMoved (u.setSpan { u.span with pairLost := true }) p s.points.firstPair true
                ∧ SpanPoints s p (fun n => (s.point n).value) ∧ LevelSet p w (Unlevelled p.span))
            ∧ (¬Moving s → s.pairMiss l = w) ∧ (Moving s → MotionStopped w (s.pairMiss l) l r .skewUnknown)))
      ∧ (∀ (before : State) (x : Tower), let was := (before.point (r.tower x).encoder).freshness
        let is := (s.point (r.tower x).encoder).freshness
        (was ≠ .fresh ∨ is = .fresh → s.encoderLoss before r x = s)
          ∧ (was = .fresh → is ≠ .fresh → s.encoderLoss before r x = s.encoderLost))
      ∧ (s.unit.mode ≠ .init → ∃ w, LevelSet s w (Unlevelled s.span)
        ∧ (¬Moving s → s.encoderLost = w) ∧ (Moving s → MotionStopped w s.encoderLost l r .skewUnknown))
      ∧ (∀ x raw time c, s.unit.mode ≠ .init → WatchStops s r x raw time c →
        let h := (r.tower x).height raw
        let t := s.encoderUpdate x raw time
        ∃ u v, PointsMoved (s.setSpan (Updated s.span r x raw time)) u s.points.firstPair s.points.pairLoss
          ∧ SpanPoints s u (HeightValues s x h) ∧ MotionStopped u v l r c
          ∧ ((∀ w, (s.span.tower x.other).latest = some w → ¬WithinWindow l time w) → t = v.pairMiss l)
          ∧ ∀ w, (s.span.tower x.other).latest = some w → WithinWindow l time w → PairTaken v t l r x h time w false)
      ∧ (∀ x raw time, s.unit.mode ≠ .init → Moving s → (r.tower x).outOfRange raw = true →
        let t := s.encoderUpdate x raw time
        (t.span.motion = .stopping ∨ t.span.motion = .stopped)
          ∧ t.field.stopA = some { node := r.a.hoist, cls := r.stop, arg := 0 }
          ∧ t.field.stopB = some { node := r.b.hoist, cls := r.stop, arg := 0 }
          ∧ ReportsAround s.console t.console 21 [2, 0, 7])
      ∧ (∀ x, let t := s.stallWatch r x
        let stalls := ∃ t0, s.span.motionStart = some t0 ∧ r.stallGrace ≤ (s.now - t0).toNat
          ∧ r.stallLimit ≤ (s.span.tower x).unchanged
        (¬stalls → t = s)
          ∧ (stalls → Moving s →
            MotionStopped s t l r (if x = .a then .encoderStallA else .encoderStallB)))
      ∧ (∀ x y, let t := s.trimOutcome x y
        let counted := fun n => s.setSpan (s.span.setTower x { s.span.tower x with trimLoss := n })
        let n := (s.span.tower x).trimLoss
        (¬Moving s ∨ (y ≠ .done ∧ ¬FailedOnLink y) → t = s) ∧ (Moving s → y = .done → t = counted 0)
          ∧ (Moving s → FailedOnLink y → n < 2 → t = counted (n + 1))
          ∧ (Moving s → FailedOnLink y → 2 ≤ n → MotionStopped (counted 3) t l r .trimLost))
      ∧ ∀ y, (¬FailedOnLink y → s.stopOutcome y = s) ∧ (FailedOnLink y → Latches s (s.stopOutcome y) .stopFailed)

/-- 06:R113, R114: the first START DONE at rest begins the motion with its start window and its two watches; in INIT
and with a cause latched it is no start, and with no limit record it stops both hoists with START FAILED. A second one
ends the window when it is the other hoist's in the same direction, stops the motion when it opposes it, and in
STOPPING stops its hoist again. A DONE that is no hoist START changes nothing. That point 119 is written before point
118, and the alert of START FAILED before its event, is the model's (log 8). -/
def Obligations.StartsAreSupervised : Prop :=
  ∀ (s : State) (node cls : Nat),
    ((∀ x up, ¬IsStart s node cls x up) → s.startDone node cls = s)
      ∧ ∀ r x up, s.span.record = some r → IsStart s node cls x up →
        let t := s.startDone node cls
        let stop := fun h : TowerRecord => some { node := h.hoist, cls := r.stop, arg := (0 : Int) : SlotOrder }
        let resting := s.span.motion = .idle ∨ s.span.motion = .stopped
        (resting → s.unit.mode = .init ∨ s.unit.causes ≠ CauseSet.empty → t = s)
          ∧ (resting → s.unit.mode ≠ .init → s.unit.causes = CauseSet.empty → s.unit.limits = none →
            t = ((s.setField { s.field with stopA := stop r.a, stopB := stop r.b }).alert
              (.motionStop .startFailed)).occur (.motionStop .startFailed))
          ∧ (∀ l, resting → s.unit.mode ≠ .init → s.unit.causes = CauseSet.empty → s.unit.limits = some l →
            let n : Int := if up then 1 else 2
            let began := { s.span with
              motion := if up then .raising else .lowering, correction := .acquire, trackRun := 0, lastTrim := 0
              previous := none, overspeedRun := 0
              towerA := { s.span.towerA with unchanged := 0, trimLoss := 0 }
              towerB := { s.span.towerB with unchanged := 0, trimLoss := 0 }
              motionStart := some s.now
              startWindow := some { hoist := x, up := up, expiry := s.now + BitVec.ofNat 32 r.startWindow } }
            ∃ u w, PointWritten (s.setSpan { began with correction := s.span.correction }) u 119 n
              ∧ PointWritten (u.setSpan began) w 118 0
              ∧ ((s.point 125).value ≠ 0 → SkewKnown s r → t = w)
              ∧ ((s.point 125).value = 0 → MotionStopped w t l r .holdLapse)
              ∧ ((s.point 125).value ≠ 0 → ¬SkewKnown s r → MotionStopped w t l r .skewUnknown))
          ∧ (s.span.motion = (if up then .raising else .lowering) →
            (∀ w, s.span.startWindow = some w → w.hoist ≠ x → t = s.setSpan { s.span with startWindow := none })
              ∧ ((∀ w, s.span.startWindow = some w → w.hoist = x) → t = s))
          ∧ (∀ l, s.span.motion = (if up then .lowering else .raising) → s.unit.limits = some l →
            MotionStopped s t l r .startFailed)
          ∧ (s.span.motion = .stopping → t = s.setField (match x with
            | .a => { s.field with stopA := stop r.a }
            | .b => { s.field with stopB := stop r.b }))

/-- 06:R98, R101, R114, R115, R131: a MOTION HOLD restarts the hold timer and sets point 125; its expiry clears point
125 and, in motion, stops the motion with HOLD LAPSE; the expiry of the start window stops it with START FAILED;
either halts the crossing in phases 5, 8 and 9; that of the stop timer in STOPPING latches STOP FAILED. -/
def Obligations.SpanTimersAct : Prop :=
  ∀ s : State, s.power = .running → s.points.gather = none →
    (∀ a rest, s.console.arrivals = a :: rest → a.frame.kind = 3 →
        ∃ t, exec .motionHold s = .next t
          ∧ PointWritten ((s.setConsole { s.console with arrivals := rest }).setSpan
            { s.span with lastHold := some a.time, holdRunning := true }) t 125 1)
      ∧ (∀ h ms, s.span.holdRunning = true → s.span.lastHold = some h → HoldInterval s ms →
        ((s.now - h).toNat ≤ ms → exec .holdTimerExpiry s = .next s)
          ∧ (ms < (s.now - h).toNat → s.span.motion ≠ .raising → s.span.motion ≠ .lowering →
            ∃ t, exec .holdTimerExpiry s = .next t
              ∧ PointWritten (s.setSpan { s.span with holdRunning := false }) t 125 0)
          ∧ (∀ l r, ms < (s.now - h).toNat → s.span.motion = .raising ∨ s.span.motion = .lowering →
            s.unit.limits = some l → s.span.record = some r →
            ∃ u t, exec .holdTimerExpiry s = .next t
              ∧ PointWritten (s.setSpan { s.span with holdRunning := false }) u 125 0
              ∧ MotionStopped u t l r .holdLapse))
      ∧ (∀ w l r, s.span.startWindow = some w → s.span.motion = .raising ∨ s.span.motion = .lowering →
        s.unit.limits = some l → s.span.record = some r →
        (due s.now w.expiry = false → exec .startWindowExpiry s = .next s)
          ∧ (due s.now w.expiry = true →
            ∃ t, exec .startWindowExpiry s = .next t ∧ MotionStopped s t l r .startFailed))
      ∧ ∀ e, s.span.stopTimer = some e → s.span.motion = .stopping →
        (due s.now e = false → exec .stopTimerExpiry s = .next s)
          ∧ (due s.now e = true → s.unit.causes = CauseSet.empty →
            ∃ t, exec .stopTimerExpiry s = .next t
              ∧ StandsDown (s.setSpan { s.span with stopTimer := none }) t .stopFailed)
          ∧ (due s.now e = true → s.unit.causes ≠ CauseSet.empty →
            exec .stopTimerExpiry s = .next (LatchedBeside (s.setSpan { s.span with stopTimer := none }) .stopFailed))

/-! ### The Crossing Sequencer (07_the_crossing_programme) -/

/-- 07:R125, R126, R128, R129: a condition change set, and the end of the dwell, make the advance test: a phase that is
not ready stays; a ready one advances to its successor, with every entry that the event brings, in the model's order
(log 8) and within its bound (log 27). Before the end of the dwell (log 3), and with none running, DWELL_EXPIRY changes
nothing. The last two clauses say what an entry with a dwell, and with no entry order or
one, leaves. -/
def Obligations.AdvanceNeedsAReadyPhase : Prop :=
  (∀ s : State, (∀ e, s.seq.dwell = .running e → due s.now e = false) → exec .dwellExpiry s = .next s)
  ∧ ∀ (s u : State) (c : Instr), s.power = .running →
    (c = .advanceTest ∧ (∃ k, s.seq.sets = k + 1 ∧ u = s.setSeq { s.seq with sets := k }))
      ∨ (c = .dwellExpiry ∧ (∃ e, s.seq.dwell = .running e ∧ due s.now e = true)
        ∧ u = s.setSeq { s.seq with dwell := .elapsed }) →
      (∃ t, exec c s = .next t ∧ t = u.advanceTest ∧ Advances u t)
        ∧ ∀ p e, PhaseReady u → (u.seq.phase, p) ∈ successors u.seq.recovery → s.points.gather = none →
          s.unit.maintenancePending = false →
          (HasEntry u p e [] → ∃ t, exec c s = .next t ∧ Enters u t p .advance e)
            ∧ ∀ o n pm, HasEntry u p e [o] → OwnPasses u o.node o.cls o.arg n pm → p ≠ .channelOpen →
              p ≠ .channelClosing →
              ∃ t, exec c s = .next t ∧ PhaseHanded u t p .advance ∧ t.seq = EnteredPhase u t p e [.awaiting]
                ∧ t.gate =
                  { u.gate with
                    own := u.gate.own ++ [OwnRecord (.sequencer (u.seq.serial + 1) 0) o.node o.cls o.arg n pm]
                    sets := t.gate.sets }

/-- 07:R125, R126, R128, 08:R149, R152: the entry into a working phase from any state: its timers and places, the phase
change, what the Channel Controller does at phases 6 and 7, the change to MAINTENANCE where that is pending, the offers
and the advance test, with the entries that follow in the event; and the advance test of every state. That a run of
entries is followed to its end rests on its length, which the model bounds beyond reach (log 27); that the channel acts
before the mode does, and the ORDER OUTCOME of a refusal comes before the fault, is the model's (log 8). -/
def Obligations.EntriesRunOn : Prop :=
  (∀ (s : State) (p : Phase) (cause : PhaseCause), Working p → EntersPhase s (s.enter p cause) p cause)
    ∧ ∀ s : State, Advances s s.advanceTest

/-- 07:R127: the result of an entry order acts only while its entry is the present one: DONE completes its place and
makes the advance test, a failure on the field link or a REVOKED faults the phase with ENTRY FAILED, and CANCELLED
marks its place. R126: the entry orders of a phase are offered in listed order, and one that is refused at admission
faults the phase with ENTRY REFUSED, and those after it are not offered. That the ORDER OUTCOME of the refusal comes
before the fault is the model's (log 8). -/
def Obligations.EntryOrdersEnd : Prop :=
  (∀ (s : State) (serial : BitVec 16) (place : Nat) (x : Result),
      let t := s.entryResult serial place x
      let placed := fun p => s.setSeq { s.seq with tracking := s.seq.tracking.set place p }
      (serial ≠ s.seq.serial ∨ ¬Working s.seq.phase → t = s)
        ∧ (serial = s.seq.serial → Working s.seq.phase →
          (x = .cancelled → t = placed .cancelled)
            ∧ (FailedOnLink x ∨ x = .revoked → Faults s t .entryFailed
              ∧ (s.points.gather = none → s.unit.maintenancePending = false → Halts s t .entryFailed))
            ∧ (x = .done → t = (placed .done).advanceTest ∧ Advances (placed .done) t)
            ∧ ∀ p e, x = .done → PhaseReady (placed .done) → (s.seq.phase, p) ∈ successors s.seq.recovery →
              HasEntry s p e [] → s.points.gather = none → s.unit.maintenancePending = false →
              Enters (placed .done) t p .advance e))
    ∧ ∀ (s : State) (p : Phase),
      (look s.seq.table p.num none = none → s.offerPhase p = s)
        ∧ ∀ e, look s.seq.table p.num none = some e →
          EntriesOffered s.seq.serial 0 e.orders s (s.offerPhase p)
            ∧ ∀ o rest x, e.orders = o :: rest → Working s.seq.phase → s.points.gather = none →
              s.unit.maintenancePending = false → OwnRefused s o.node o.cls o.arg x →
              Halts (s.occur (.orderOutcome o.node x)) (s.offerPhase p) .entryRefused

/-- 07:R129, R130, R132, R135: the phase limit, a stand-down entry and HALT halt a working phase, which HALTED
remembers; outside the working phases they change nothing more; before the phase limit (log 3), and with none running, its
timer changes nothing; HALT is refused outside SERVICE and in phase 0, and
also stops a motion (06:R119). 07:R141, 10:R172: with maintenance pending, the change into HALTED, and that into phase 0,
begins MAINTENANCE in the same event, with the close of the channel; the entry orders of phase 0 are then not offered.
That the sequencer is INACTIVE before the close is the model's (log 8), and a close holds its choices (logs 8, 10
and 11, as CloseOrdersRed says). -/
def Obligations.PhaseFaultsHaltTheCrossing : Prop :=
  ∀ s : State, s.power = .running → s.points.gather = none →
    (∀ cause, Faults s (s.phaseFault cause) cause)
      ∧ ((∀ e, s.seq.limit = some e → due s.now e = false) → exec .phaseLimitExpiry s = .next s)
      ∧ (∀ e, s.seq.limit = some e → due s.now e = true →
        exec .phaseLimitExpiry s = .next ((s.setSeq { s.seq with limit := none }).phaseFault .limit))
      ∧ (∀ k, s.seq.standdowns = k + 1 →
        exec .sequencerStanddown s = .next ((s.setSeq { s.seq with standdowns := k }).phaseFault .standdown))
      ∧ (∀ f rest, Serves s f rest → Request f 17 1 → s.unit.mode = .service → Working s.seq.phase →
        s.seq.phase ≠ .roadOpen →
        exec .haltRequest s = .next (((responded s f rest 0 0 []).phaseFault .haltRequest).motionStop .haltRequest))
      ∧ MaintenanceBegun s s.enterMaintenance
      ∧ (s.unit.maintenancePending = false →
      (∀ e, s.seq.limit = some e → due s.now e = true → Working s.seq.phase →
          ∃ t, exec .phaseLimitExpiry s = .next t ∧ Halts s t .limit)
        ∧ (∀ k, s.seq.standdowns = k + 1 → Working s.seq.phase →
          ∃ t, exec .sequencerStanddown s = .next t ∧ Halts (s.setSeq { s.seq with standdowns := k }) t .standdown)
        ∧ (∀ k, s.seq.standdowns = k + 1 → ¬Working s.seq.phase →
          exec .sequencerStanddown s = .next (s.setSeq { s.seq with standdowns := k }))
        ∧ ∀ f rest, Serves s f rest → Request f 17 1 →
          (s.unit.mode ≠ .service → Denies .haltRequest s f rest 1)
            ∧ (s.unit.mode = .service → ¬Working s.seq.phase ∨ s.seq.phase = .roadOpen → Denies .haltRequest s f rest 2)
            ∧ (s.unit.mode = .service → Working s.seq.phase → s.seq.phase ≠ .roadOpen →
              ∃ v, Halts (responded s f rest 0 0 []) v .haltRequest
                ∧ (s.span.motion ≠ .raising → s.span.motion ≠ .lowering → exec .haltRequest s = .next v)
                ∧ ∀ l r, s.span.motion = .raising ∨ s.span.motion = .lowering → s.unit.limits = some l →
                  s.span.record = some r → ∃ t, exec .haltRequest s = .next t ∧ StopsMotion v t l r .haltRequest))
      ∧ (s.unit.maintenancePending = true → s.unit.mode = .service →
        let maintained := fun t : State =>
          t.unit.mode = .maintenance ∧ t.unit.maintenancePending = false ∧ (t.point 123).value = 1
            ∧ (t.point 120).value = 13 ∧ t.chan.phaseSeen = .inactive
        (∀ e, s.seq.limit = some e → due s.now e = true → Working s.seq.phase →
            ∃ t, exec .phaseLimitExpiry s = .next t ∧ maintained t ∧ t.seq = InactiveSequencer s t)
          ∧ ∀ k, s.seq.sets = k + 1 → s.seq.phase = .roadRelease → PhaseReady s →
            ∃ t, exec .advanceTest s = .next t ∧ maintained t
              ∧ t.seq = { InactiveSequencer s t with serial := s.seq.serial + 1 }
              ∧ ∀ r ∈ t.gate.own, r ∈ s.gate.own ∨ ∃ d, r.origin = .channel d .red)

/-- 07:R133, R134, R136 to R138: the sequence requests are refused outside SERVICE and outside their phase; OPEN and
CLOSE are recorded and advance a ready phase; RESUME enters the interrupted phase, REVERSE the one its table gives,
and RECOVER phase 2 with the recovery flag set, after the close of the channel. A close judges its step 4 by the flags as
step 3 leaves them (log 11), also without a channel record (log 10), and the RED of the north signal comes first
(log 8). -/
def Obligations.SequenceRequestsAreJudged : Prop :=
  ∀ (s : State) (f : Frame) (rest : List Frame), Serves s f rest → s.points.gather = none →
      let calm := s.unit.maintenancePending = false
      let u := responded s f rest 0 0 []
      (∀ c code, (c, code) ∈ [(Instr.openRequest, 15), (.closeRequest, 16), (.resumeRequest, 18), (.reverseRequest, 19),
            (.recoverRequest, 20)] → Request f code 1 → s.unit.mode ≠ .service → Denies c s f rest 1)
        ∧ (∀ c code p x, (c, code, p, x) ∈ [(Instr.openRequest, 15, Phase.roadOpen, RequestRecord.openRequest),
              (.closeRequest, 16, .channelOpen, .closeRequest)] → Request f code 1 → s.unit.mode = .service →
          let v := u.setSeq { s.seq with request := x }
          (s.seq.phase ≠ p → Denies c s f rest 2)
            ∧ (s.seq.phase = p → (∃ t, exec c s = .next t ∧ t = v.advanceTest ∧ Advances v t)
              ∧ (¬PhaseReady v → exec c s = .next v))
            ∧ (∀ q e, s.seq.phase = p → PhaseReady v → (p, q) ∈ successors s.seq.recovery → HasEntry s q e [] → calm →
              ∃ t, exec c s = .next t ∧ Enters v t q .advance e))
        ∧ (∀ c code cause (map : Phase → Option Phase),
          (c = .resumeRequest ∧ code = 18 ∧ cause = .resume ∧ map = some)
            ∨ (c = .reverseRequest ∧ code = 19 ∧ cause = .reverse
              ∧ ∀ p q, (p, q) ∈ reversals → map p = some q) →
          Request f code 1 → s.unit.mode = .service →
          (s.seq.phase ≠ .halted ∨ s.unit.causes ≠ CauseSet.empty ∨ s.seq.interrupted = none
              ∨ s.seq.interrupted = some .unknown → Denies c s f rest 2)
            ∧ (c = .reverseRequest → s.seq.interrupted = some (.phase .roadOpen) → Denies c s f rest 2)
            ∧ ∀ p q, s.seq.phase = .halted → s.seq.interrupted = some (.phase p) → Working p →
              s.unit.causes = CauseSet.empty → (c = .reverseRequest → p ≠ .roadOpen) → map p = some q →
              ∃ t, exec c s = .next t ∧ EntersPhase u t q cause
                ∧ ∀ e, HasEntry s q e [] → calm → Enters u t q cause e)
        ∧ (Request f 20 1 → s.unit.mode = .service →
          (¬(s.seq.phase = .halted ∧ s.seq.interrupted = some .unknown) → Denies .recoverRequest s f rest 2)
            ∧ (s.seq.phase = .halted → s.seq.interrupted = some .unknown →
              let v := u.setSeq { s.seq with recovery := true }
              ∃ w t, exec .recoverRequest s = .next t ∧ Closes v w ∧ EntersPhase (ChannelDone v w) t .entryGates .recover)
            ∧ ∀ e, s.seq.phase = .halted → s.seq.interrupted = some .unknown → HasEntry s .entryGates e [] → calm →
              ∃ t, exec .recoverRequest s = .next t
                ∧ t.seq = EnteredPhase (u.setSeq { s.seq with recovery := true }) t .entryGates e []
                ∧ t.unit.mode = .service
                ∧ (s.chan.phaseSeen ≠ .channelOpen →
                  t.chan.vessels = s.chan.vessels.map (fun v => { v with cleared := false })
                    ∧ t.chan.greenTimer = none ∧ t.chan.changeoverTimer = none ∧ t.chan.retryTimer = none
                    ∧ ((∀ d, WantsRed (s.chan.signal d) = false) → t.chan.state = .closed ∧ t.chan.closing = false)
                    ∧ ((∃ d, WantsRed (s.chan.signal d) = true) →
                      t.chan.state = s.chan.state ∧ t.chan.closing = true)))

/-! ### The Channel Controller (08_vessel_calls_and_the_channel_signals) -/

/-- 08:R149, R151, R153: the results of the Channel Controller's own orders. A GREEN that is DONE opens the channel,
unless a closing is in progress; one that fails is alerted, starts the retry timer, and is followed by a RED where its
frame may have reached the signal. A RED that is DONE is wanted no more and completes a changeover (that of the open
direction, log 28); one that was CANCELLED is offered again while it is wanted; any other is the cause CHANNEL SIGNAL.
The order of an alert, or of the ORDER OUTCOME of a refusal, against the rest is the model's (log 8). -/
def Obligations.OwnSignalOrdersEnd : Prop :=
  ∀ (s : State) (d : Direction) (x : Result),
    let dropped := fun k => s.setChan
      (s.chan.setSignal d { s.chan.signal d with outstanding := (s.chan.signal d).outstanding.erase k })
    let wants := fun (u : State) b => u.setChan (u.chan.setSignal d { u.chan.signal d with redWanted := b })
    (let u := dropped .green
      let t := s.greenResult d x
      (x = .cancelled ∨ (x = .done ∧ s.chan.closing = true) → t = u)
        ∧ (∀ r, x = .done → s.chan.closing = false → s.chan.record = some r →
          PointWritten (u.setChan
            { u.chan with
              vessels := s.chan.vessels.map fun v => if v.direction = d then { v with cleared := true } else v
              greenTimer := some (s.now + BitVec.ofNat 32 (r.greenLimit * 1000)), greenExpired := false
              changeoverTimer := none, state := ChannelState.green d }) t 127 d.num)
        ∧ (x ≠ .done → x ≠ .cancelled → GreenFails u t d x))
      ∧ let u := dropped .red
        let t := s.redResult d x
        let changes := s.chan.changeoverPending = true ∧ s.chan.state = ChannelState.green d
        (x = .done → ¬changes → t = wants u false)
          ∧ (∀ r, x = .done → changes → s.chan.record = some r →
            PointWritten ((wants u false).setChan
              { (wants u false).chan with
                changeoverPending := false, greenTimer := none, greenExpired := false
                changeoverTimer := some (s.now + BitVec.ofNat 32 (r.changeover * 1000)), state := .changeover }) t 127 3)
          ∧ (x = .cancelled → (s.chan.signal d).redWanted = false → t = u)
          ∧ (x = .cancelled → (s.chan.signal d).redWanted = true → RedOffered u t d)
          ∧ (x ≠ .done → x ≠ .cancelled → Latches (wants u false) t .channelSignal)

/-- 08:R145: a signal order that passes the re-check becomes the memory of its signal, PENDING, and its final result
settles it; a GREEN whose opposite signal is not RED DONE is REVOKED with detail 255, and an order with a required
condition that is not TRUE with the lowest of them (05:R89). 05:R90, R93; 07:R127; 08:R149, R153: the final result of a
kept order, of the console, the sequencer or the channel, reaches its originator; the order of ORDER RESULT, the memory
tests and ORDER OUTCOME is the model's (log 8). R152: with both memories RED DONE a closing ends CLOSED. R154: the change
into SERVICE wants both REDs and offers them, north first. R151: with the last CLEARED vessel of the open direction gone
and one of the other waiting, a changeover begins with a RED. -/
def Obligations.SignalMemoriesAndReds : Prop :=
  ∀ s : State,
    let known := fun d => (s.chan.signal d).memory = some { kind := .red, result := .done }
    (∀ r d, IsSignal s r.node r.cls d → AllTrue s r.required →
        (r.arg ≠ 1 ∨ known d.opposite →
            s.takeOrder r = .settled ((s.setChan (s.chan.setSignal d
              { s.chan.signal d with
                memory := some
                  { kind := if r.arg = 0 then .red else if r.arg = 1 then .green else .other
                    result := .pending } })).setField
              (Begun { s.field with credit := min (s.field.credit + 1) 3 } (.order { r with memory := some d }) r.node
                r.cls r.arg)))
          ∧ (r.arg = 1 → ¬known d.opposite → s.takeOrder r = .again (ResultGiven s r .revoked 255 false)))
      ∧ (∀ r c, LowestFailing s r.required c → s.takeOrder r = .again (ResultGiven s r .revoked c false))
      ∧ (∀ r x d m, r.memory = some d → (s.chan.signal d).memory = some m →
        (m.result = .pending → s.settleMemory r x = s.setChan (s.chan.setSignal d
            { s.chan.signal d with memory := some { m with result := if x = .done then .done else .notDone } }))
          ∧ (m.result ≠ .pending → s.settleMemory r x = s))
      ∧ (∀ r x detail sent, s.finalResult r x detail sent = ResultGiven s r x detail sent)
      ∧ (let closes := s.chan.closing = true ∧ (∀ d, known d) ∧ ∀ d, SignalKind.green ∉ (s.chan.signal d).outstanding
        (¬closes → s.closingCheck = s)
          ∧ (closes → PointWritten (s.setChan { s.chan with closing := false, state := .closed }) s.closingCheck 127 0))
      ∧ (∃ w, RedOfferedOnce (s.setChan
            { s.chan with
              north := { s.chan.north with redWanted := true }
              south := { s.chan.south with redWanted := true } }) w .north
          ∧ RedOfferedOnce w s.channelService .south)
      ∧ let starts := fun d => s.chan.state = ChannelState.green d ∧ s.chan.changeoverPending = false
            ∧ s.chan.closing = false ∧ (∀ v ∈ s.chan.vessels, v.direction = d → v.cleared = false)
            ∧ ∃ v ∈ s.chan.vessels, v.direction = d.opposite ∧ v.cleared = false
        ((∀ d, ¬starts d) → s.changeoverTest = s)
          ∧ ∀ d, starts d →
            RedOffered (s.setChan
              (({ s.chan with changeoverPending := true } : Channel).setSignal d
                { s.chan.signal d with redWanted := true })) s.changeoverTest d

/-- 08:R149 to R151: the opening test offers a GREEN to the direction of the oldest waiting vessel, which in CLOSED is the
head of the queue, when the channel may open, and nothing otherwise. The green limit marks the GREEN expired; after a
changeover the oldest waiting vessel gets a GREEN, or the channel is CLOSED; after the retry time the opening test is
made; before its time (log 3), or while it does not run, each of the three timers changes nothing; a passage removes the
oldest CLEARED vessel of its direction, or is unexpected. At a change of the channel state the
advance test is made, and the opening test where it became CLOSED (07:R128). That the event of a passage comes after the
points it changes, and the advance test before the opening test, is the model's (log 8). -/
def Obligations.ChannelTimersAndPassages : Prop :=
  (∀ s : State, ((∀ d, ¬MayOpen s d) → s.openingTest = s) ∧ ∀ d, MayOpen s d → GreenOffered s s.openingTest d)
  ∧ (∀ s : State,
    let early := fun timer : Option Time => ∀ e, timer = some e → due s.now e = false
    (early s.chan.greenTimer → exec .greenTimerExpiry s = .next s)
      ∧ (early s.chan.changeoverTimer → exec .changeoverTimerExpiry s = .next s)
      ∧ (early s.chan.retryTimer → exec .retryTimerExpiry s = .next s))
  ∧ ∀ s : State, s.power = .running → s.points.gather = none →
    (∀ e, s.chan.greenTimer = some e → due s.now e = true →
        exec .greenTimerExpiry s = .next (s.setChan { s.chan with greenTimer := none, greenExpired := true }))
      ∧ (∀ e, s.chan.changeoverTimer = some e → due s.now e = true →
        let u := s.setChan { s.chan with changeoverTimer := none }
        ∃ v, exec .changeoverTimerExpiry s = .next (ChannelDone u v)
          ∧ (NoneWaits s.chan.vessels → PointWritten (u.setChan { u.chan with state := .closed }) v 127 0)
          ∧ ∀ pre w post, s.chan.vessels = pre ++ w :: post → NoneWaits pre → w.cleared = false →
            GreenOffered u v w.direction)
      ∧ (∀ e, s.chan.retryTimer = some e → due s.now e = true →
        let u := s.setChan { s.chan with retryTimer := none }
        exec .retryTimerExpiry s = .next u.openingTest)
      ∧ ∀ set sets r, s.chan.sets = set :: sets → s.chan.record = some r →
        let u := s.setChan { s.chan with sets := sets }
        let passes := fun d => (r.passage d, true) ∈ set
        ((∀ d, ¬passes d) → exec .passage s = .next u)
          ∧ (∀ d, passes d → ¬passes d.opposite → ∃ t, exec .passage s = .next t ∧ Passes u t d)
          ∧ (passes .north → passes .south → ∃ v t, exec .passage s = .next t ∧ Passes u v .north ∧ Passes v t .south)

/-- 08:R152: a close withdraws every clearance and timer, wants RED of each signal that does not show it, and offers
it unless one is outstanding; with RED wanted of neither the channel is CLOSED at once, else the closing is in
progress. A stand-down entry makes one, and where it makes the channel CLOSED the advance test and the opening test
follow. That the north signal comes first, and the advance test before the opening test, is the model's (log 8); so is
the judging of step 4 by the flags as step 3 leaves them (log 11). That a close offers its REDs in every mode, also before
the first entry to SERVICE (log 12), and that an absent record bars only the offers (log 10), are the model's readings. -/
def Obligations.CloseOrdersRed : Prop :=
  ∀ s : State, s.points.gather = none →
    Closes s s.close
      ∧ ∀ k, s.power = .running → s.chan.standdowns = k + 1 →
        let u := s.setChan { s.chan with standdowns := k }
        ∃ v t, exec .channelStanddownClose s = .next t ∧ Closes u v ∧ t = ChannelDone u v
          ∧ (s.seq.dwell ≠ .elapsed → s.chan.phaseSeen ≠ .channelOpen → t = v)

/-- 08:R147: a vessel call is ignored outside SERVICE and with a bad direction byte, each counted, and for a tag that
stands in the queue; it is alerted when the queue is full, and joins otherwise. 03:R52: a CALL point offers one when
its value changes to a nonzero tag. 08:R146, R148: VESSEL ADD joins a new tag at the tail, changes nothing for a tag
that stands in the queue, and is refused for a full queue, which it reports; VESSEL REMOVE takes the entry with its tag
out; after each join and each removal the opening test and the changeover test are made. That point 121 is written before
point 122 is the model's (log 8). -/
def Obligations.VesselsJoinAndLeave : Prop :=
  (∀ (s : State) (before : State) (n : Nat) (e : PointEntry),
      let p := s.point n
      (e.width ≠ .call ∨ p.value = 0 ∨ p.value = (before.point n).value → s.offerCall before (n, e) = s)
        ∧ (e.width = .call → p.value ≠ 0 → p.value ≠ (before.point n).value →
          s.offerCall before (n, e) = s.vesselCall p.value.toNat p.direction))
    ∧ (∀ (s : State) (tag byte : Nat), s.points.gather = none →
      let t := s.vesselCall tag byte
      (s.unit.mode ≠ .service →
          t = s.setChan { s.chan with ignoredCalls := min (s.chan.ignoredCalls + 1) 65535 })
        ∧ (s.unit.mode = .service → byte ≠ 1 → byte ≠ 2 →
          t = s.setChan { s.chan with badDirections := min (s.chan.badDirections + 1) 65535 })
        ∧ ∀ d : Direction, s.unit.mode = .service → byte = d.num →
          ((∃ v ∈ s.chan.vessels, v.tag = tag) → t = s)
            ∧ ((∀ v ∈ s.chan.vessels, v.tag ≠ tag) → 8 ≤ s.chan.vessels.length → t = s.alert (.vesselQueueFull tag))
            ∧ ((∀ v ∈ s.chan.vessels, v.tag ≠ tag) → s.chan.vessels.length < 8 →
              VesselsTested s t (QueueJoined s tag d)))
    ∧ ∀ (s : State) (f : Frame) (rest : List Frame), Serves s f rest → s.points.gather = none →
    let u := responded s f rest 0 0 []
    let tag := u16 f.payload 1
    (Request f 21 4 →
        (s.unit.mode ≠ .service → Denies .vesselAdd s f rest 1)
          ∧ (s.unit.mode = .service → tag = 0 ∨ (u8 f.payload 3 ≠ 1 ∧ u8 f.payload 3 ≠ 2) → Denies .vesselAdd s f rest 5)
          ∧ ∀ d : Direction, s.unit.mode = .service → tag ≠ 0 → u8 f.payload 3 = d.num →
            ((∃ v ∈ s.chan.vessels, v.tag = tag) → exec .vesselAdd s = .next u)
              ∧ ((∀ v ∈ s.chan.vessels, v.tag ≠ tag) → 8 ≤ s.chan.vessels.length →
                exec .vesselAdd s = .next ((responded s f rest 7 0 []).alert (.vesselQueueFull tag)))
              ∧ ((∀ v ∈ s.chan.vessels, v.tag ≠ tag) → s.chan.vessels.length < 8 →
                ∃ t, exec .vesselAdd s = .next t ∧ VesselsTested u t (QueueJoined s tag d)))
      ∧ (Request f 22 3 →
        ((∀ v ∈ s.chan.vessels, v.tag ≠ tag) → Denies .vesselRemove s f rest 8)
          ∧ ∀ pre v post, s.chan.vessels = pre ++ v :: post → v.tag = tag → (∀ w ∈ pre, w.tag ≠ tag) →
            ∃ t, exec .vesselRemove s = .next t ∧ VesselsTested u t (pre ++ post))

/-! ### Modes and resets (10_modes_stand_down_and_the_safety_chain) -/

/-- 10:R170: a hardwired input follows its raw line only when that has stood at the other level for 20 ms: ESTOP and the key
change nothing before, nor while their raw line is not away from the filtered level (what the key does after the 20 ms is
KeyAndServiceChangeTheMode). ESTOP that is asserted is the cause ESTOP LINE, and its release leaves the cause set. That the time counts in controller
milliseconds is the model's (log 30), and so is that a raw level changes in every state of the supply, while the controller
is held in reset or unpowered too (log 17, log 21). -/
def Obligations.HardwiredLinesAreFiltered : Prop :=
  (∀ (s : State) (level : LineLevel),
      let since := fun f : FilteredLine =>
        if s.power = .running ∧ decide (level = .low) ≠ f.active then some s.now else none
      (exec (.rawLineChange .estop level) s = .next (s.setUnit
          { s.unit with
            estop := if s.unit.estop.raw = level then s.unit.estop
              else { s.unit.estop with raw := level, since := since s.unit.estop } }))
        ∧ exec (.rawLineChange .maintKey level) s = .next (s.setUnit
          { s.unit with
            key := if s.unit.key.raw = level then s.unit.key
              else { s.unit.key with raw := level, since := since s.unit.key } }))
    ∧ (∀ (s : State) (t0 : Time), s.power = .running → s.points.gather = none → s.unit.estop.since = some t0 →
      ((s.now - t0).toNat < 20 → exec .estopAsserted s = .next s ∧ exec .estopReleased s = .next s)
        ∧ (20 ≤ (s.now - t0).toNat →
          (s.unit.estop.raw = .high → s.unit.estop.active = true →
            exec .estopReleased s =
              .next (s.setUnit { s.unit with estop := { raw := .high, active := false, since := none } }))
            ∧ (s.unit.estop.raw = .low → s.unit.estop.active = false →
              let u := s.setUnit { s.unit with estop := { raw := .low, active := true, since := none } }
              (s.unit.causes = CauseSet.empty →
                  ∃ t, exec .estopAsserted s = .next t ∧ StandsDown u t .estopLine)
                ∧ (s.unit.causes ≠ CauseSet.empty → exec .estopAsserted s = .next (LatchedBeside u .estopLine)))))
    ∧ ∀ s : State,
      let early := fun f : FilteredLine => ∀ t0, f.since = some t0 → (s.now - t0).toNat < 20
      (early s.unit.estop → exec .estopAsserted s = .next s ∧ exec .estopReleased s = .next s)
        ∧ (early s.unit.key → exec .maintKeyOn s = .next s ∧ exec .maintKeyOff s = .next s)

/-- 10:R171 to R174, 07:R139 to R141: the key and START SERVICE change the mode: on in INIT begins MAINTENANCE, on in
SERVICE waits for phase 0 or HALTED; off in MAINTENANCE, and START SERVICE in INIT, validate and begin SERVICE, or
name the first check that fails, which the key's failure also reports. The validation makes its seven checks in order,
and its outcome is the first that fails, or a pass (R174). The change into SERVICE adopts a phase and then offers the
REDs; that from SERVICE makes the sequencer INACTIVE and then closes the channel: the orders of both, and of the alert of
the key's failure after the change to INIT, are the model's (log 8), and a close is as CloseOrdersRed says (logs 10 and
11). A failed START SERVICE holding its outcome is the model's reading (log 36). -/
def Obligations.KeyAndServiceChangeTheMode : Prop :=
  (∀ s : State, (∀ n, s.failingCheck = some n ↔ FirstFailing s n) ∧ (s.failingCheck = none ↔ Validates s)
    ∧ s.validated = s.setUnit
      { s.unit with
        validation := match s.failingCheck with
          | some n => .failed n
          | none => .pass })
  ∧ ∀ s : State, s.power = .running → s.points.gather = none →
    (∀ t0, s.unit.key.since = some t0 → 20 ≤ (s.now - t0).toNat →
        let on := s.setUnit { s.unit with key := { raw := .low, active := true, since := none } }
        let off := s.setUnit { s.unit with key := { raw := .high, active := false, since := none } }
        (s.unit.key.raw = .low → s.unit.key.active = false →
            (s.unit.mode = .init → ∃ t, exec .maintKeyOn s = .next t
                ∧ PointWritten (on.setUnit
                  { on.unit with
                    mode := .maintenance, chain := decide (s.unit.causes = CauseSet.empty), maintenancePending := false })
                  t 123 1)
              ∧ (s.unit.mode = .service → s.seq.phase ≠ .roadOpen → s.seq.phase ≠ .halted →
                exec .maintKeyOn s =
                  .next ((on.setUnit { on.unit with maintenancePending := true }).alert .maintenancePending))
              ∧ (s.unit.mode = .service → s.seq.phase = .roadOpen ∨ s.seq.phase = .halted →
                ∃ t, exec .maintKeyOn s = .next t ∧ MaintenanceBegun on t
                  ∧ t.unit.mode = .maintenance ∧ t.unit.maintenancePending = false
                  ∧ t.seq = InactiveSequencer s t ∧ t.chan.phaseSeen = .inactive
                  ∧ (t.point 123).value = 1 ∧ (t.point 120).value = 13))
          ∧ (s.unit.key.raw = .high → s.unit.key.active = true →
            (s.unit.mode = .init → exec .maintKeyOff s = .next off)
              ∧ (s.unit.mode = .service →
                exec .maintKeyOff s = .next (off.setUnit { off.unit with maintenancePending := false }))
              ∧ (∀ n, s.unit.mode = .maintenance → FirstFailing s n →
                ∃ t, exec .maintKeyOff s = .next t
                  ∧ t.unit = { off.unit with
                      mode := .init, chain := false, maintenancePending := false
                      validation := .failed n }
                  ∧ t.span.motion = .stopped ∧ t.field = { s.field with trimA := none, trimB := none }
                  ∧ (t.point 123).value = 0 ∧ (t.point 119).value = 4 ∧ t.seq = { s.seq with sets := t.seq.sets }
                  ∧ ReportsAround s.console t.console 21 [10, 0, BitVec.ofNat 8 n]
                  ∧ ∃ a b, PointWritten (s.setUnit t.unit) a 123 0
                    ∧ PointWritten (a.setSpan (StoodDown s.span)) b 119 4
                    ∧ t = (b.setField { b.field with trimA := none, trimB := none }).setConsole
                      (b.console.offer 21 [10, 0, BitVec.ofNat 8 n]))
              ∧ (s.unit.mode = .maintenance → Validates s →
                ∃ t, exec .maintKeyOff s = .next t
                  ∧ EntersService (off.setUnit { off.unit with validation := .pass }) t
                  ∧ ∀ e c, HasEntry s .roadOpen e [] → e.proof = some c → ServiceBegun s t e c)))
      ∧ ∀ f rest, Serves s f rest → Request f 24 1 →
        (s.unit.mode ≠ .init ∨ s.unit.key.active = true → Denies .startService s f rest 1)
          ∧ (∀ n, s.unit.mode = .init → s.unit.key.active = false → FirstFailing s n →
            exec .startService s =
              .next ((responded s f rest 9 n []).setUnit { s.unit with validation := .failed n }))
          ∧ (s.unit.mode = .init → s.unit.key.active = false → Validates s →
            let u := responded s f rest 0 0 []
            ∃ t, exec .startService s = .next t ∧ EntersService (u.setUnit { u.unit with validation := .pass }) t
              ∧ ∀ e c, HasEntry s .roadOpen e [] → e.proof = some c → ServiceBegun s t e c)

/-- 10:R180 to R182 and each block's reset rule (01:R18, 02:R41, 03:R56, 04:R72, 05:R94, 06:R121, 07:R142, 08:R155,
09:R168): what the resets and a loss of supply leave; tables survive a warm reset. The model's choices: the commands
that wait are kept, and what a held controller takes (log 21); WARM_RESET by RESTART does nothing before the response
is sent (log 22); a reset evaluates every present condition, then samples ESTOP, then the key (log 23); the raw lines are
kept and stand high in State.reset (log 17); the lines of both links stand at mark after a reset (log 31); a loss of
supply clears every block at once (log 36). -/
def Obligations.ResetsLeaveTheirState : Prop :=
  ∀ s : State,
    let cleared :=
      { ModeChain.reset with
        estop := { raw := s.unit.estop.raw, active := false, since := none }
        key := { raw := s.unit.key.raw, active := false, since := none } }
    (∃ t, exec .powerOnReset s = .next t ∧ EndsReset { State.reset with pending := s.pending, unit := cleared } t)
      ∧ (s.unit.estop.raw = .high → s.unit.key.raw = .high →
        exec .powerOnReset s = .next { State.reset with pending := s.pending })
      ∧ (s.unit.estop.raw = .low → s.unit.key.raw = .high →
        ∃ t, exec .powerOnReset s = .next t
          ∧ StandsDown { State.reset with
              pending := s.pending
              unit := { ModeChain.reset with estop := { raw := .low, active := true, since := none } } } t .estopLine)
      ∧ (s.unit.estop.raw = .high → s.unit.key.raw = .low →
        ∃ t, exec .powerOnReset s = .next t
          ∧ PointWritten { State.reset with
              pending := s.pending
              unit :=
                { ModeChain.reset with
                  mode := .maintenance, chain := true, key := { raw := .low, active := true, since := none } } } t 123 1)
      ∧ exec .supplyLoss s = .next { State.reset with power := .unpowered, pending := s.pending, unit := cleared }
      ∧ (s.power = .running → s.console.restart ≠ .sent → exec (.warmReset .restart) s = .next s)
      ∧ (s.power = .running →
        ∃ u, exec (.warmReset .resetLine) s = .next (u.setPower .heldInReset)
          ∧ u = { State.reset with
            pending := s.pending
            field :=
              { Field.reset with
                scanList := s.field.scanList, replyTimeout := s.field.replyTimeout, silentLimit := s.field.silentLimit }
            points := { PointImage.reset with map := s.points.map }
            cond := { Conditions.reset with table := s.cond.table }
            gate := { Gate.reset with permits := s.gate.permits }
            span := { Span.reset with record := s.span.record }
            seq := { Sequencer.reset with table := s.seq.table }
            chan := { Channel.reset with record := s.chan.record }
            duty :=
              { Duty.reset with
                counters := u.duty.counters, frozen := s.duty.frozen, bands := s.duty.bands
                residency := s.duty.residency }
            unit := { cleared with limits := s.unit.limits } }
          ∧ (∀ k, k < 8 →
            let c := look s.duty.counters k DutyCounter.reset
            let c' := look u.duty.counters k DutyCounter.reset
            c' = { c with levelHeld := c'.levelHeld }
              ∧ ∀ r, c.record = some r → (c'.levelHeld = true ↔ r.event = .phaseEntry ∧ r.filter = some 13))
          ∧ (s.console.restart = .sent → ∃ t, exec (.warmReset .restart) s = .next t ∧ EndsReset u t))
      ∧ (s.power = .heldInReset →
        ∃ t, exec .resetLineReleased s = .next t ∧ EndsReset { s with power := .running, now := 0 } t)
      ∧ (s.power ≠ .heldInReset → exec .resetLineReleased s = .next s)

/-! ### Management requests (11_management_requests) -/

/-- 11:R183, R184: every WRITE ENTRY and CLEAR ENTRY is judged in one order: its size, its entry number, the mode, the
owner's state, each with its refusal, which changes nothing but the response. That a request which names no table is
refused by any of the rows is the model's (log 13). The size of a CLEAR ENTRY is judged for every table, that of a WRITE
ENTRY only where it names one of the eight. -/
def Obligations.TableRequestsAreJudgedInOrder : Prop :=
  ∀ (s : State) (f : Frame) (rest : List Frame), Serves s f rest → f.kind = 2 →
    (∀ c t n, (c, t, n) ∈ writeRows → u8 f.payload 0 = 1 → u8 f.payload 1 = t →
        let fits := 3 ≤ f.payload.length ∧ ContentsFit t (f.payload.drop 3)
        (¬fits → Denies c s f rest 5)
          ∧ (fits → n ≤ u8 f.payload 2 → Denies c s f rest 4)
          ∧ (fits → u8 f.payload 2 < n → s.unit.mode ≠ .maintenance → Denies c s f rest 1)
          ∧ (fits → u8 f.payload 2 < n → OwnerForbids s t → Denies c s f rest 1))
      ∧ (∀ c t n, (c, t, n) ∈ clearRows → u8 f.payload 0 = 2 → u8 f.payload 1 = t →
        (f.payload.length ≠ 3 → Denies c s f rest 5)
          ∧ (f.payload.length = 3 → n ≤ u8 f.payload 2 → Denies c s f rest 4)
          ∧ (f.payload.length = 3 → u8 f.payload 2 < n → s.unit.mode ≠ .maintenance → Denies c s f rest 1)
          ∧ (f.payload.length = 3 → u8 f.payload 2 < n → OwnerForbids s t → Denies c s f rest 1))
      ∧ (∀ c t n, (c, t, n) ∈ writeRows → u8 f.payload 0 = 1 → u8 f.payload 1 = 0 ∨ 8 < u8 f.payload 1 →
        2 ≤ f.payload.length → Denies c s f rest 3)
      ∧ ∀ c t n, (c, t, n) ∈ clearRows → u8 f.payload 0 = 2 → u8 f.payload 1 = 0 ∨ 8 < u8 f.payload 1 →
        (f.payload.length = 3 → Denies c s f rest 3) ∧ (f.payload.length ≠ 3 → Denies c s f rest 5)

/-- 11:R184 with the owners' rules 02:R34, 03:R43, 04:R71, 05:R74, 06:R96, 07:R123, 08:R143, 09:R157: contents that
break a range are refused RANGE; else the entry is written, or cleared, with the effects of its owner, and no other
table changes. A rewrite of a map entry also settles points 112 to 116 and reaches the Span Supervisor where its encoder
point leaves FRESH (03:R50, R55, 06:R106); one of the span record settles those points (03:R55). That a control record
written under a freeze is tested against its threshold is the model's reading (log 14), and the settling before the
encoder losses, tower A first, its order (log 8). -/
def Obligations.TableRequestsTakeEffect : Prop :=
  ∀ (s : State) (f : Frame) (rest : List Frame) (n : Nat), Serves s f rest → s.points.gather = none →
    let b := f.payload.drop 3
    let u := responded s f rest 0 0 []
    let writes := fun t entries => TableRequest s f 1 t n entries ∧ ContentsFit t b
    let clears := fun t entries => TableRequest s f 2 t n entries ∧ f.payload.length = 3
    let rewrites := fun {α : Type} (w c : Instr) (t entries : Nat) (read : Option α) (effect : Option α → State → Prop) =>
      (writes t entries → read = none → Denies w s f rest 5)
        ∧ (∀ x, writes t entries → read = some x → ∃ v, exec w s = .next v ∧ effect (some x) v)
        ∧ (clears t entries → ∃ v, exec c s = .next v ∧ effect none v)
    rewrites .writeEntryPointMap .clearEntryPointMap 1 112 (readPointEntry b) (fun x v =>
        (∃ w, w = u.setPoints
            { s.points with
              map := put s.points.map n x, points := put s.points.points n Point.first
              gather := some (if (s.point n).value = 0 ∧ (s.point n).freshness = .never then [] else [n]) }
            ∧ PointsRaised (EncodersFollow s w) v)
          ∧ SameTables (s.setPoints { s.points with map := put s.points.map n x }) v ∧ v.point n = Point.first
          ∧ ∀ m, m < 112 → m ≠ n → v.point m = s.point m)
      ∧ rewrites .writeEntryCondition .clearEntryCondition 2 64 (readCondition n b) (fun x v => v = u.writeCondition n x)
      ∧ rewrites .writeEntryPermit .clearEntryPermit 3 96 (readPermit b) (fun x v =>
        v = u.setGate { s.gate with permits := put s.gate.permits n x })
      ∧ rewrites .writeEntryScanList .clearEntryScanList 4 32 (readScanSlot b) (fun x v =>
        v = u.setField { s.field with scanList := put s.field.scanList n x })
      ∧ rewrites .writeEntryPhase .clearEntryPhase 5 12 (readPhase n b) (fun x v =>
        v = u.setSeq { s.seq with table := put s.seq.table n x })
      ∧ rewrites .writeEntryCounterControl .clearEntryCounterControl 6 8 (readCounterControl b) (fun x v =>
        let c := look s.duty.counters n DutyCounter.reset
        let c' := look v.duty.counters n DutyCounter.reset
        v = ((u.setDuty v.duty).setConsole v.console).setCond
            { s.cond with counterChanges := s.cond.counterChanges ++ [n] }
          ∧ v.duty = { s.duty with counters := put s.duty.counters n c', frozen := v.duty.frozen }
          ∧ c'.record = x ∧ c'.value = c.value ∧ c'.overflow = c.overflow
          ∧ (∀ r, x = some r → c'.levelHeld = s.duty.level r
            ∧ (c'.reached = true ↔ c.reached = true ∨ r.threshold ≤ c.value)
            ∧ (v.duty.frozen = true ↔ s.duty.frozen = true
              ∨ r.action = .freeze ∧ c.reached = false ∧ r.threshold ≤ c.value)
            ∧ v.console = if c.reached = false ∧ r.threshold ≤ c.value ∧ r.action ≠ .none then
                u.console.offer 21 [7, 0, BitVec.ofNat 8 n] else u.console)
          ∧ (x = none → c'.reached = c.reached ∧ v.duty.frozen = s.duty.frozen ∧ v.console = u.console))
      ∧ rewrites .writeEntrySpanRecord .clearEntrySpanRecord 7 1 (readSpanRecord b) (fun x v =>
        PointsMoved (u.setSpan
            { s.span with
              record := x, previous := none
              towerA := { s.span.towerA with latest := none, unchanged := 0 }
              towerB := { s.span.towerB with latest := none, unchanged := 0 } }) v s.points.firstPair s.points.pairLoss
          ∧ SpanPoints s v (fun m => (s.point m).value))
      ∧ rewrites .writeEntryChannelRecord .clearEntryChannelRecord 8 1 (readChannelRecord b) (fun x v =>
        v = u.setChan { s.chan with record := x, north := v.chan.north, south := v.chan.south }
          ∧ MemoryKept s.chan.north v.chan.north
            (∃ old new, s.chan.record = some old ∧ x = some new ∧ old.northNode = new.northNode)
          ∧ MemoryKept s.chan.south v.chan.south
            (∃ old new, s.chan.record = some old ∧ x = some new ∧ old.southNode = new.southNode))

/-- 11:R183, R185 to R187: a read answers with its data in the layout of 01, section 1.10, and changes nothing else,
but that READ STATUS clears the level-change count; a read out of range, and a request code that names no request, are
refused. 04:R70: READ ENTRY of a condition adds its state and the time a proving has still to run; that this time is 0
once it has run out is the model's (log 25), and so are the codes of the scan modes in READ STATUS (log 19) and the 0 that
an unused constant of a term reads back as (log 20). -/
def Obligations.ReadsAnswerAndChangeNothing : Prop :=
  ∀ (s : State) (f : Frame) (rest : List Frame), Serves s f rest → f.kind = 2 →
    let first := u8 f.payload 1
    let count := u8 f.payload 2
    let answers := fun c (fields : Fields) => exec c s = .next (responded s f rest 0 0 (laid fields))
    let within := fun lo past : Nat => lo ≤ first ∧ 1 ≤ count ∧ count ≤ 8 ∧ first + count ≤ past
    (u8 f.payload 0 = 0 ∨ 25 < u8 f.payload 0 → Denies .unknownRequest s f rest 5)
      ∧ (∀ c code n, (c, code, n) ∈ readRows → u8 f.payload 0 = code → f.payload.length ≠ n → Denies c s f rest 5)
      ∧ (Request f 3 3 →
        ((first = 0 ∨ 8 < first) → Denies .readEntry s f rest 3)
          ∧ (1 ≤ first → first ≤ 8 → entriesOf first ≤ count → Denies .readEntry s f rest 4)
          ∧ (1 ≤ first → first ≤ 8 → count < entriesOf first → answers .readEntry (entryFields s first count)))
      ∧ (Request f 5 1 → answers .readLimits
        (presentFields limitFields s.unit.limits ++ [(1, flagField s.unit.locked)]))
      ∧ (Request f 6 3 →
        (within 0 128 → answers .readPoints ((List.range count).flatMap fun i => pointFields (s.point (first + i))))
          ∧ (¬within 0 128 → Denies .readPoints s f rest 5))
      ∧ (Request f 7 1 → exec .readStatus s =
        .next ((responded s f rest 0 0 (laid (statusFields s))).setSpan { s.span with levelChanges := 0 }))
      ∧ (Request f 8 3 →
        (within 1 101 → answers .readNodes ((List.range count).flatMap fun i => nodeFields (nodeRecord s.field (first + i))))
          ∧ (¬within 1 101 → Denies .readNodes s f rest 5))
      ∧ (Request f 9 1 → answers .readCounters
        ((List.range 8).flatMap (fun k => counterFields (look s.duty.counters k DutyCounter.reset))
          ++ [(1, flagField s.duty.frozen)] ++ (List.range 4).map fun k => ((4, (look s.duty.bands k 0 : Nat)) : Nat × Int)))
      ∧ (Request f 10 1 → answers .readResidency ((List.range 14).map fun p => (6, (look s.duty.residency p 0).toNat)))
      ∧ (Request f 11 1 → answers .readVessels
        (([(1, s.chan.vessels.length)] : Fields) ++ s.chan.vessels.flatMap vesselFields
          ++ ([(2, s.chan.ignoredCalls), (2, s.chan.badDirections), (2, s.chan.unexpectedPassages)] : Fields)))

/-- 01:R14, 10:R181: with 24 frames in the egress queue, and from an accepted RESTART on, no frame is served: every row that
serves one leaves the state as it is. 11:R183: a request of codes 4 and 12 to 25 whose payload is not exactly its fields is refused RANGE, before its owner
is asked. 09:R163, R164, 10:R175, R178, R179, R181, 11:R188: the actions. WRITE LIMITS locks, COUNTER CLEAR zeroes, UNFREEZE
thaws, SCAN CONTROL sets the scan mode and the two field settings, CLEAR STANDDOWN removes the causes whose test
passes, RESTART waits for its response (log 22). That COUNTER CLEAR and SCAN CONTROL judge the mode before their fields is
the model's order (log 41). -/
def Obligations.ActionsTakeEffect : Prop :=
  (∀ (s : State) (c : Instr), s.console.restart ≠ .none ∨ 24 ≤ s.console.egress.length ∨ s.console.ingress = [] →
    c ∈ servingRows → exec c s = .next s)
  ∧ ∀ (s : State) (f : Frame) (rest : List Frame), Serves s f rest → s.points.gather = none →
    let u := responded s f rest 0 0 []
    (∀ c code n, (c, code, n) ∈ sizedRows → f.kind = 2 → u8 f.payload 0 = code → f.payload.length ≠ n →
        Denies c s f rest 5)
      ∧ (Request f 4 43 →
        (s.unit.mode ≠ .maintenance ∨ s.span.motion = .raising ∨ s.span.motion = .lowering ∨ s.span.motion = .stopping →
          Denies .writeLimits s f rest 1)
          ∧ (s.unit.mode = .maintenance → s.span.motion = .idle ∨ s.span.motion = .stopped →
            (s.unit.locked = true → Denies .writeLimits s f rest 6)
              ∧ (s.unit.locked = false → readLimitRecord (f.payload.drop 1) = none → Denies .writeLimits s f rest 5)
              ∧ ∀ l, s.unit.locked = false → readLimitRecord (f.payload.drop 1) = some l →
                exec .writeLimits s = .next (u.setUnit { s.unit with limits := some l, locked := true })))
      ∧ (Request f 12 2 →
        (s.unit.mode ≠ .maintenance → Denies .counterClear s f rest 1)
          ∧ (s.unit.mode = .maintenance → 7 < u8 f.payload 1 → u8 f.payload 1 ≠ 255 → Denies .counterClear s f rest 5)
          ∧ (s.unit.mode = .maintenance → u8 f.payload 1 ≤ 7 ∨ u8 f.payload 1 = 255 →
            let named := fun k => u8 f.payload 1 = k ∨ u8 f.payload 1 = 255
            ∃ t, exec .counterClear s = .next t
              ∧ t = ((u.setDuty t.duty).setConsole t.console).setCond t.cond
              ∧ ClearHandsOn u t (fun k => u8 f.payload 1 = k ∨ u8 f.payload 1 = 255)
              ∧ t.duty = { s.duty with counters := t.duty.counters, frozen := t.duty.frozen, bands := t.duty.bands }
              ∧ (t.duty.frozen = true ↔ s.duty.frozen = true ∨ ∃ k r, k < 8 ∧ named k
                ∧ (look s.duty.counters k DutyCounter.reset).record = some r ∧ r.threshold = 0 ∧ r.action = .freeze)
              ∧ (∀ i, i < 4 → look t.duty.bands i 0 = if u8 f.payload 1 = 255 then 0 else look s.duty.bands i 0)
              ∧ ∀ k, k < 8 →
                let c := look s.duty.counters k DutyCounter.reset
                let c' := look t.duty.counters k DutyCounter.reset
                (¬named k → c' = c)
                  ∧ (named k → c' = { c with
                    value := 0, overflow := false
                    reached := match c.record with
                      | some r => decide (r.threshold = 0)
                      | none => false })))
      ∧ (Request f 13 1 → exec .unfreeze s = .next (u.setDuty { s.duty with frozen := false }))
      ∧ (Request f 14 4 →
        (s.unit.mode ≠ .maintenance → Denies .scanControl s f rest 1)
          ∧ (s.unit.mode = .maintenance →
            let ok := 2 ≤ u8 f.payload 2 ∧ u8 f.payload 2 ≤ 50 ∧ 1 ≤ u8 f.payload 3 ∧ u8 f.payload 3 ≤ 7
            let set := fun g : Field =>
              u.setField { g with replyTimeout := u8 f.payload 2, silentLimit := u8 f.payload 3 }
            (3 < u8 f.payload 1 ∨ ¬ok → Denies .scanControl s f rest 5)
              ∧ (ok → u8 f.payload 1 = 0 → exec .scanControl s = .next (set s.field))
              ∧ (ok → u8 f.payload 1 = 1 → exec .scanControl s = .next (set { s.field with scanMode := .continuous }))
              ∧ (ok → u8 f.payload 1 = 2 →
                exec .scanControl s = .next (set { s.field with scanMode := .single, sweep := 0 }))
              ∧ (ok → u8 f.payload 1 = 3 → exec .scanControl s = .next (set { s.field with scanMode := .stopped }))))
      ∧ (Request f 23 1 →
        ∃ left : CauseSet,
          (left.estopLine = true ↔ s.unit.causes.estopLine = true ∧ s.unit.estop.active = true)
            ∧ (left.consoleBreak = true ↔ s.unit.causes.consoleBreak = true ∧ s.console.line = .broken)
            ∧ (left.skewTrip = true ↔ s.unit.causes.skewTrip = true ∧ ¬∃ k l, s.span.lastSkew = some k
              ∧ s.unit.limits = some l ∧ k.natAbs ≤ l.aSkew)
            ∧ (left.stopFailed = true ↔ s.unit.causes.stopFailed = true ∧ s.unit.mode ≠ .maintenance)
            ∧ (left.fieldContention = true ↔ s.unit.causes.fieldContention = true ∧ s.field.contention ≠ 0)
            ∧ (left.channelSignal = true ↔ s.unit.causes.channelSignal = true
              ∧ ¬∀ d, (s.chan.signal d).memory = some { kind := .red, result := .done })
            ∧ (let v := responded s f rest 0 0 [byte left.mask]
              (left ≠ CauseSet.empty ∨ s.unit.causes = CauseSet.empty →
                exec .clearStanddown s = .next (v.setUnit
                  { s.unit with
                    causes := left, chain := decide (s.unit.mode ≠ .init) && decide (left = CauseSet.empty) }))
                ∧ (left = CauseSet.empty → s.unit.causes ≠ CauseSet.empty →
                  ∃ t, exec .clearStanddown s = .next t
                    ∧ PointWritten (v.setUnit
                      { s.unit with
                        causes := left, firstCause := none, chain := decide (s.unit.mode ≠ .init) }) t 124 0)))
      ∧ (Request f 25 1 →
        (s.unit.mode = .service → Denies .restartRequest s f rest 1)
          ∧ (s.unit.mode ≠ .service →
            exec .restartRequest s = .next (u.setConsole { u.console with restart := .waiting })))

/-- 11:R184 with 02:R34, 03:R43, 04:R58, 05:R74, 06:R96, 07:R123, 08:R143, 09:R157, 10:R175: contents that are read as
an entry or record hold fields within the ranges of its owner, and hold nothing but that entry or record, laid out as
01, section 1.10 has it. (A constant that the operator of a POINT TEST does not use is not examined.) That a set reserved
bit of the permit flags, of the outcome mask or of the mask constant of IN SET, and a nonzero operator of a term that is no
POINT TEST, is out of range is the model's reading of that section (log 20). -/
def Obligations.AcceptedContentsLieInRange : Prop :=
  ∀ b : List Byte,
    (∀ e, ContentsFit 1 b → readPointEntry b = some e → PointEntryRange e ∧ laid (mapFields e) = b)
      ∧ (∀ n e, ContentsFit 2 b → readCondition n b = some e →
        CondEntryRange n e ∧ (laid (condFields e)).length = b.length
          ∧ ∀ i, i < 4 ∨ ConstantUsed b (4 + (i - 4) / 11 * 11) ((i - 4) % 11) → (laid (condFields e))[i]? = b[i]?)
      ∧ (∀ p, ContentsFit 3 b → readPermit b = some p → PermitRange p ∧ laid (permitFields p) = b)
      ∧ (∀ x, ContentsFit 4 b → readScanSlot b = some x → ScanSlotRange x ∧ laid (slotFields x) = b)
      ∧ (∀ p e, ContentsFit 5 b → readPhase p b = some e → PhaseEntryRange p e ∧ laid (phaseFields e) = b)
      ∧ (∀ r, ContentsFit 6 b → readCounterControl b = some r → DutyRecordRange r ∧ laid (controlFields r) = b)
      ∧ (∀ r, ContentsFit 7 b → readSpanRecord b = some r → SpanRecordRange r ∧ laid (spanFields r) = b)
      ∧ (∀ r, ContentsFit 8 b → readChannelRecord b = some r → ChannelRecordRange r ∧ laid (channelFields r) = b)
      ∧ ∀ l, b.length = 42 → readLimitRecord b = some l → LimitRecordRange l ∧ laid (limitFields l) = b

/-- The layouts of 01, section 1.10 agree with the reading: every entry and record whose fields lie in the ranges of
its owner (02:R34, 03:R43, 04:R58, 05:R74, 06:R96, 07:R123, 08:R143, 09:R157, 10:R175) is read, and reads back as
itself, from the bytes in which READ ENTRY and READ LIMITS lay it out, and those bytes have the size of a write. -/
def Obligations.EntriesReadBackAsLaidOut : Prop :=
  (∀ e, PointEntryRange e → readPointEntry (laid (mapFields e)) = some e ∧ ContentsFit 1 (laid (mapFields e)))
    ∧ (∀ n e, n < 64 → CondEntryRange n e →
      readCondition n (laid (condFields e)) = some e ∧ ContentsFit 2 (laid (condFields e)))
    ∧ (∀ p, PermitRange p → readPermit (laid (permitFields p)) = some p ∧ ContentsFit 3 (laid (permitFields p)))
    ∧ (∀ x, ScanSlotRange x → readScanSlot (laid (slotFields x)) = some x ∧ ContentsFit 4 (laid (slotFields x)))
    ∧ (∀ p e, PhaseEntryRange p e → readPhase p (laid (phaseFields e)) = some e ∧ ContentsFit 5 (laid (phaseFields e)))
    ∧ (∀ r, DutyRecordRange r →
      readCounterControl (laid (controlFields r)) = some r ∧ ContentsFit 6 (laid (controlFields r)))
    ∧ (∀ r, SpanRecordRange r → readSpanRecord (laid (spanFields r)) = some r ∧ ContentsFit 7 (laid (spanFields r)))
    ∧ (∀ r, ChannelRecordRange r →
      readChannelRecord (laid (channelFields r)) = some r ∧ ContentsFit 8 (laid (channelFields r)))
    ∧ ∀ l, LimitRecordRange l →
      readLimitRecord (laid (limitFields l)) = some l ∧ (laid (limitFields l)).length = 42
end

