-- ==== Sys2Proof/Laws/State.lean ====
section
/-! SUPPORT. One lemma per field per block update of State, true by rfl. -/

namespace Sys2Proof.Machine

/-! ### setPower -/

@[simp] theorem State.setPower_power (s : State) (x : Power) : (s.setPower x).power = x := rfl
@[simp] theorem State.setPower_now (s : State) (x : Power) : (s.setPower x).now = s.now := rfl
@[simp] theorem State.setPower_console (s : State) (x : Power) : (s.setPower x).console = s.console := rfl
@[simp] theorem State.setPower_field (s : State) (x : Power) : (s.setPower x).field = s.field := rfl
@[simp] theorem State.setPower_points (s : State) (x : Power) : (s.setPower x).points = s.points := rfl
@[simp] theorem State.setPower_cond (s : State) (x : Power) : (s.setPower x).cond = s.cond := rfl
@[simp] theorem State.setPower_gate (s : State) (x : Power) : (s.setPower x).gate = s.gate := rfl
@[simp] theorem State.setPower_span (s : State) (x : Power) : (s.setPower x).span = s.span := rfl
@[simp] theorem State.setPower_seq (s : State) (x : Power) : (s.setPower x).seq = s.seq := rfl
@[simp] theorem State.setPower_chan (s : State) (x : Power) : (s.setPower x).chan = s.chan := rfl
@[simp] theorem State.setPower_duty (s : State) (x : Power) : (s.setPower x).duty = s.duty := rfl
@[simp] theorem State.setPower_unit (s : State) (x : Power) : (s.setPower x).unit = s.unit := rfl
@[simp] theorem State.setPower_pending (s : State) (x : Power) : (s.setPower x).pending = s.pending := rfl

/-! ### setNow -/

@[simp] theorem State.setNow_power (s : State) (x : Time) : (s.setNow x).power = s.power := rfl
@[simp] theorem State.setNow_now (s : State) (x : Time) : (s.setNow x).now = x := rfl
@[simp] theorem State.setNow_console (s : State) (x : Time) : (s.setNow x).console = s.console := rfl
@[simp] theorem State.setNow_field (s : State) (x : Time) : (s.setNow x).field = s.field := rfl
@[simp] theorem State.setNow_points (s : State) (x : Time) : (s.setNow x).points = s.points := rfl
@[simp] theorem State.setNow_cond (s : State) (x : Time) : (s.setNow x).cond = s.cond := rfl
@[simp] theorem State.setNow_gate (s : State) (x : Time) : (s.setNow x).gate = s.gate := rfl
@[simp] theorem State.setNow_span (s : State) (x : Time) : (s.setNow x).span = s.span := rfl
@[simp] theorem State.setNow_seq (s : State) (x : Time) : (s.setNow x).seq = s.seq := rfl
@[simp] theorem State.setNow_chan (s : State) (x : Time) : (s.setNow x).chan = s.chan := rfl
@[simp] theorem State.setNow_duty (s : State) (x : Time) : (s.setNow x).duty = s.duty := rfl
@[simp] theorem State.setNow_unit (s : State) (x : Time) : (s.setNow x).unit = s.unit := rfl
@[simp] theorem State.setNow_pending (s : State) (x : Time) : (s.setNow x).pending = s.pending := rfl

/-! ### setConsole -/

@[simp] theorem State.setConsole_power (s : State) (x : Console) : (s.setConsole x).power = s.power := rfl
@[simp] theorem State.setConsole_now (s : State) (x : Console) : (s.setConsole x).now = s.now := rfl
@[simp] theorem State.setConsole_console (s : State) (x : Console) : (s.setConsole x).console = x := rfl
@[simp] theorem State.setConsole_field (s : State) (x : Console) : (s.setConsole x).field = s.field := rfl
@[simp] theorem State.setConsole_points (s : State) (x : Console) : (s.setConsole x).points = s.points := rfl
@[simp] theorem State.setConsole_cond (s : State) (x : Console) : (s.setConsole x).cond = s.cond := rfl
@[simp] theorem State.setConsole_gate (s : State) (x : Console) : (s.setConsole x).gate = s.gate := rfl
@[simp] theorem State.setConsole_span (s : State) (x : Console) : (s.setConsole x).span = s.span := rfl
@[simp] theorem State.setConsole_seq (s : State) (x : Console) : (s.setConsole x).seq = s.seq := rfl
@[simp] theorem State.setConsole_chan (s : State) (x : Console) : (s.setConsole x).chan = s.chan := rfl
@[simp] theorem State.setConsole_duty (s : State) (x : Console) : (s.setConsole x).duty = s.duty := rfl
@[simp] theorem State.setConsole_unit (s : State) (x : Console) : (s.setConsole x).unit = s.unit := rfl
@[simp] theorem State.setConsole_pending (s : State) (x : Console) : (s.setConsole x).pending = s.pending := rfl

/-! ### setField -/

@[simp] theorem State.setField_power (s : State) (x : Field) : (s.setField x).power = s.power := rfl
@[simp] theorem State.setField_now (s : State) (x : Field) : (s.setField x).now = s.now := rfl
@[simp] theorem State.setField_console (s : State) (x : Field) : (s.setField x).console = s.console := rfl
@[simp] theorem State.setField_field (s : State) (x : Field) : (s.setField x).field = x := rfl
@[simp] theorem State.setField_points (s : State) (x : Field) : (s.setField x).points = s.points := rfl
@[simp] theorem State.setField_cond (s : State) (x : Field) : (s.setField x).cond = s.cond := rfl
@[simp] theorem State.setField_gate (s : State) (x : Field) : (s.setField x).gate = s.gate := rfl
@[simp] theorem State.setField_span (s : State) (x : Field) : (s.setField x).span = s.span := rfl
@[simp] theorem State.setField_seq (s : State) (x : Field) : (s.setField x).seq = s.seq := rfl
@[simp] theorem State.setField_chan (s : State) (x : Field) : (s.setField x).chan = s.chan := rfl
@[simp] theorem State.setField_duty (s : State) (x : Field) : (s.setField x).duty = s.duty := rfl
@[simp] theorem State.setField_unit (s : State) (x : Field) : (s.setField x).unit = s.unit := rfl
@[simp] theorem State.setField_pending (s : State) (x : Field) : (s.setField x).pending = s.pending := rfl

/-! ### setPoints -/

@[simp] theorem State.setPoints_power (s : State) (x : PointImage) : (s.setPoints x).power = s.power := rfl
@[simp] theorem State.setPoints_now (s : State) (x : PointImage) : (s.setPoints x).now = s.now := rfl
@[simp] theorem State.setPoints_console (s : State) (x : PointImage) : (s.setPoints x).console = s.console := rfl
@[simp] theorem State.setPoints_field (s : State) (x : PointImage) : (s.setPoints x).field = s.field := rfl
@[simp] theorem State.setPoints_points (s : State) (x : PointImage) : (s.setPoints x).points = x := rfl
@[simp] theorem State.setPoints_cond (s : State) (x : PointImage) : (s.setPoints x).cond = s.cond := rfl
@[simp] theorem State.setPoints_gate (s : State) (x : PointImage) : (s.setPoints x).gate = s.gate := rfl
@[simp] theorem State.setPoints_span (s : State) (x : PointImage) : (s.setPoints x).span = s.span := rfl
@[simp] theorem State.setPoints_seq (s : State) (x : PointImage) : (s.setPoints x).seq = s.seq := rfl
@[simp] theorem State.setPoints_chan (s : State) (x : PointImage) : (s.setPoints x).chan = s.chan := rfl
@[simp] theorem State.setPoints_duty (s : State) (x : PointImage) : (s.setPoints x).duty = s.duty := rfl
@[simp] theorem State.setPoints_unit (s : State) (x : PointImage) : (s.setPoints x).unit = s.unit := rfl
@[simp] theorem State.setPoints_pending (s : State) (x : PointImage) : (s.setPoints x).pending = s.pending := rfl

/-! ### setCond -/

@[simp] theorem State.setCond_power (s : State) (x : Conditions) : (s.setCond x).power = s.power := rfl
@[simp] theorem State.setCond_now (s : State) (x : Conditions) : (s.setCond x).now = s.now := rfl
@[simp] theorem State.setCond_console (s : State) (x : Conditions) : (s.setCond x).console = s.console := rfl
@[simp] theorem State.setCond_field (s : State) (x : Conditions) : (s.setCond x).field = s.field := rfl
@[simp] theorem State.setCond_points (s : State) (x : Conditions) : (s.setCond x).points = s.points := rfl
@[simp] theorem State.setCond_cond (s : State) (x : Conditions) : (s.setCond x).cond = x := rfl
@[simp] theorem State.setCond_gate (s : State) (x : Conditions) : (s.setCond x).gate = s.gate := rfl
@[simp] theorem State.setCond_span (s : State) (x : Conditions) : (s.setCond x).span = s.span := rfl
@[simp] theorem State.setCond_seq (s : State) (x : Conditions) : (s.setCond x).seq = s.seq := rfl
@[simp] theorem State.setCond_chan (s : State) (x : Conditions) : (s.setCond x).chan = s.chan := rfl
@[simp] theorem State.setCond_duty (s : State) (x : Conditions) : (s.setCond x).duty = s.duty := rfl
@[simp] theorem State.setCond_unit (s : State) (x : Conditions) : (s.setCond x).unit = s.unit := rfl
@[simp] theorem State.setCond_pending (s : State) (x : Conditions) : (s.setCond x).pending = s.pending := rfl

/-! ### setGate -/

@[simp] theorem State.setGate_power (s : State) (x : Gate) : (s.setGate x).power = s.power := rfl
@[simp] theorem State.setGate_now (s : State) (x : Gate) : (s.setGate x).now = s.now := rfl
@[simp] theorem State.setGate_console (s : State) (x : Gate) : (s.setGate x).console = s.console := rfl
@[simp] theorem State.setGate_field (s : State) (x : Gate) : (s.setGate x).field = s.field := rfl
@[simp] theorem State.setGate_points (s : State) (x : Gate) : (s.setGate x).points = s.points := rfl
@[simp] theorem State.setGate_cond (s : State) (x : Gate) : (s.setGate x).cond = s.cond := rfl
@[simp] theorem State.setGate_gate (s : State) (x : Gate) : (s.setGate x).gate = x := rfl
@[simp] theorem State.setGate_span (s : State) (x : Gate) : (s.setGate x).span = s.span := rfl
@[simp] theorem State.setGate_seq (s : State) (x : Gate) : (s.setGate x).seq = s.seq := rfl
@[simp] theorem State.setGate_chan (s : State) (x : Gate) : (s.setGate x).chan = s.chan := rfl
@[simp] theorem State.setGate_duty (s : State) (x : Gate) : (s.setGate x).duty = s.duty := rfl
@[simp] theorem State.setGate_unit (s : State) (x : Gate) : (s.setGate x).unit = s.unit := rfl
@[simp] theorem State.setGate_pending (s : State) (x : Gate) : (s.setGate x).pending = s.pending := rfl

/-! ### setSpan -/

@[simp] theorem State.setSpan_power (s : State) (x : Span) : (s.setSpan x).power = s.power := rfl
@[simp] theorem State.setSpan_now (s : State) (x : Span) : (s.setSpan x).now = s.now := rfl
@[simp] theorem State.setSpan_console (s : State) (x : Span) : (s.setSpan x).console = s.console := rfl
@[simp] theorem State.setSpan_field (s : State) (x : Span) : (s.setSpan x).field = s.field := rfl
@[simp] theorem State.setSpan_points (s : State) (x : Span) : (s.setSpan x).points = s.points := rfl
@[simp] theorem State.setSpan_cond (s : State) (x : Span) : (s.setSpan x).cond = s.cond := rfl
@[simp] theorem State.setSpan_gate (s : State) (x : Span) : (s.setSpan x).gate = s.gate := rfl
@[simp] theorem State.setSpan_span (s : State) (x : Span) : (s.setSpan x).span = x := rfl
@[simp] theorem State.setSpan_seq (s : State) (x : Span) : (s.setSpan x).seq = s.seq := rfl
@[simp] theorem State.setSpan_chan (s : State) (x : Span) : (s.setSpan x).chan = s.chan := rfl
@[simp] theorem State.setSpan_duty (s : State) (x : Span) : (s.setSpan x).duty = s.duty := rfl
@[simp] theorem State.setSpan_unit (s : State) (x : Span) : (s.setSpan x).unit = s.unit := rfl
@[simp] theorem State.setSpan_pending (s : State) (x : Span) : (s.setSpan x).pending = s.pending := rfl

/-! ### setSeq -/

@[simp] theorem State.setSeq_power (s : State) (x : Sequencer) : (s.setSeq x).power = s.power := rfl
@[simp] theorem State.setSeq_now (s : State) (x : Sequencer) : (s.setSeq x).now = s.now := rfl
@[simp] theorem State.setSeq_console (s : State) (x : Sequencer) : (s.setSeq x).console = s.console := rfl
@[simp] theorem State.setSeq_field (s : State) (x : Sequencer) : (s.setSeq x).field = s.field := rfl
@[simp] theorem State.setSeq_points (s : State) (x : Sequencer) : (s.setSeq x).points = s.points := rfl
@[simp] theorem State.setSeq_cond (s : State) (x : Sequencer) : (s.setSeq x).cond = s.cond := rfl
@[simp] theorem State.setSeq_gate (s : State) (x : Sequencer) : (s.setSeq x).gate = s.gate := rfl
@[simp] theorem State.setSeq_span (s : State) (x : Sequencer) : (s.setSeq x).span = s.span := rfl
@[simp] theorem State.setSeq_seq (s : State) (x : Sequencer) : (s.setSeq x).seq = x := rfl
@[simp] theorem State.setSeq_chan (s : State) (x : Sequencer) : (s.setSeq x).chan = s.chan := rfl
@[simp] theorem State.setSeq_duty (s : State) (x : Sequencer) : (s.setSeq x).duty = s.duty := rfl
@[simp] theorem State.setSeq_unit (s : State) (x : Sequencer) : (s.setSeq x).unit = s.unit := rfl
@[simp] theorem State.setSeq_pending (s : State) (x : Sequencer) : (s.setSeq x).pending = s.pending := rfl

/-! ### setChan -/

@[simp] theorem State.setChan_power (s : State) (x : Channel) : (s.setChan x).power = s.power := rfl
@[simp] theorem State.setChan_now (s : State) (x : Channel) : (s.setChan x).now = s.now := rfl
@[simp] theorem State.setChan_console (s : State) (x : Channel) : (s.setChan x).console = s.console := rfl
@[simp] theorem State.setChan_field (s : State) (x : Channel) : (s.setChan x).field = s.field := rfl
@[simp] theorem State.setChan_points (s : State) (x : Channel) : (s.setChan x).points = s.points := rfl
@[simp] theorem State.setChan_cond (s : State) (x : Channel) : (s.setChan x).cond = s.cond := rfl
@[simp] theorem State.setChan_gate (s : State) (x : Channel) : (s.setChan x).gate = s.gate := rfl
@[simp] theorem State.setChan_span (s : State) (x : Channel) : (s.setChan x).span = s.span := rfl
@[simp] theorem State.setChan_seq (s : State) (x : Channel) : (s.setChan x).seq = s.seq := rfl
@[simp] theorem State.setChan_chan (s : State) (x : Channel) : (s.setChan x).chan = x := rfl
@[simp] theorem State.setChan_duty (s : State) (x : Channel) : (s.setChan x).duty = s.duty := rfl
@[simp] theorem State.setChan_unit (s : State) (x : Channel) : (s.setChan x).unit = s.unit := rfl
@[simp] theorem State.setChan_pending (s : State) (x : Channel) : (s.setChan x).pending = s.pending := rfl

/-! ### setDuty -/

@[simp] theorem State.setDuty_power (s : State) (x : Duty) : (s.setDuty x).power = s.power := rfl
@[simp] theorem State.setDuty_now (s : State) (x : Duty) : (s.setDuty x).now = s.now := rfl
@[simp] theorem State.setDuty_console (s : State) (x : Duty) : (s.setDuty x).console = s.console := rfl
@[simp] theorem State.setDuty_field (s : State) (x : Duty) : (s.setDuty x).field = s.field := rfl
@[simp] theorem State.setDuty_points (s : State) (x : Duty) : (s.setDuty x).points = s.points := rfl
@[simp] theorem State.setDuty_cond (s : State) (x : Duty) : (s.setDuty x).cond = s.cond := rfl
@[simp] theorem State.setDuty_gate (s : State) (x : Duty) : (s.setDuty x).gate = s.gate := rfl
@[simp] theorem State.setDuty_span (s : State) (x : Duty) : (s.setDuty x).span = s.span := rfl
@[simp] theorem State.setDuty_seq (s : State) (x : Duty) : (s.setDuty x).seq = s.seq := rfl
@[simp] theorem State.setDuty_chan (s : State) (x : Duty) : (s.setDuty x).chan = s.chan := rfl
@[simp] theorem State.setDuty_duty (s : State) (x : Duty) : (s.setDuty x).duty = x := rfl
@[simp] theorem State.setDuty_unit (s : State) (x : Duty) : (s.setDuty x).unit = s.unit := rfl
@[simp] theorem State.setDuty_pending (s : State) (x : Duty) : (s.setDuty x).pending = s.pending := rfl

/-! ### setUnit -/

@[simp] theorem State.setUnit_power (s : State) (x : ModeChain) : (s.setUnit x).power = s.power := rfl
@[simp] theorem State.setUnit_now (s : State) (x : ModeChain) : (s.setUnit x).now = s.now := rfl
@[simp] theorem State.setUnit_console (s : State) (x : ModeChain) : (s.setUnit x).console = s.console := rfl
@[simp] theorem State.setUnit_field (s : State) (x : ModeChain) : (s.setUnit x).field = s.field := rfl
@[simp] theorem State.setUnit_points (s : State) (x : ModeChain) : (s.setUnit x).points = s.points := rfl
@[simp] theorem State.setUnit_cond (s : State) (x : ModeChain) : (s.setUnit x).cond = s.cond := rfl
@[simp] theorem State.setUnit_gate (s : State) (x : ModeChain) : (s.setUnit x).gate = s.gate := rfl
@[simp] theorem State.setUnit_span (s : State) (x : ModeChain) : (s.setUnit x).span = s.span := rfl
@[simp] theorem State.setUnit_seq (s : State) (x : ModeChain) : (s.setUnit x).seq = s.seq := rfl
@[simp] theorem State.setUnit_chan (s : State) (x : ModeChain) : (s.setUnit x).chan = s.chan := rfl
@[simp] theorem State.setUnit_duty (s : State) (x : ModeChain) : (s.setUnit x).duty = s.duty := rfl
@[simp] theorem State.setUnit_unit (s : State) (x : ModeChain) : (s.setUnit x).unit = x := rfl
@[simp] theorem State.setUnit_pending (s : State) (x : ModeChain) : (s.setUnit x).pending = s.pending := rfl

/-! ### setPending -/

@[simp] theorem State.setPending_power (s : State) (x : List Instr) : (s.setPending x).power = s.power := rfl
@[simp] theorem State.setPending_now (s : State) (x : List Instr) : (s.setPending x).now = s.now := rfl
@[simp] theorem State.setPending_console (s : State) (x : List Instr) : (s.setPending x).console = s.console := rfl
@[simp] theorem State.setPending_field (s : State) (x : List Instr) : (s.setPending x).field = s.field := rfl
@[simp] theorem State.setPending_points (s : State) (x : List Instr) : (s.setPending x).points = s.points := rfl
@[simp] theorem State.setPending_cond (s : State) (x : List Instr) : (s.setPending x).cond = s.cond := rfl
@[simp] theorem State.setPending_gate (s : State) (x : List Instr) : (s.setPending x).gate = s.gate := rfl
@[simp] theorem State.setPending_span (s : State) (x : List Instr) : (s.setPending x).span = s.span := rfl
@[simp] theorem State.setPending_seq (s : State) (x : List Instr) : (s.setPending x).seq = s.seq := rfl
@[simp] theorem State.setPending_chan (s : State) (x : List Instr) : (s.setPending x).chan = s.chan := rfl
@[simp] theorem State.setPending_duty (s : State) (x : List Instr) : (s.setPending x).duty = s.duty := rfl
@[simp] theorem State.setPending_unit (s : State) (x : List Instr) : (s.setPending x).unit = s.unit := rfl
@[simp] theorem State.setPending_pending (s : State) (x : List Instr) : (s.setPending x).pending = x := rfl

end Sys2Proof.Machine
end

