-- ==== Sys2Proof/Laws/Basic.lean ====
section
/-! SUPPORT. Tables, the running controller, the console queue and the service of a request. -/

namespace Sys2Proof

@[simp] theorem look_put_self {α : Type} {n : Nat} (v : Vector α n) (i : Nat) (a d : α) (h : i < n) :
    look (put v i a) i d = a := by
  simp [look, put, h]

@[simp] theorem look_put_other {α : Type} {n : Nat} (v : Vector α n) (i j : Nat) (a d : α) (h : i ≠ j) :
    look (put v i a) j d = look v j d := by
  simp [look, put, h]

/-- What a table reads after one write. -/
theorem look_put {α : Type} {n : Nat} (v : Vector α n) (i j : Nat) (a d : α) :
    look (put v i a) j d = if i = j ∧ i < n then a else look v j d := by
  by_cases h : i = j
  · subst h
    by_cases hn : i < n
    · simp [hn]
    · simp [look, put, hn]
  · simp [h]

/-- Outside the table every place reads as the default. -/
theorem look_of_le {α : Type} {n : Nat} (v : Vector α n) (i : Nat) (d : α) (h : n ≤ i) : look v i d = d := by
  simp [look, Nat.not_lt.mpr h]

@[simp] theorem look_replicate {α : Type} {n : Nat} (i : Nat) (a : α) : look (Vector.replicate n a) i a = a := by
  by_cases h : i < n
  · simp [look, h]
  · exact look_of_le _ _ _ (Nat.le_of_not_lt h)

theorem look_mapTable {α β : Type} {n : Nat} (f : Nat → α → β) (v : Vector α n) (i : Nat) (d : α) (e : β) (h : i < n) :
    look (mapTable f v) i e = f i (look v i d) := by
  simp [look, mapTable, h]

namespace Machine

@[simp] theorem State.whenRunning_running (s : State) (f : State → State) (h : s.power = .running) :
    s.whenRunning f = f s := by
  simp [State.whenRunning, h]

@[simp] theorem State.whenRunning_stopped (s : State) (f : State → State) (h : s.power ≠ .running) :
    s.whenRunning f = s := by
  simp [State.whenRunning, h]

/-- What a running controller keeps, every command keeps. -/
theorem State.whenRunning_keeps (P : State → Prop) (s : State) (f : State → State) (hs : P s)
    (hf : s.power = .running → P s → P (f s)) : P (s.whenRunning f) := by
  unfold State.whenRunning
  split
  · exact hf ‹_› hs
  · exact hs

/-- The queue bound of reports: an offer never carries the egress queue past the headroom (01:R15). -/
theorem Console.offer_egress_length (c : Console) (k : Byte) (p : List Byte) :
    (c.offer k p).egress.length ≤ max c.egress.length Config.reportHeadroom := by
  unfold Console.offer Config.reportHeadroom
  split
  · simp; omega
  · simp

@[simp] theorem Console.offer_ingress (c : Console) (k : Byte) (p : List Byte) : (c.offer k p).ingress = c.ingress := by
  unfold Console.offer; split <;> rfl

@[simp] theorem Console.offer_arrivals (c : Console) (k : Byte) (p : List Byte) : (c.offer k p).arrivals = c.arrivals := by
  unfold Console.offer; split <;> rfl

@[simp] theorem Console.offer_restart (c : Console) (k : Byte) (p : List Byte) : (c.offer k p).restart = c.restart := by
  unfold Console.offer; split <;> rfl

/-- Service takes the head of the ingress queue and hands it on, or does nothing (01:R14). -/
theorem State.serve_cases (s : State) (wanted : Frame → Bool) (f : Frame → State → State) :
    (∃ fr rest, s.console.ingress = fr :: rest ∧ s.console.restart = .none ∧ s.console.egress.length < Config.serviceBelow
      ∧ wanted fr = true ∧ s.serve wanted f = f fr (s.setConsole { s.console with ingress := rest }))
      ∨ s.serve wanted f = s := by
  unfold State.serve
  split
  · exact .inr rfl
  · rename_i fr rest h
    split
    · rename_i h'
      exact .inl ⟨fr, rest, h, h'.1, h'.2.1, h'.2.2, rfl⟩
    · exact .inr rfl

/-- Service of the head frame, when the row is its row. -/
theorem State.serve_head (s : State) (wanted : Frame → Bool) (f : Frame → State → State) (fr : Frame) (rest : List Frame)
    (hi : s.console.ingress = fr :: rest) (hr : s.console.restart = .none) (he : s.console.egress.length < 24)
    (hw : wanted fr = true) : s.serve wanted f = f fr (s.setConsole { s.console with ingress := rest }) := by
  simp [State.serve, hi, hr, he, hw, Config.serviceBelow]

end Machine
end Sys2Proof
end

