-- ==== Sys2Proof/Laws/Console.lean ====
section
/-! SUPPORT. What the offers of reports, alerts and condition reports leave of the Console Port. -/

namespace Sys2Proof.Machine

/-- An offer writes the egress queue, the reports-lost count and the sequence number only (01:R15, R16). -/
@[simp] theorem Console.offer_frame (c : Console) (k : Byte) (p : List Byte) :
    (c.offer k p).receiver = c.receiver ∧ (c.offer k p).line = c.line ∧ (c.offer k p).sending = c.sending
      ∧ (c.offer k p).counts = c.counts ∧ (c.offer k p).ingressOverflows = c.ingressOverflows := by
  unfold Console.offer; split <;> simp

/-- A list of alerts is a list of offers. -/
@[simp] theorem Console.alerts_frame (as : List Alert) (c : Console) :
    (as.foldl Console.alert c).receiver = c.receiver ∧ (as.foldl Console.alert c).line = c.line
      ∧ (as.foldl Console.alert c).sending = c.sending ∧ (as.foldl Console.alert c).counts = c.counts
      ∧ (as.foldl Console.alert c).ingressOverflows = c.ingressOverflows ∧ (as.foldl Console.alert c).ingress = c.ingress
      ∧ (as.foldl Console.alert c).arrivals = c.arrivals ∧ (as.foldl Console.alert c).restart = c.restart := by
  induction as generalizing c with
  | nil => simp
  | cons a as ih => simp [ih, Console.alert]

/-- A condition report is an offer, or nothing. -/
@[simp] theorem Console.conditionReport_frame (table : Vector (Option CondEntry) 64) (c : Console) (x : Nat × Bool) :
    (c.conditionReport table x).receiver = c.receiver ∧ (c.conditionReport table x).line = c.line
      ∧ (c.conditionReport table x).sending = c.sending ∧ (c.conditionReport table x).counts = c.counts
      ∧ (c.conditionReport table x).ingressOverflows = c.ingressOverflows
      ∧ (c.conditionReport table x).ingress = c.ingress ∧ (c.conditionReport table x).arrivals = c.arrivals
      ∧ (c.conditionReport table x).restart = c.restart := by
  unfold Console.conditionReport
  split
  · split <;> simp
  · simp

/-- A list of condition reports is a list of offers. -/
@[simp] theorem offerConditionReports_frame (table : Vector (Option CondEntry) 64) (set : ChangeSet) (c : Console) :
    (offerConditionReports table c set).receiver = c.receiver ∧ (offerConditionReports table c set).line = c.line
      ∧ (offerConditionReports table c set).sending = c.sending ∧ (offerConditionReports table c set).counts = c.counts
      ∧ (offerConditionReports table c set).ingressOverflows = c.ingressOverflows
      ∧ (offerConditionReports table c set).ingress = c.ingress
      ∧ (offerConditionReports table c set).arrivals = c.arrivals
      ∧ (offerConditionReports table c set).restart = c.restart := by
  unfold offerConditionReports
  induction set generalizing c with
  | nil => simp
  | cons x xs ih => simp [ih]

end Sys2Proof.Machine
end

