-- ==== Sys2Proof/Laws/Offers.lean ====
section
/-! SUPPORT. The offers of an order by their two outcomes, accepted or refused, and the frame of setting a signal. -/

namespace Sys2Proof.Machine

/-- An offer of a signal order by its two outcomes (08:R143). -/
theorem State.offerSignal_eq (s : State) (d : Direction) (k : SignalKind) :
    s.offerSignal d k =
      match s.chan.record with
      | none => (s, none)
      | some r =>
        let x := s.offerOwn (.channel d k) (r.node d) r.cls k.arg
        (if x.2.isNone then x.1.setChan (x.1.chan.addOwn d k) else x.1, x.2) := by
  unfold State.offerSignal
  split
  · simp_all
  · rename_i r h
    simp only
    split <;> simp_all

/-- An offer of a RED by its two outcomes (08:R153). -/
theorem State.offerRed_eq (s : State) (d : Direction) :
    s.offerRed d =
      if (s.offerSignal d .red).2.isNone then (s.offerSignal d .red).1 else (s.offerSignal d .red).1.redFailed d := by
  unfold State.offerRed
  split <;> simp_all

/-- An offer of a GREEN by its two outcomes (08:R149). -/
theorem State.offerGreen_eq (s : State) (d : Direction) :
    s.offerGreen d =
      match (s.offerSignal d .green).2 with
      | none => (s.offerSignal d .green).1
      | some r => (s.offerSignal d .green).1.greenFailed d r := by
  unfold State.offerGreen
  split <;> simp_all

/-- The offer of one entry order by its two outcomes (07:R126). -/
theorem offerEntries_cons (serial : BitVec 16) (i : Nat) (o : EntryOrder) (os : List EntryOrder) (s : State) :
    offerEntries serial i (o :: os) s =
      let x := s.offerOwn (.sequencer serial i) o.node o.cls o.arg
      if x.2.isNone then offerEntries serial (i + 1) os (x.1.track i .awaiting) else x.1.phaseFault .entryRefused := by
  rw [offerEntries]
  dsimp only
  split <;> simp_all

/-- What setting one signal leaves unchanged of the Channel Controller. -/
@[simp] theorem Channel.setSignal_frame (c : Channel) (d : Direction) (g : Signal) :
    (c.setSignal d g).record = c.record ∧ (c.setSignal d g).state = c.state ∧ (c.setSignal d g).vessels = c.vessels
      ∧ (c.setSignal d g).closing = c.closing ∧ (c.setSignal d g).changeoverPending = c.changeoverPending
      ∧ (c.setSignal d g).greenExpired = c.greenExpired ∧ (c.setSignal d g).greenTimer = c.greenTimer
      ∧ (c.setSignal d g).changeoverTimer = c.changeoverTimer ∧ (c.setSignal d g).retryTimer = c.retryTimer
      ∧ (c.setSignal d g).phaseSeen = c.phaseSeen ∧ (c.setSignal d g).ignoredCalls = c.ignoredCalls
      ∧ (c.setSignal d g).badDirections = c.badDirections
      ∧ (c.setSignal d g).unexpectedPassages = c.unexpectedPassages ∧ (c.setSignal d g).sets = c.sets
      ∧ (c.setSignal d g).standdowns = c.standdowns := by
  cases d <;> simp [Channel.setSignal]
end Sys2Proof.Machine
end

