-- ==== Sys2Proof/Laws/FramesBlocks.lean ====
section
/-! SUPPORT. What each shared operation of the records, duty counters, conditions, points and stand-down leaves
unchanged, field by field: the provers cite these lemmas instead of unfolding the operation. -/

namespace Sys2Proof.Machine

set_option linter.all false
set_option Elab.async false

/-- The blocks `State.alert` leaves unchanged. -/
@[simp] theorem State.alert_frame (s : State) (a : Alert) :
    (s.alert a).power = s.power ∧ (s.alert a).now = s.now ∧ (s.alert a).pending = s.pending
      ∧ (s.alert a).field = s.field ∧ (s.alert a).points = s.points ∧ (s.alert a).cond = s.cond
      ∧ (s.alert a).gate = s.gate ∧ (s.alert a).span = s.span ∧ (s.alert a).seq = s.seq
      ∧ (s.alert a).chan = s.chan ∧ (s.alert a).duty = s.duty ∧ (s.alert a).unit = s.unit := by
  and_intros <;> (simp [State.alert, Console.alert])
/-- What `State.alert` leaves unchanged of the Console Port. -/
@[simp] theorem State.alert_console (s : State) (a : Alert) :
    (s.alert a).console.ingress = s.console.ingress ∧ (s.alert a).console.arrivals = s.console.arrivals
      ∧ (s.alert a).console.restart = s.console.restart ∧ (s.alert a).console.receiver = s.console.receiver
      ∧ (s.alert a).console.line = s.console.line ∧ (s.alert a).console.counts = s.console.counts
      ∧ (s.alert a).console.sending = s.console.sending
      ∧ (s.alert a).console.ingressOverflows = s.console.ingressOverflows := by
  and_intros <;> (simp [State.alert, Console.alert])

/-- The blocks `State.orderResult` leaves unchanged. -/
@[simp] theorem State.orderResult_frame (s : State) (tag : Byte) (n c : Nat) (a : Int) (x d f : Nat) :
    (s.orderResult tag n c a x d f).power = s.power ∧ (s.orderResult tag n c a x d f).now = s.now
      ∧ (s.orderResult tag n c a x d f).pending = s.pending
      ∧ (s.orderResult tag n c a x d f).field = s.field ∧ (s.orderResult tag n c a x d f).points = s.points
      ∧ (s.orderResult tag n c a x d f).cond = s.cond ∧ (s.orderResult tag n c a x d f).gate = s.gate
      ∧ (s.orderResult tag n c a x d f).span = s.span ∧ (s.orderResult tag n c a x d f).seq = s.seq
      ∧ (s.orderResult tag n c a x d f).chan = s.chan ∧ (s.orderResult tag n c a x d f).duty = s.duty
      ∧ (s.orderResult tag n c a x d f).unit = s.unit := by
  and_intros <;> (simp [State.orderResult, Console.place])
/-- What `State.orderResult` leaves unchanged of the Console Port. -/
@[simp] theorem State.orderResult_console (s : State) (tag : Byte) (n c : Nat) (a : Int) (x d f : Nat) :
    (s.orderResult tag n c a x d f).console.ingress = s.console.ingress
      ∧ (s.orderResult tag n c a x d f).console.arrivals = s.console.arrivals
      ∧ (s.orderResult tag n c a x d f).console.restart = s.console.restart
      ∧ (s.orderResult tag n c a x d f).console.receiver = s.console.receiver
      ∧ (s.orderResult tag n c a x d f).console.line = s.console.line
      ∧ (s.orderResult tag n c a x d f).console.counts = s.console.counts
      ∧ (s.orderResult tag n c a x d f).console.sending = s.console.sending
      ∧ (s.orderResult tag n c a x d f).console.ingressOverflows = s.console.ingressOverflows := by
  and_intros <;> (simp [State.orderResult, Console.place])

/-- The blocks `State.takeDuty` leaves unchanged. -/
@[simp] theorem State.takeDuty_frame (s : State) (o : DutyOut) :
    (s.takeDuty o).power = s.power ∧ (s.takeDuty o).now = s.now ∧ (s.takeDuty o).pending = s.pending
      ∧ (s.takeDuty o).field = s.field ∧ (s.takeDuty o).points = s.points ∧ (s.takeDuty o).gate = s.gate
      ∧ (s.takeDuty o).span = s.span ∧ (s.takeDuty o).seq = s.seq ∧ (s.takeDuty o).chan = s.chan
      ∧ (s.takeDuty o).unit = s.unit := by
  and_intros <;> (simp [State.takeDuty])
/-- What `State.takeDuty` leaves unchanged of the Console Port. -/
@[simp] theorem State.takeDuty_console (s : State) (o : DutyOut) :
    (s.takeDuty o).console.ingress = s.console.ingress
      ∧ (s.takeDuty o).console.arrivals = s.console.arrivals
      ∧ (s.takeDuty o).console.restart = s.console.restart
      ∧ (s.takeDuty o).console.receiver = s.console.receiver ∧ (s.takeDuty o).console.line = s.console.line
      ∧ (s.takeDuty o).console.counts = s.console.counts
      ∧ (s.takeDuty o).console.sending = s.console.sending
      ∧ (s.takeDuty o).console.ingressOverflows = s.console.ingressOverflows := by
  and_intros <;> (simp [State.takeDuty])
/-- What `State.takeDuty` leaves unchanged of the Condition Evaluator. -/
@[simp] theorem State.takeDuty_cond (s : State) (o : DutyOut) :
    (s.takeDuty o).cond.table = s.cond.table ∧ (s.takeDuty o).cond.states = s.cond.states := by
  and_intros <;> (simp [State.takeDuty])

/-- The blocks `State.occur` leaves unchanged. -/
@[simp] theorem State.occur_frame (s : State) (e : DutyEvent) :
    (s.occur e).power = s.power ∧ (s.occur e).now = s.now ∧ (s.occur e).pending = s.pending
      ∧ (s.occur e).field = s.field ∧ (s.occur e).points = s.points ∧ (s.occur e).gate = s.gate
      ∧ (s.occur e).span = s.span ∧ (s.occur e).seq = s.seq ∧ (s.occur e).chan = s.chan
      ∧ (s.occur e).unit = s.unit := by
  and_intros <;> (simp [State.occur])
/-- What `State.occur` leaves unchanged of the Console Port. -/
@[simp] theorem State.occur_console (s : State) (e : DutyEvent) :
    (s.occur e).console.ingress = s.console.ingress ∧ (s.occur e).console.arrivals = s.console.arrivals
      ∧ (s.occur e).console.restart = s.console.restart ∧ (s.occur e).console.receiver = s.console.receiver
      ∧ (s.occur e).console.line = s.console.line ∧ (s.occur e).console.counts = s.console.counts
      ∧ (s.occur e).console.sending = s.console.sending
      ∧ (s.occur e).console.ingressOverflows = s.console.ingressOverflows := by
  and_intros <;> (simp [State.occur])
/-- What `State.occur` leaves unchanged of the Condition Evaluator. -/
@[simp] theorem State.occur_cond (s : State) (e : DutyEvent) :
    (s.occur e).cond.table = s.cond.table ∧ (s.occur e).cond.states = s.cond.states := by
  and_intros <;> (simp [State.occur])

/-- The blocks `State.walk` leaves unchanged. -/
@[simp] theorem State.walk_frame (s : State) (b : Vector CondState 64) (m : List Nat) (e : Bool) :
    (s.walk b m e).power = s.power ∧ (s.walk b m e).now = s.now ∧ (s.walk b m e).pending = s.pending
      ∧ (s.walk b m e).field = s.field ∧ (s.walk b m e).points = s.points ∧ (s.walk b m e).span = s.span
      ∧ (s.walk b m e).unit = s.unit := by
  and_intros <;> (simp [State.walk])
/-- What `State.walk` leaves unchanged of the Console Port. -/
@[simp] theorem State.walk_console (s : State) (b : Vector CondState 64) (m : List Nat) (e : Bool) :
    (s.walk b m e).console.ingress = s.console.ingress
      ∧ (s.walk b m e).console.arrivals = s.console.arrivals
      ∧ (s.walk b m e).console.restart = s.console.restart
      ∧ (s.walk b m e).console.receiver = s.console.receiver ∧ (s.walk b m e).console.line = s.console.line
      ∧ (s.walk b m e).console.counts = s.console.counts
      ∧ (s.walk b m e).console.sending = s.console.sending
      ∧ (s.walk b m e).console.ingressOverflows = s.console.ingressOverflows := by
  and_intros <;> (simp [State.walk])
/-- What `State.walk` leaves unchanged of the Order Gate. -/
@[simp] theorem State.walk_gate (s : State) (b : Vector CondState 64) (m : List Nat) (e : Bool) :
    (s.walk b m e).gate.permits = s.gate.permits ∧ (s.walk b m e).gate.orders = s.gate.orders
      ∧ (s.walk b m e).gate.held = s.gate.held ∧ (s.walk b m e).gate.own = s.gate.own
      ∧ (s.walk b m e).gate.standdowns = s.gate.standdowns := by
  and_intros <;> (simp [State.walk])
/-- What `State.walk` leaves unchanged of the Crossing Sequencer. -/
@[simp] theorem State.walk_seq (s : State) (b : Vector CondState 64) (m : List Nat) (e : Bool) :
    (s.walk b m e).seq.table = s.seq.table ∧ (s.walk b m e).seq.phase = s.seq.phase
      ∧ (s.walk b m e).seq.standdowns = s.seq.standdowns ∧ (s.walk b m e).seq.serial = s.seq.serial
      ∧ (s.walk b m e).seq.tracking = s.seq.tracking ∧ (s.walk b m e).seq.interrupted = s.seq.interrupted
      ∧ (s.walk b m e).seq.request = s.seq.request ∧ (s.walk b m e).seq.recovery = s.seq.recovery
      ∧ (s.walk b m e).seq.dwell = s.seq.dwell ∧ (s.walk b m e).seq.limit = s.seq.limit := by
  and_intros <;> (simp [State.walk])
/-- What `State.walk` leaves unchanged of the Channel Controller. -/
@[simp] theorem State.walk_chan (s : State) (b : Vector CondState 64) (m : List Nat) (e : Bool) :
    (s.walk b m e).chan.record = s.chan.record ∧ (s.walk b m e).chan.vessels = s.chan.vessels
      ∧ (s.walk b m e).chan.state = s.chan.state ∧ (s.walk b m e).chan.north = s.chan.north
      ∧ (s.walk b m e).chan.south = s.chan.south ∧ (s.walk b m e).chan.closing = s.chan.closing
      ∧ (s.walk b m e).chan.phaseSeen = s.chan.phaseSeen
      ∧ (s.walk b m e).chan.standdowns = s.chan.standdowns
      ∧ (s.walk b m e).chan.changeoverPending = s.chan.changeoverPending
      ∧ (s.walk b m e).chan.greenTimer = s.chan.greenTimer
      ∧ (s.walk b m e).chan.changeoverTimer = s.chan.changeoverTimer
      ∧ (s.walk b m e).chan.retryTimer = s.chan.retryTimer
      ∧ (s.walk b m e).chan.greenExpired = s.chan.greenExpired
      ∧ (s.walk b m e).chan.ignoredCalls = s.chan.ignoredCalls
      ∧ (s.walk b m e).chan.badDirections = s.chan.badDirections
      ∧ (s.walk b m e).chan.unexpectedPassages = s.chan.unexpectedPassages := by
  and_intros <;> (simp [State.walk])
/-- What `State.walk` leaves unchanged of the Condition Evaluator. -/
@[simp] theorem State.walk_cond (s : State) (b : Vector CondState 64) (m : List Nat) (e : Bool) :
    (s.walk b m e).cond.table = s.cond.table ∧ (s.walk b m e).cond.counterChanges = s.cond.counterChanges := by
  and_intros <;> (simp [State.walk])
/-- What `State.walk` leaves unchanged of the Duty Counter Unit. -/
@[simp] theorem State.walk_duty (s : State) (b : Vector CondState 64) (m : List Nat) (e : Bool) :
    (s.walk b m e).duty.residency = s.duty.residency ∧ (s.walk b m e).duty.occupancy = s.duty.occupancy
      ∧ (s.walk b m e).duty.standing = s.duty.standing ∧ (s.walk b m e).duty.phase = s.duty.phase
      ∧ (s.walk b m e).duty.frozen = s.duty.frozen ∧ (s.walk b m e).duty.bands = s.duty.bands
      ∧ (s.walk b m e).duty.counters = s.duty.counters := by
  and_intros <;> (simp [State.walk])

/-- The blocks `State.walkPoints` leaves unchanged. -/
@[simp] theorem State.walkPoints_frame (s : State) (ns : List Nat) :
    (s.walkPoints ns).power = s.power ∧ (s.walkPoints ns).now = s.now
      ∧ (s.walkPoints ns).pending = s.pending ∧ (s.walkPoints ns).field = s.field
      ∧ (s.walkPoints ns).points = s.points ∧ (s.walkPoints ns).span = s.span
      ∧ (s.walkPoints ns).unit = s.unit := by
  and_intros <;> (simp [State.walkPoints])
/-- What `State.walkPoints` leaves unchanged of the Console Port. -/
@[simp] theorem State.walkPoints_console (s : State) (ns : List Nat) :
    (s.walkPoints ns).console.ingress = s.console.ingress
      ∧ (s.walkPoints ns).console.arrivals = s.console.arrivals
      ∧ (s.walkPoints ns).console.restart = s.console.restart
      ∧ (s.walkPoints ns).console.receiver = s.console.receiver
      ∧ (s.walkPoints ns).console.line = s.console.line
      ∧ (s.walkPoints ns).console.counts = s.console.counts
      ∧ (s.walkPoints ns).console.sending = s.console.sending
      ∧ (s.walkPoints ns).console.ingressOverflows = s.console.ingressOverflows := by
  and_intros <;> (simp [State.walkPoints])
/-- What `State.walkPoints` leaves unchanged of the Order Gate. -/
@[simp] theorem State.walkPoints_gate (s : State) (ns : List Nat) :
    (s.walkPoints ns).gate.permits = s.gate.permits ∧ (s.walkPoints ns).gate.orders = s.gate.orders
      ∧ (s.walkPoints ns).gate.held = s.gate.held ∧ (s.walkPoints ns).gate.own = s.gate.own
      ∧ (s.walkPoints ns).gate.standdowns = s.gate.standdowns := by
  and_intros <;> (simp [State.walkPoints])
/-- What `State.walkPoints` leaves unchanged of the Crossing Sequencer. -/
@[simp] theorem State.walkPoints_seq (s : State) (ns : List Nat) :
    (s.walkPoints ns).seq.table = s.seq.table ∧ (s.walkPoints ns).seq.phase = s.seq.phase
      ∧ (s.walkPoints ns).seq.standdowns = s.seq.standdowns ∧ (s.walkPoints ns).seq.serial = s.seq.serial
      ∧ (s.walkPoints ns).seq.tracking = s.seq.tracking
      ∧ (s.walkPoints ns).seq.interrupted = s.seq.interrupted
      ∧ (s.walkPoints ns).seq.request = s.seq.request ∧ (s.walkPoints ns).seq.recovery = s.seq.recovery
      ∧ (s.walkPoints ns).seq.dwell = s.seq.dwell ∧ (s.walkPoints ns).seq.limit = s.seq.limit := by
  and_intros <;> (simp [State.walkPoints])
/-- What `State.walkPoints` leaves unchanged of the Channel Controller. -/
@[simp] theorem State.walkPoints_chan (s : State) (ns : List Nat) :
    (s.walkPoints ns).chan.record = s.chan.record ∧ (s.walkPoints ns).chan.vessels = s.chan.vessels
      ∧ (s.walkPoints ns).chan.state = s.chan.state ∧ (s.walkPoints ns).chan.north = s.chan.north
      ∧ (s.walkPoints ns).chan.south = s.chan.south ∧ (s.walkPoints ns).chan.closing = s.chan.closing
      ∧ (s.walkPoints ns).chan.phaseSeen = s.chan.phaseSeen
      ∧ (s.walkPoints ns).chan.standdowns = s.chan.standdowns
      ∧ (s.walkPoints ns).chan.changeoverPending = s.chan.changeoverPending
      ∧ (s.walkPoints ns).chan.greenTimer = s.chan.greenTimer
      ∧ (s.walkPoints ns).chan.changeoverTimer = s.chan.changeoverTimer
      ∧ (s.walkPoints ns).chan.retryTimer = s.chan.retryTimer
      ∧ (s.walkPoints ns).chan.greenExpired = s.chan.greenExpired
      ∧ (s.walkPoints ns).chan.ignoredCalls = s.chan.ignoredCalls
      ∧ (s.walkPoints ns).chan.badDirections = s.chan.badDirections
      ∧ (s.walkPoints ns).chan.unexpectedPassages = s.chan.unexpectedPassages := by
  and_intros <;> (simp [State.walkPoints])
/-- What `State.walkPoints` leaves unchanged of the Condition Evaluator. -/
@[simp] theorem State.walkPoints_cond (s : State) (ns : List Nat) :
    (s.walkPoints ns).cond.table = s.cond.table
      ∧ (s.walkPoints ns).cond.counterChanges = s.cond.counterChanges := by
  and_intros <;> (simp [State.walkPoints])
/-- What `State.walkPoints` leaves unchanged of the Duty Counter Unit. -/
@[simp] theorem State.walkPoints_duty (s : State) (ns : List Nat) :
    (s.walkPoints ns).duty.residency = s.duty.residency
      ∧ (s.walkPoints ns).duty.occupancy = s.duty.occupancy
      ∧ (s.walkPoints ns).duty.standing = s.duty.standing ∧ (s.walkPoints ns).duty.phase = s.duty.phase
      ∧ (s.walkPoints ns).duty.frozen = s.duty.frozen ∧ (s.walkPoints ns).duty.bands = s.duty.bands
      ∧ (s.walkPoints ns).duty.counters = s.duty.counters := by
  and_intros <;> (simp [State.walkPoints])

/-- The blocks `State.walkCounters` leaves unchanged. -/
@[simp] theorem State.walkCounters_frame (s : State) (ns : List Nat) :
    (s.walkCounters ns).power = s.power ∧ (s.walkCounters ns).now = s.now
      ∧ (s.walkCounters ns).pending = s.pending ∧ (s.walkCounters ns).field = s.field
      ∧ (s.walkCounters ns).points = s.points ∧ (s.walkCounters ns).span = s.span
      ∧ (s.walkCounters ns).unit = s.unit := by
  and_intros <;> (simp [State.walkCounters])
/-- What `State.walkCounters` leaves unchanged of the Console Port. -/
@[simp] theorem State.walkCounters_console (s : State) (ns : List Nat) :
    (s.walkCounters ns).console.ingress = s.console.ingress
      ∧ (s.walkCounters ns).console.arrivals = s.console.arrivals
      ∧ (s.walkCounters ns).console.restart = s.console.restart
      ∧ (s.walkCounters ns).console.receiver = s.console.receiver
      ∧ (s.walkCounters ns).console.line = s.console.line
      ∧ (s.walkCounters ns).console.counts = s.console.counts
      ∧ (s.walkCounters ns).console.sending = s.console.sending
      ∧ (s.walkCounters ns).console.ingressOverflows = s.console.ingressOverflows := by
  and_intros <;> (simp [State.walkCounters])
/-- What `State.walkCounters` leaves unchanged of the Order Gate. -/
@[simp] theorem State.walkCounters_gate (s : State) (ns : List Nat) :
    (s.walkCounters ns).gate.permits = s.gate.permits ∧ (s.walkCounters ns).gate.orders = s.gate.orders
      ∧ (s.walkCounters ns).gate.held = s.gate.held ∧ (s.walkCounters ns).gate.own = s.gate.own
      ∧ (s.walkCounters ns).gate.standdowns = s.gate.standdowns := by
  and_intros <;> (simp [State.walkCounters])
/-- What `State.walkCounters` leaves unchanged of the Crossing Sequencer. -/
@[simp] theorem State.walkCounters_seq (s : State) (ns : List Nat) :
    (s.walkCounters ns).seq.table = s.seq.table ∧ (s.walkCounters ns).seq.phase = s.seq.phase
      ∧ (s.walkCounters ns).seq.standdowns = s.seq.standdowns
      ∧ (s.walkCounters ns).seq.serial = s.seq.serial ∧ (s.walkCounters ns).seq.tracking = s.seq.tracking
      ∧ (s.walkCounters ns).seq.interrupted = s.seq.interrupted
      ∧ (s.walkCounters ns).seq.request = s.seq.request ∧ (s.walkCounters ns).seq.recovery = s.seq.recovery
      ∧ (s.walkCounters ns).seq.dwell = s.seq.dwell ∧ (s.walkCounters ns).seq.limit = s.seq.limit := by
  and_intros <;> (simp [State.walkCounters])
/-- What `State.walkCounters` leaves unchanged of the Channel Controller. -/
@[simp] theorem State.walkCounters_chan (s : State) (ns : List Nat) :
    (s.walkCounters ns).chan.record = s.chan.record ∧ (s.walkCounters ns).chan.vessels = s.chan.vessels
      ∧ (s.walkCounters ns).chan.state = s.chan.state ∧ (s.walkCounters ns).chan.north = s.chan.north
      ∧ (s.walkCounters ns).chan.south = s.chan.south ∧ (s.walkCounters ns).chan.closing = s.chan.closing
      ∧ (s.walkCounters ns).chan.phaseSeen = s.chan.phaseSeen
      ∧ (s.walkCounters ns).chan.standdowns = s.chan.standdowns
      ∧ (s.walkCounters ns).chan.changeoverPending = s.chan.changeoverPending
      ∧ (s.walkCounters ns).chan.greenTimer = s.chan.greenTimer
      ∧ (s.walkCounters ns).chan.changeoverTimer = s.chan.changeoverTimer
      ∧ (s.walkCounters ns).chan.retryTimer = s.chan.retryTimer
      ∧ (s.walkCounters ns).chan.greenExpired = s.chan.greenExpired
      ∧ (s.walkCounters ns).chan.ignoredCalls = s.chan.ignoredCalls
      ∧ (s.walkCounters ns).chan.badDirections = s.chan.badDirections
      ∧ (s.walkCounters ns).chan.unexpectedPassages = s.chan.unexpectedPassages := by
  and_intros <;> (simp [State.walkCounters])
/-- What `State.walkCounters` leaves unchanged of the Condition Evaluator. -/
@[simp] theorem State.walkCounters_cond (s : State) (ns : List Nat) :
    (s.walkCounters ns).cond.table = s.cond.table
      ∧ (s.walkCounters ns).cond.counterChanges = s.cond.counterChanges := by
  and_intros <;> (simp [State.walkCounters])
/-- What `State.walkCounters` leaves unchanged of the Duty Counter Unit. -/
@[simp] theorem State.walkCounters_duty (s : State) (ns : List Nat) :
    (s.walkCounters ns).duty.residency = s.duty.residency
      ∧ (s.walkCounters ns).duty.occupancy = s.duty.occupancy
      ∧ (s.walkCounters ns).duty.standing = s.duty.standing ∧ (s.walkCounters ns).duty.phase = s.duty.phase
      ∧ (s.walkCounters ns).duty.frozen = s.duty.frozen ∧ (s.walkCounters ns).duty.bands = s.duty.bands
      ∧ (s.walkCounters ns).duty.counters = s.duty.counters := by
  and_intros <;> (simp [State.walkCounters])

/-- The blocks `State.writeCondition` leaves unchanged. -/
@[simp] theorem State.writeCondition_frame (s : State) (n : Nat) (e : Option CondEntry) :
    (s.writeCondition n e).power = s.power ∧ (s.writeCondition n e).now = s.now
      ∧ (s.writeCondition n e).pending = s.pending ∧ (s.writeCondition n e).field = s.field
      ∧ (s.writeCondition n e).points = s.points ∧ (s.writeCondition n e).span = s.span
      ∧ (s.writeCondition n e).unit = s.unit := by
  and_intros <;> (simp [State.writeCondition])
/-- What `State.writeCondition` leaves unchanged of the Console Port. -/
@[simp] theorem State.writeCondition_console (s : State) (n : Nat) (e : Option CondEntry) :
    (s.writeCondition n e).console.ingress = s.console.ingress
      ∧ (s.writeCondition n e).console.arrivals = s.console.arrivals
      ∧ (s.writeCondition n e).console.restart = s.console.restart
      ∧ (s.writeCondition n e).console.receiver = s.console.receiver
      ∧ (s.writeCondition n e).console.line = s.console.line
      ∧ (s.writeCondition n e).console.counts = s.console.counts
      ∧ (s.writeCondition n e).console.sending = s.console.sending
      ∧ (s.writeCondition n e).console.ingressOverflows = s.console.ingressOverflows := by
  and_intros <;> (simp [State.writeCondition])
/-- What `State.writeCondition` leaves unchanged of the Order Gate. -/
@[simp] theorem State.writeCondition_gate (s : State) (n : Nat) (e : Option CondEntry) :
    (s.writeCondition n e).gate.permits = s.gate.permits
      ∧ (s.writeCondition n e).gate.orders = s.gate.orders ∧ (s.writeCondition n e).gate.held = s.gate.held
      ∧ (s.writeCondition n e).gate.own = s.gate.own
      ∧ (s.writeCondition n e).gate.standdowns = s.gate.standdowns := by
  and_intros <;> (simp [State.writeCondition])
/-- What `State.writeCondition` leaves unchanged of the Crossing Sequencer. -/
@[simp] theorem State.writeCondition_seq (s : State) (n : Nat) (e : Option CondEntry) :
    (s.writeCondition n e).seq.table = s.seq.table ∧ (s.writeCondition n e).seq.phase = s.seq.phase
      ∧ (s.writeCondition n e).seq.standdowns = s.seq.standdowns
      ∧ (s.writeCondition n e).seq.serial = s.seq.serial
      ∧ (s.writeCondition n e).seq.tracking = s.seq.tracking
      ∧ (s.writeCondition n e).seq.interrupted = s.seq.interrupted
      ∧ (s.writeCondition n e).seq.request = s.seq.request
      ∧ (s.writeCondition n e).seq.recovery = s.seq.recovery
      ∧ (s.writeCondition n e).seq.dwell = s.seq.dwell ∧ (s.writeCondition n e).seq.limit = s.seq.limit := by
  and_intros <;> (simp [State.writeCondition])
/-- What `State.writeCondition` leaves unchanged of the Channel Controller. -/
@[simp] theorem State.writeCondition_chan (s : State) (n : Nat) (e : Option CondEntry) :
    (s.writeCondition n e).chan.record = s.chan.record
      ∧ (s.writeCondition n e).chan.vessels = s.chan.vessels
      ∧ (s.writeCondition n e).chan.state = s.chan.state ∧ (s.writeCondition n e).chan.north = s.chan.north
      ∧ (s.writeCondition n e).chan.south = s.chan.south
      ∧ (s.writeCondition n e).chan.closing = s.chan.closing
      ∧ (s.writeCondition n e).chan.phaseSeen = s.chan.phaseSeen
      ∧ (s.writeCondition n e).chan.standdowns = s.chan.standdowns
      ∧ (s.writeCondition n e).chan.changeoverPending = s.chan.changeoverPending
      ∧ (s.writeCondition n e).chan.greenTimer = s.chan.greenTimer
      ∧ (s.writeCondition n e).chan.changeoverTimer = s.chan.changeoverTimer
      ∧ (s.writeCondition n e).chan.retryTimer = s.chan.retryTimer
      ∧ (s.writeCondition n e).chan.greenExpired = s.chan.greenExpired
      ∧ (s.writeCondition n e).chan.ignoredCalls = s.chan.ignoredCalls
      ∧ (s.writeCondition n e).chan.badDirections = s.chan.badDirections
      ∧ (s.writeCondition n e).chan.unexpectedPassages = s.chan.unexpectedPassages := by
  and_intros <;> (simp [State.writeCondition])
/-- What `State.writeCondition` leaves unchanged of the Condition Evaluator. -/
@[simp] theorem State.writeCondition_cond (s : State) (n : Nat) (e : Option CondEntry) :
    (s.writeCondition n e).cond.counterChanges = s.cond.counterChanges := by
  simp [State.writeCondition]
/-- What `State.writeCondition` leaves unchanged of the Duty Counter Unit. -/
@[simp] theorem State.writeCondition_duty (s : State) (n : Nat) (e : Option CondEntry) :
    (s.writeCondition n e).duty.residency = s.duty.residency
      ∧ (s.writeCondition n e).duty.occupancy = s.duty.occupancy
      ∧ (s.writeCondition n e).duty.standing = s.duty.standing
      ∧ (s.writeCondition n e).duty.phase = s.duty.phase
      ∧ (s.writeCondition n e).duty.frozen = s.duty.frozen
      ∧ (s.writeCondition n e).duty.bands = s.duty.bands
      ∧ (s.writeCondition n e).duty.counters = s.duty.counters := by
  and_intros <;> (simp [State.writeCondition])

/-- The blocks `State.resetEvaluation` leaves unchanged. -/
@[simp] theorem State.resetEvaluation_frame (s : State) :
    (s.resetEvaluation).power = s.power ∧ (s.resetEvaluation).now = s.now
      ∧ (s.resetEvaluation).pending = s.pending ∧ (s.resetEvaluation).field = s.field
      ∧ (s.resetEvaluation).points = s.points ∧ (s.resetEvaluation).span = s.span
      ∧ (s.resetEvaluation).unit = s.unit := by
  and_intros <;> (simp [State.resetEvaluation])
/-- What `State.resetEvaluation` leaves unchanged of the Console Port. -/
@[simp] theorem State.resetEvaluation_console (s : State) :
    (s.resetEvaluation).console.ingress = s.console.ingress
      ∧ (s.resetEvaluation).console.arrivals = s.console.arrivals
      ∧ (s.resetEvaluation).console.restart = s.console.restart
      ∧ (s.resetEvaluation).console.receiver = s.console.receiver
      ∧ (s.resetEvaluation).console.line = s.console.line
      ∧ (s.resetEvaluation).console.counts = s.console.counts
      ∧ (s.resetEvaluation).console.sending = s.console.sending
      ∧ (s.resetEvaluation).console.ingressOverflows = s.console.ingressOverflows := by
  and_intros <;> (simp [State.resetEvaluation])
/-- What `State.resetEvaluation` leaves unchanged of the Order Gate. -/
@[simp] theorem State.resetEvaluation_gate (s : State) :
    (s.resetEvaluation).gate.permits = s.gate.permits ∧ (s.resetEvaluation).gate.orders = s.gate.orders
      ∧ (s.resetEvaluation).gate.held = s.gate.held ∧ (s.resetEvaluation).gate.own = s.gate.own
      ∧ (s.resetEvaluation).gate.standdowns = s.gate.standdowns := by
  and_intros <;> (simp [State.resetEvaluation])
/-- What `State.resetEvaluation` leaves unchanged of the Crossing Sequencer. -/
@[simp] theorem State.resetEvaluation_seq (s : State) :
    (s.resetEvaluation).seq.table = s.seq.table ∧ (s.resetEvaluation).seq.phase = s.seq.phase
      ∧ (s.resetEvaluation).seq.standdowns = s.seq.standdowns
      ∧ (s.resetEvaluation).seq.serial = s.seq.serial ∧ (s.resetEvaluation).seq.tracking = s.seq.tracking
      ∧ (s.resetEvaluation).seq.interrupted = s.seq.interrupted
      ∧ (s.resetEvaluation).seq.request = s.seq.request ∧ (s.resetEvaluation).seq.recovery = s.seq.recovery
      ∧ (s.resetEvaluation).seq.dwell = s.seq.dwell ∧ (s.resetEvaluation).seq.limit = s.seq.limit := by
  and_intros <;> (simp [State.resetEvaluation])
/-- What `State.resetEvaluation` leaves unchanged of the Channel Controller. -/
@[simp] theorem State.resetEvaluation_chan (s : State) :
    (s.resetEvaluation).chan.record = s.chan.record ∧ (s.resetEvaluation).chan.vessels = s.chan.vessels
      ∧ (s.resetEvaluation).chan.state = s.chan.state ∧ (s.resetEvaluation).chan.north = s.chan.north
      ∧ (s.resetEvaluation).chan.south = s.chan.south ∧ (s.resetEvaluation).chan.closing = s.chan.closing
      ∧ (s.resetEvaluation).chan.phaseSeen = s.chan.phaseSeen
      ∧ (s.resetEvaluation).chan.standdowns = s.chan.standdowns
      ∧ (s.resetEvaluation).chan.changeoverPending = s.chan.changeoverPending
      ∧ (s.resetEvaluation).chan.greenTimer = s.chan.greenTimer
      ∧ (s.resetEvaluation).chan.changeoverTimer = s.chan.changeoverTimer
      ∧ (s.resetEvaluation).chan.retryTimer = s.chan.retryTimer
      ∧ (s.resetEvaluation).chan.greenExpired = s.chan.greenExpired
      ∧ (s.resetEvaluation).chan.ignoredCalls = s.chan.ignoredCalls
      ∧ (s.resetEvaluation).chan.badDirections = s.chan.badDirections
      ∧ (s.resetEvaluation).chan.unexpectedPassages = s.chan.unexpectedPassages := by
  and_intros <;> (simp [State.resetEvaluation])
/-- What `State.resetEvaluation` leaves unchanged of the Condition Evaluator. -/
@[simp] theorem State.resetEvaluation_cond (s : State) :
    (s.resetEvaluation).cond.table = s.cond.table
      ∧ (s.resetEvaluation).cond.counterChanges = s.cond.counterChanges := by
  and_intros <;> (simp [State.resetEvaluation])
/-- What `State.resetEvaluation` leaves unchanged of the Duty Counter Unit. -/
@[simp] theorem State.resetEvaluation_duty (s : State) :
    (s.resetEvaluation).duty.residency = s.duty.residency
      ∧ (s.resetEvaluation).duty.occupancy = s.duty.occupancy
      ∧ (s.resetEvaluation).duty.standing = s.duty.standing ∧ (s.resetEvaluation).duty.phase = s.duty.phase
      ∧ (s.resetEvaluation).duty.frozen = s.duty.frozen ∧ (s.resetEvaluation).duty.bands = s.duty.bands
      ∧ (s.resetEvaluation).duty.counters = s.duty.counters := by
  and_intros <;> (simp [State.resetEvaluation])

/-- The blocks `State.setPoint` leaves unchanged. -/
@[simp] theorem State.setPoint_frame (s : State) (n : Nat) (p : Point) :
    (s.setPoint n p).power = s.power ∧ (s.setPoint n p).now = s.now ∧ (s.setPoint n p).pending = s.pending
      ∧ (s.setPoint n p).console = s.console ∧ (s.setPoint n p).field = s.field
      ∧ (s.setPoint n p).cond = s.cond ∧ (s.setPoint n p).gate = s.gate ∧ (s.setPoint n p).span = s.span
      ∧ (s.setPoint n p).seq = s.seq ∧ (s.setPoint n p).chan = s.chan ∧ (s.setPoint n p).duty = s.duty
      ∧ (s.setPoint n p).unit = s.unit := by
  and_intros <;> (simp [State.setPoint, PointImage.set])
/-- What `State.setPoint` leaves unchanged of the Point Image. -/
@[simp] theorem State.setPoint_points (s : State) (n : Nat) (p : Point) :
    (s.setPoint n p).points.map = s.points.map ∧ (s.setPoint n p).points.firstPair = s.points.firstPair
      ∧ (s.setPoint n p).points.pairLoss = s.points.pairLoss := by
  and_intros <;> (simp [State.setPoint, PointImage.set])

/-- The blocks `State.raisePoints` leaves unchanged. -/
@[simp] theorem State.raisePoints_frame (s : State) :
    (s.raisePoints).power = s.power ∧ (s.raisePoints).now = s.now ∧ (s.raisePoints).pending = s.pending
      ∧ (s.raisePoints).field = s.field ∧ (s.raisePoints).span = s.span ∧ (s.raisePoints).unit = s.unit := by
  and_intros <;> (unfold State.raisePoints; split <;> simp)
/-- What `State.raisePoints` leaves unchanged of the Console Port. -/
@[simp] theorem State.raisePoints_console (s : State) :
    (s.raisePoints).console.ingress = s.console.ingress
      ∧ (s.raisePoints).console.arrivals = s.console.arrivals
      ∧ (s.raisePoints).console.restart = s.console.restart
      ∧ (s.raisePoints).console.receiver = s.console.receiver
      ∧ (s.raisePoints).console.line = s.console.line ∧ (s.raisePoints).console.counts = s.console.counts
      ∧ (s.raisePoints).console.sending = s.console.sending
      ∧ (s.raisePoints).console.ingressOverflows = s.console.ingressOverflows := by
  and_intros <;> (unfold State.raisePoints; split <;> simp)
/-- What `State.raisePoints` leaves unchanged of the Order Gate. -/
@[simp] theorem State.raisePoints_gate (s : State) :
    (s.raisePoints).gate.permits = s.gate.permits ∧ (s.raisePoints).gate.orders = s.gate.orders
      ∧ (s.raisePoints).gate.held = s.gate.held ∧ (s.raisePoints).gate.own = s.gate.own
      ∧ (s.raisePoints).gate.standdowns = s.gate.standdowns := by
  and_intros <;> (unfold State.raisePoints; split <;> simp)
/-- What `State.raisePoints` leaves unchanged of the Crossing Sequencer. -/
@[simp] theorem State.raisePoints_seq (s : State) :
    (s.raisePoints).seq.table = s.seq.table ∧ (s.raisePoints).seq.phase = s.seq.phase
      ∧ (s.raisePoints).seq.standdowns = s.seq.standdowns ∧ (s.raisePoints).seq.serial = s.seq.serial
      ∧ (s.raisePoints).seq.tracking = s.seq.tracking ∧ (s.raisePoints).seq.interrupted = s.seq.interrupted
      ∧ (s.raisePoints).seq.request = s.seq.request ∧ (s.raisePoints).seq.recovery = s.seq.recovery
      ∧ (s.raisePoints).seq.dwell = s.seq.dwell ∧ (s.raisePoints).seq.limit = s.seq.limit := by
  and_intros <;> (unfold State.raisePoints; split <;> simp)
/-- What `State.raisePoints` leaves unchanged of the Channel Controller. -/
@[simp] theorem State.raisePoints_chan (s : State) :
    (s.raisePoints).chan.record = s.chan.record ∧ (s.raisePoints).chan.vessels = s.chan.vessels
      ∧ (s.raisePoints).chan.state = s.chan.state ∧ (s.raisePoints).chan.north = s.chan.north
      ∧ (s.raisePoints).chan.south = s.chan.south ∧ (s.raisePoints).chan.closing = s.chan.closing
      ∧ (s.raisePoints).chan.phaseSeen = s.chan.phaseSeen
      ∧ (s.raisePoints).chan.standdowns = s.chan.standdowns
      ∧ (s.raisePoints).chan.changeoverPending = s.chan.changeoverPending
      ∧ (s.raisePoints).chan.greenTimer = s.chan.greenTimer
      ∧ (s.raisePoints).chan.changeoverTimer = s.chan.changeoverTimer
      ∧ (s.raisePoints).chan.retryTimer = s.chan.retryTimer
      ∧ (s.raisePoints).chan.greenExpired = s.chan.greenExpired
      ∧ (s.raisePoints).chan.ignoredCalls = s.chan.ignoredCalls
      ∧ (s.raisePoints).chan.badDirections = s.chan.badDirections
      ∧ (s.raisePoints).chan.unexpectedPassages = s.chan.unexpectedPassages := by
  and_intros <;> (unfold State.raisePoints; split <;> simp)
/-- What `State.raisePoints` leaves unchanged of the Condition Evaluator. -/
@[simp] theorem State.raisePoints_cond (s : State) :
    (s.raisePoints).cond.table = s.cond.table ∧ (s.raisePoints).cond.counterChanges = s.cond.counterChanges := by
  and_intros <;> (unfold State.raisePoints; split <;> simp)
/-- What `State.raisePoints` leaves unchanged of the Point Image. -/
@[simp] theorem State.raisePoints_points (s : State) :
    (s.raisePoints).points.map = s.points.map ∧ (s.raisePoints).points.firstPair = s.points.firstPair
      ∧ (s.raisePoints).points.pairLoss = s.points.pairLoss := by
  and_intros <;> (unfold State.raisePoints; split <;> simp)
/-- What `State.raisePoints` leaves unchanged of the Duty Counter Unit. -/
@[simp] theorem State.raisePoints_duty (s : State) :
    (s.raisePoints).duty.residency = s.duty.residency ∧ (s.raisePoints).duty.occupancy = s.duty.occupancy
      ∧ (s.raisePoints).duty.standing = s.duty.standing ∧ (s.raisePoints).duty.phase = s.duty.phase
      ∧ (s.raisePoints).duty.frozen = s.duty.frozen ∧ (s.raisePoints).duty.bands = s.duty.bands
      ∧ (s.raisePoints).duty.counters = s.duty.counters := by
  and_intros <;> (unfold State.raisePoints; split <;> simp)

/-- The blocks `State.writePoint` leaves unchanged. -/
@[simp] theorem State.writePoint_frame (s : State) (n : Nat) (v : Int) :
    (s.writePoint n v).power = s.power ∧ (s.writePoint n v).now = s.now
      ∧ (s.writePoint n v).pending = s.pending ∧ (s.writePoint n v).field = s.field
      ∧ (s.writePoint n v).span = s.span ∧ (s.writePoint n v).unit = s.unit := by
  and_intros <;> (unfold State.writePoint State.pointEvent; split <;> simp)
/-- What `State.writePoint` leaves unchanged of the Console Port. -/
@[simp] theorem State.writePoint_console (s : State) (n : Nat) (v : Int) :
    (s.writePoint n v).console.ingress = s.console.ingress
      ∧ (s.writePoint n v).console.arrivals = s.console.arrivals
      ∧ (s.writePoint n v).console.restart = s.console.restart
      ∧ (s.writePoint n v).console.receiver = s.console.receiver
      ∧ (s.writePoint n v).console.line = s.console.line
      ∧ (s.writePoint n v).console.counts = s.console.counts
      ∧ (s.writePoint n v).console.sending = s.console.sending
      ∧ (s.writePoint n v).console.ingressOverflows = s.console.ingressOverflows := by
  and_intros <;> (unfold State.writePoint State.pointEvent; split <;> simp)
/-- What `State.writePoint` leaves unchanged of the Order Gate. -/
@[simp] theorem State.writePoint_gate (s : State) (n : Nat) (v : Int) :
    (s.writePoint n v).gate.permits = s.gate.permits ∧ (s.writePoint n v).gate.orders = s.gate.orders
      ∧ (s.writePoint n v).gate.held = s.gate.held ∧ (s.writePoint n v).gate.own = s.gate.own
      ∧ (s.writePoint n v).gate.standdowns = s.gate.standdowns := by
  and_intros <;> (unfold State.writePoint State.pointEvent; split <;> simp)
/-- What `State.writePoint` leaves unchanged of the Crossing Sequencer. -/
@[simp] theorem State.writePoint_seq (s : State) (n : Nat) (v : Int) :
    (s.writePoint n v).seq.table = s.seq.table ∧ (s.writePoint n v).seq.phase = s.seq.phase
      ∧ (s.writePoint n v).seq.standdowns = s.seq.standdowns ∧ (s.writePoint n v).seq.serial = s.seq.serial
      ∧ (s.writePoint n v).seq.tracking = s.seq.tracking
      ∧ (s.writePoint n v).seq.interrupted = s.seq.interrupted
      ∧ (s.writePoint n v).seq.request = s.seq.request ∧ (s.writePoint n v).seq.recovery = s.seq.recovery
      ∧ (s.writePoint n v).seq.dwell = s.seq.dwell ∧ (s.writePoint n v).seq.limit = s.seq.limit := by
  and_intros <;> (unfold State.writePoint State.pointEvent; split <;> simp)
/-- What `State.writePoint` leaves unchanged of the Channel Controller. -/
@[simp] theorem State.writePoint_chan (s : State) (n : Nat) (v : Int) :
    (s.writePoint n v).chan.record = s.chan.record ∧ (s.writePoint n v).chan.vessels = s.chan.vessels
      ∧ (s.writePoint n v).chan.state = s.chan.state ∧ (s.writePoint n v).chan.north = s.chan.north
      ∧ (s.writePoint n v).chan.south = s.chan.south ∧ (s.writePoint n v).chan.closing = s.chan.closing
      ∧ (s.writePoint n v).chan.phaseSeen = s.chan.phaseSeen
      ∧ (s.writePoint n v).chan.standdowns = s.chan.standdowns
      ∧ (s.writePoint n v).chan.changeoverPending = s.chan.changeoverPending
      ∧ (s.writePoint n v).chan.greenTimer = s.chan.greenTimer
      ∧ (s.writePoint n v).chan.changeoverTimer = s.chan.changeoverTimer
      ∧ (s.writePoint n v).chan.retryTimer = s.chan.retryTimer
      ∧ (s.writePoint n v).chan.greenExpired = s.chan.greenExpired
      ∧ (s.writePoint n v).chan.ignoredCalls = s.chan.ignoredCalls
      ∧ (s.writePoint n v).chan.badDirections = s.chan.badDirections
      ∧ (s.writePoint n v).chan.unexpectedPassages = s.chan.unexpectedPassages := by
  and_intros <;> (unfold State.writePoint State.pointEvent; split <;> simp)
/-- What `State.writePoint` leaves unchanged of the Condition Evaluator. -/
@[simp] theorem State.writePoint_cond (s : State) (n : Nat) (v : Int) :
    (s.writePoint n v).cond.table = s.cond.table
      ∧ (s.writePoint n v).cond.counterChanges = s.cond.counterChanges := by
  and_intros <;> (unfold State.writePoint State.pointEvent; split <;> simp)
/-- What `State.writePoint` leaves unchanged of the Point Image. -/
@[simp] theorem State.writePoint_points (s : State) (n : Nat) (v : Int) :
    (s.writePoint n v).points.map = s.points.map ∧ (s.writePoint n v).points.firstPair = s.points.firstPair
      ∧ (s.writePoint n v).points.pairLoss = s.points.pairLoss := by
  and_intros <;> (unfold State.writePoint State.pointEvent; split <;> simp)
/-- What `State.writePoint` leaves unchanged of the Duty Counter Unit. -/
@[simp] theorem State.writePoint_duty (s : State) (n : Nat) (v : Int) :
    (s.writePoint n v).duty.residency = s.duty.residency
      ∧ (s.writePoint n v).duty.occupancy = s.duty.occupancy
      ∧ (s.writePoint n v).duty.standing = s.duty.standing ∧ (s.writePoint n v).duty.phase = s.duty.phase
      ∧ (s.writePoint n v).duty.frozen = s.duty.frozen ∧ (s.writePoint n v).duty.bands = s.duty.bands
      ∧ (s.writePoint n v).duty.counters = s.duty.counters := by
  and_intros <;> (unfold State.writePoint State.pointEvent; split <;> simp)

/-- The blocks `State.settleSpanPoints` leaves unchanged. -/
@[simp] theorem State.settleSpanPoints_frame (s : State) :
    (s.settleSpanPoints).power = s.power ∧ (s.settleSpanPoints).now = s.now
      ∧ (s.settleSpanPoints).pending = s.pending ∧ (s.settleSpanPoints).console = s.console
      ∧ (s.settleSpanPoints).field = s.field ∧ (s.settleSpanPoints).cond = s.cond
      ∧ (s.settleSpanPoints).gate = s.gate ∧ (s.settleSpanPoints).span = s.span
      ∧ (s.settleSpanPoints).seq = s.seq ∧ (s.settleSpanPoints).chan = s.chan
      ∧ (s.settleSpanPoints).duty = s.duty ∧ (s.settleSpanPoints).unit = s.unit := by
  and_intros <;> (simp [State.settleSpanPoints])
/-- What `State.settleSpanPoints` leaves unchanged of the Point Image. -/
@[simp] theorem State.settleSpanPoints_points (s : State) :
    (s.settleSpanPoints).points.map = s.points.map
      ∧ (s.settleSpanPoints).points.firstPair = s.points.firstPair
      ∧ (s.settleSpanPoints).points.pairLoss = s.points.pairLoss := by
  and_intros <;> (simp [State.settleSpanPoints])

/-- The blocks `State.heightWrite` leaves unchanged. -/
@[simp] theorem State.heightWrite_frame (s : State) (t : Tower) (h : Int) :
    (s.heightWrite t h).power = s.power ∧ (s.heightWrite t h).now = s.now
      ∧ (s.heightWrite t h).pending = s.pending ∧ (s.heightWrite t h).field = s.field
      ∧ (s.heightWrite t h).span = s.span ∧ (s.heightWrite t h).unit = s.unit := by
  and_intros <;> (cases t <;> unfold State.heightWrite State.pointEvent <;> dsimp only <;> (repeat' split) <;> simp)
/-- What `State.heightWrite` leaves unchanged of the Console Port. -/
@[simp] theorem State.heightWrite_console (s : State) (t : Tower) (h : Int) :
    (s.heightWrite t h).console.ingress = s.console.ingress
      ∧ (s.heightWrite t h).console.arrivals = s.console.arrivals
      ∧ (s.heightWrite t h).console.restart = s.console.restart
      ∧ (s.heightWrite t h).console.receiver = s.console.receiver
      ∧ (s.heightWrite t h).console.line = s.console.line
      ∧ (s.heightWrite t h).console.counts = s.console.counts
      ∧ (s.heightWrite t h).console.sending = s.console.sending
      ∧ (s.heightWrite t h).console.ingressOverflows = s.console.ingressOverflows := by
  and_intros <;> (cases t <;> unfold State.heightWrite State.pointEvent <;> dsimp only <;> (repeat' split) <;> simp)
/-- What `State.heightWrite` leaves unchanged of the Order Gate. -/
@[simp] theorem State.heightWrite_gate (s : State) (t : Tower) (h : Int) :
    (s.heightWrite t h).gate.permits = s.gate.permits ∧ (s.heightWrite t h).gate.orders = s.gate.orders
      ∧ (s.heightWrite t h).gate.held = s.gate.held ∧ (s.heightWrite t h).gate.own = s.gate.own
      ∧ (s.heightWrite t h).gate.standdowns = s.gate.standdowns := by
  and_intros <;> (cases t <;> unfold State.heightWrite State.pointEvent <;> dsimp only <;> (repeat' split) <;> simp)
/-- What `State.heightWrite` leaves unchanged of the Crossing Sequencer. -/
@[simp] theorem State.heightWrite_seq (s : State) (t : Tower) (h : Int) :
    (s.heightWrite t h).seq.table = s.seq.table ∧ (s.heightWrite t h).seq.phase = s.seq.phase
      ∧ (s.heightWrite t h).seq.standdowns = s.seq.standdowns
      ∧ (s.heightWrite t h).seq.serial = s.seq.serial ∧ (s.heightWrite t h).seq.tracking = s.seq.tracking
      ∧ (s.heightWrite t h).seq.interrupted = s.seq.interrupted
      ∧ (s.heightWrite t h).seq.request = s.seq.request ∧ (s.heightWrite t h).seq.recovery = s.seq.recovery
      ∧ (s.heightWrite t h).seq.dwell = s.seq.dwell ∧ (s.heightWrite t h).seq.limit = s.seq.limit := by
  and_intros <;> (cases t <;> unfold State.heightWrite State.pointEvent <;> dsimp only <;> (repeat' split) <;> simp)
/-- What `State.heightWrite` leaves unchanged of the Channel Controller. -/
@[simp] theorem State.heightWrite_chan (s : State) (t : Tower) (h : Int) :
    (s.heightWrite t h).chan.record = s.chan.record ∧ (s.heightWrite t h).chan.vessels = s.chan.vessels
      ∧ (s.heightWrite t h).chan.state = s.chan.state ∧ (s.heightWrite t h).chan.north = s.chan.north
      ∧ (s.heightWrite t h).chan.south = s.chan.south ∧ (s.heightWrite t h).chan.closing = s.chan.closing
      ∧ (s.heightWrite t h).chan.phaseSeen = s.chan.phaseSeen
      ∧ (s.heightWrite t h).chan.standdowns = s.chan.standdowns
      ∧ (s.heightWrite t h).chan.changeoverPending = s.chan.changeoverPending
      ∧ (s.heightWrite t h).chan.greenTimer = s.chan.greenTimer
      ∧ (s.heightWrite t h).chan.changeoverTimer = s.chan.changeoverTimer
      ∧ (s.heightWrite t h).chan.retryTimer = s.chan.retryTimer
      ∧ (s.heightWrite t h).chan.greenExpired = s.chan.greenExpired
      ∧ (s.heightWrite t h).chan.ignoredCalls = s.chan.ignoredCalls
      ∧ (s.heightWrite t h).chan.badDirections = s.chan.badDirections
      ∧ (s.heightWrite t h).chan.unexpectedPassages = s.chan.unexpectedPassages := by
  and_intros <;> (cases t <;> unfold State.heightWrite State.pointEvent <;> dsimp only <;> (repeat' split) <;> simp)
/-- What `State.heightWrite` leaves unchanged of the Condition Evaluator. -/
@[simp] theorem State.heightWrite_cond (s : State) (t : Tower) (h : Int) :
    (s.heightWrite t h).cond.table = s.cond.table
      ∧ (s.heightWrite t h).cond.counterChanges = s.cond.counterChanges := by
  and_intros <;> (cases t <;> unfold State.heightWrite State.pointEvent <;> dsimp only <;> (repeat' split) <;> simp)
/-- What `State.heightWrite` leaves unchanged of the Point Image. -/
@[simp] theorem State.heightWrite_points (s : State) (t : Tower) (h : Int) :
    (s.heightWrite t h).points.map = s.points.map
      ∧ (s.heightWrite t h).points.firstPair = s.points.firstPair
      ∧ (s.heightWrite t h).points.pairLoss = s.points.pairLoss := by
  and_intros <;> (cases t <;> unfold State.heightWrite State.pointEvent <;> dsimp only <;> (repeat' split) <;> simp)
/-- What `State.heightWrite` leaves unchanged of the Duty Counter Unit. -/
@[simp] theorem State.heightWrite_duty (s : State) (t : Tower) (h : Int) :
    (s.heightWrite t h).duty.residency = s.duty.residency
      ∧ (s.heightWrite t h).duty.occupancy = s.duty.occupancy
      ∧ (s.heightWrite t h).duty.standing = s.duty.standing ∧ (s.heightWrite t h).duty.phase = s.duty.phase
      ∧ (s.heightWrite t h).duty.frozen = s.duty.frozen ∧ (s.heightWrite t h).duty.bands = s.duty.bands
      ∧ (s.heightWrite t h).duty.counters = s.duty.counters := by
  and_intros <;> (cases t <;> unfold State.heightWrite State.pointEvent <;> dsimp only <;> (repeat' split) <;> simp)

/-- The blocks `State.pairWrite` leaves unchanged. -/
@[simp] theorem State.pairWrite_frame (s : State) (a b c d e : Int) :
    (s.pairWrite a b c d e).power = s.power ∧ (s.pairWrite a b c d e).now = s.now
      ∧ (s.pairWrite a b c d e).pending = s.pending ∧ (s.pairWrite a b c d e).field = s.field
      ∧ (s.pairWrite a b c d e).span = s.span ∧ (s.pairWrite a b c d e).unit = s.unit := by
  and_intros <;> (unfold State.pairWrite State.pointEvent; (repeat' split) <;> simp)
/-- What `State.pairWrite` leaves unchanged of the Console Port. -/
@[simp] theorem State.pairWrite_console (s : State) (a b c d e : Int) :
    (s.pairWrite a b c d e).console.ingress = s.console.ingress
      ∧ (s.pairWrite a b c d e).console.arrivals = s.console.arrivals
      ∧ (s.pairWrite a b c d e).console.restart = s.console.restart
      ∧ (s.pairWrite a b c d e).console.receiver = s.console.receiver
      ∧ (s.pairWrite a b c d e).console.line = s.console.line
      ∧ (s.pairWrite a b c d e).console.counts = s.console.counts
      ∧ (s.pairWrite a b c d e).console.sending = s.console.sending
      ∧ (s.pairWrite a b c d e).console.ingressOverflows = s.console.ingressOverflows := by
  and_intros <;> (unfold State.pairWrite State.pointEvent; (repeat' split) <;> simp)
/-- What `State.pairWrite` leaves unchanged of the Order Gate. -/
@[simp] theorem State.pairWrite_gate (s : State) (a b c d e : Int) :
    (s.pairWrite a b c d e).gate.permits = s.gate.permits
      ∧ (s.pairWrite a b c d e).gate.orders = s.gate.orders
      ∧ (s.pairWrite a b c d e).gate.held = s.gate.held ∧ (s.pairWrite a b c d e).gate.own = s.gate.own
      ∧ (s.pairWrite a b c d e).gate.standdowns = s.gate.standdowns := by
  and_intros <;> (unfold State.pairWrite State.pointEvent; (repeat' split) <;> simp)
/-- What `State.pairWrite` leaves unchanged of the Crossing Sequencer. -/
@[simp] theorem State.pairWrite_seq (s : State) (a b c d e : Int) :
    (s.pairWrite a b c d e).seq.table = s.seq.table ∧ (s.pairWrite a b c d e).seq.phase = s.seq.phase
      ∧ (s.pairWrite a b c d e).seq.standdowns = s.seq.standdowns
      ∧ (s.pairWrite a b c d e).seq.serial = s.seq.serial
      ∧ (s.pairWrite a b c d e).seq.tracking = s.seq.tracking
      ∧ (s.pairWrite a b c d e).seq.interrupted = s.seq.interrupted
      ∧ (s.pairWrite a b c d e).seq.request = s.seq.request
      ∧ (s.pairWrite a b c d e).seq.recovery = s.seq.recovery
      ∧ (s.pairWrite a b c d e).seq.dwell = s.seq.dwell ∧ (s.pairWrite a b c d e).seq.limit = s.seq.limit := by
  and_intros <;> (unfold State.pairWrite State.pointEvent; (repeat' split) <;> simp)
/-- What `State.pairWrite` leaves unchanged of the Channel Controller. -/
@[simp] theorem State.pairWrite_chan (s : State) (a b c d e : Int) :
    (s.pairWrite a b c d e).chan.record = s.chan.record
      ∧ (s.pairWrite a b c d e).chan.vessels = s.chan.vessels
      ∧ (s.pairWrite a b c d e).chan.state = s.chan.state
      ∧ (s.pairWrite a b c d e).chan.north = s.chan.north
      ∧ (s.pairWrite a b c d e).chan.south = s.chan.south
      ∧ (s.pairWrite a b c d e).chan.closing = s.chan.closing
      ∧ (s.pairWrite a b c d e).chan.phaseSeen = s.chan.phaseSeen
      ∧ (s.pairWrite a b c d e).chan.standdowns = s.chan.standdowns
      ∧ (s.pairWrite a b c d e).chan.changeoverPending = s.chan.changeoverPending
      ∧ (s.pairWrite a b c d e).chan.greenTimer = s.chan.greenTimer
      ∧ (s.pairWrite a b c d e).chan.changeoverTimer = s.chan.changeoverTimer
      ∧ (s.pairWrite a b c d e).chan.retryTimer = s.chan.retryTimer
      ∧ (s.pairWrite a b c d e).chan.greenExpired = s.chan.greenExpired
      ∧ (s.pairWrite a b c d e).chan.ignoredCalls = s.chan.ignoredCalls
      ∧ (s.pairWrite a b c d e).chan.badDirections = s.chan.badDirections
      ∧ (s.pairWrite a b c d e).chan.unexpectedPassages = s.chan.unexpectedPassages := by
  and_intros <;> (unfold State.pairWrite State.pointEvent; (repeat' split) <;> simp)
/-- What `State.pairWrite` leaves unchanged of the Condition Evaluator. -/
@[simp] theorem State.pairWrite_cond (s : State) (a b c d e : Int) :
    (s.pairWrite a b c d e).cond.table = s.cond.table
      ∧ (s.pairWrite a b c d e).cond.counterChanges = s.cond.counterChanges := by
  and_intros <;> (unfold State.pairWrite State.pointEvent; (repeat' split) <;> simp)
/-- What `State.pairWrite` leaves unchanged of the Point Image. -/
@[simp] theorem State.pairWrite_points (s : State) (a b c d e : Int) :
    (s.pairWrite a b c d e).points.map = s.points.map := by
  unfold State.pairWrite State.pointEvent; (repeat' split) <;> simp
/-- What `State.pairWrite` leaves unchanged of the Duty Counter Unit. -/
@[simp] theorem State.pairWrite_duty (s : State) (a b c d e : Int) :
    (s.pairWrite a b c d e).duty.residency = s.duty.residency
      ∧ (s.pairWrite a b c d e).duty.occupancy = s.duty.occupancy
      ∧ (s.pairWrite a b c d e).duty.standing = s.duty.standing
      ∧ (s.pairWrite a b c d e).duty.phase = s.duty.phase
      ∧ (s.pairWrite a b c d e).duty.frozen = s.duty.frozen
      ∧ (s.pairWrite a b c d e).duty.bands = s.duty.bands
      ∧ (s.pairWrite a b c d e).duty.counters = s.duty.counters := by
  and_intros <;> (unfold State.pairWrite State.pointEvent; (repeat' split) <;> simp)

/-- The blocks `State.pairLossWrite` leaves unchanged. -/
@[simp] theorem State.pairLossWrite_frame (s : State) :
    (s.pairLossWrite).power = s.power ∧ (s.pairLossWrite).now = s.now
      ∧ (s.pairLossWrite).pending = s.pending ∧ (s.pairLossWrite).field = s.field
      ∧ (s.pairLossWrite).span = s.span ∧ (s.pairLossWrite).unit = s.unit := by
  and_intros <;> (unfold State.pairLossWrite State.pointEvent; (repeat' split) <;> simp)
/-- What `State.pairLossWrite` leaves unchanged of the Console Port. -/
@[simp] theorem State.pairLossWrite_console (s : State) :
    (s.pairLossWrite).console.ingress = s.console.ingress
      ∧ (s.pairLossWrite).console.arrivals = s.console.arrivals
      ∧ (s.pairLossWrite).console.restart = s.console.restart
      ∧ (s.pairLossWrite).console.receiver = s.console.receiver
      ∧ (s.pairLossWrite).console.line = s.console.line
      ∧ (s.pairLossWrite).console.counts = s.console.counts
      ∧ (s.pairLossWrite).console.sending = s.console.sending
      ∧ (s.pairLossWrite).console.ingressOverflows = s.console.ingressOverflows := by
  and_intros <;> (unfold State.pairLossWrite State.pointEvent; (repeat' split) <;> simp)
/-- What `State.pairLossWrite` leaves unchanged of the Order Gate. -/
@[simp] theorem State.pairLossWrite_gate (s : State) :
    (s.pairLossWrite).gate.permits = s.gate.permits ∧ (s.pairLossWrite).gate.orders = s.gate.orders
      ∧ (s.pairLossWrite).gate.held = s.gate.held ∧ (s.pairLossWrite).gate.own = s.gate.own
      ∧ (s.pairLossWrite).gate.standdowns = s.gate.standdowns := by
  and_intros <;> (unfold State.pairLossWrite State.pointEvent; (repeat' split) <;> simp)
/-- What `State.pairLossWrite` leaves unchanged of the Crossing Sequencer. -/
@[simp] theorem State.pairLossWrite_seq (s : State) :
    (s.pairLossWrite).seq.table = s.seq.table ∧ (s.pairLossWrite).seq.phase = s.seq.phase
      ∧ (s.pairLossWrite).seq.standdowns = s.seq.standdowns ∧ (s.pairLossWrite).seq.serial = s.seq.serial
      ∧ (s.pairLossWrite).seq.tracking = s.seq.tracking
      ∧ (s.pairLossWrite).seq.interrupted = s.seq.interrupted
      ∧ (s.pairLossWrite).seq.request = s.seq.request ∧ (s.pairLossWrite).seq.recovery = s.seq.recovery
      ∧ (s.pairLossWrite).seq.dwell = s.seq.dwell ∧ (s.pairLossWrite).seq.limit = s.seq.limit := by
  and_intros <;> (unfold State.pairLossWrite State.pointEvent; (repeat' split) <;> simp)
/-- What `State.pairLossWrite` leaves unchanged of the Channel Controller. -/
@[simp] theorem State.pairLossWrite_chan (s : State) :
    (s.pairLossWrite).chan.record = s.chan.record ∧ (s.pairLossWrite).chan.vessels = s.chan.vessels
      ∧ (s.pairLossWrite).chan.state = s.chan.state ∧ (s.pairLossWrite).chan.north = s.chan.north
      ∧ (s.pairLossWrite).chan.south = s.chan.south ∧ (s.pairLossWrite).chan.closing = s.chan.closing
      ∧ (s.pairLossWrite).chan.phaseSeen = s.chan.phaseSeen
      ∧ (s.pairLossWrite).chan.standdowns = s.chan.standdowns
      ∧ (s.pairLossWrite).chan.changeoverPending = s.chan.changeoverPending
      ∧ (s.pairLossWrite).chan.greenTimer = s.chan.greenTimer
      ∧ (s.pairLossWrite).chan.changeoverTimer = s.chan.changeoverTimer
      ∧ (s.pairLossWrite).chan.retryTimer = s.chan.retryTimer
      ∧ (s.pairLossWrite).chan.greenExpired = s.chan.greenExpired
      ∧ (s.pairLossWrite).chan.ignoredCalls = s.chan.ignoredCalls
      ∧ (s.pairLossWrite).chan.badDirections = s.chan.badDirections
      ∧ (s.pairLossWrite).chan.unexpectedPassages = s.chan.unexpectedPassages := by
  and_intros <;> (unfold State.pairLossWrite State.pointEvent; (repeat' split) <;> simp)
/-- What `State.pairLossWrite` leaves unchanged of the Condition Evaluator. -/
@[simp] theorem State.pairLossWrite_cond (s : State) :
    (s.pairLossWrite).cond.table = s.cond.table
      ∧ (s.pairLossWrite).cond.counterChanges = s.cond.counterChanges := by
  and_intros <;> (unfold State.pairLossWrite State.pointEvent; (repeat' split) <;> simp)
/-- What `State.pairLossWrite` leaves unchanged of the Point Image. -/
@[simp] theorem State.pairLossWrite_points (s : State) :
    (s.pairLossWrite).points.map = s.points.map ∧ (s.pairLossWrite).points.firstPair = s.points.firstPair := by
  and_intros <;> (unfold State.pairLossWrite State.pointEvent; (repeat' split) <;> simp)
/-- What `State.pairLossWrite` leaves unchanged of the Duty Counter Unit. -/
@[simp] theorem State.pairLossWrite_duty (s : State) :
    (s.pairLossWrite).duty.residency = s.duty.residency
      ∧ (s.pairLossWrite).duty.occupancy = s.duty.occupancy
      ∧ (s.pairLossWrite).duty.standing = s.duty.standing ∧ (s.pairLossWrite).duty.phase = s.duty.phase
      ∧ (s.pairLossWrite).duty.frozen = s.duty.frozen ∧ (s.pairLossWrite).duty.bands = s.duty.bands
      ∧ (s.pairLossWrite).duty.counters = s.duty.counters := by
  and_intros <;> (unfold State.pairLossWrite State.pointEvent; (repeat' split) <;> simp)

/-- The blocks `State.setMotion` leaves unchanged. -/
@[simp] theorem State.setMotion_frame (s : State) (m : MotionState) :
    (s.setMotion m).power = s.power ∧ (s.setMotion m).now = s.now ∧ (s.setMotion m).pending = s.pending
      ∧ (s.setMotion m).field = s.field ∧ (s.setMotion m).unit = s.unit := by
  and_intros <;> (simp [State.setMotion])
/-- What `State.setMotion` leaves unchanged of the Console Port. -/
@[simp] theorem State.setMotion_console (s : State) (m : MotionState) :
    (s.setMotion m).console.ingress = s.console.ingress
      ∧ (s.setMotion m).console.arrivals = s.console.arrivals
      ∧ (s.setMotion m).console.restart = s.console.restart
      ∧ (s.setMotion m).console.receiver = s.console.receiver
      ∧ (s.setMotion m).console.line = s.console.line ∧ (s.setMotion m).console.counts = s.console.counts
      ∧ (s.setMotion m).console.sending = s.console.sending
      ∧ (s.setMotion m).console.ingressOverflows = s.console.ingressOverflows := by
  and_intros <;> (simp [State.setMotion])
/-- What `State.setMotion` leaves unchanged of the Order Gate. -/
@[simp] theorem State.setMotion_gate (s : State) (m : MotionState) :
    (s.setMotion m).gate.permits = s.gate.permits ∧ (s.setMotion m).gate.orders = s.gate.orders
      ∧ (s.setMotion m).gate.held = s.gate.held ∧ (s.setMotion m).gate.own = s.gate.own
      ∧ (s.setMotion m).gate.standdowns = s.gate.standdowns := by
  and_intros <;> (simp [State.setMotion])
/-- What `State.setMotion` leaves unchanged of the Crossing Sequencer. -/
@[simp] theorem State.setMotion_seq (s : State) (m : MotionState) :
    (s.setMotion m).seq.table = s.seq.table ∧ (s.setMotion m).seq.phase = s.seq.phase
      ∧ (s.setMotion m).seq.standdowns = s.seq.standdowns ∧ (s.setMotion m).seq.serial = s.seq.serial
      ∧ (s.setMotion m).seq.tracking = s.seq.tracking ∧ (s.setMotion m).seq.interrupted = s.seq.interrupted
      ∧ (s.setMotion m).seq.request = s.seq.request ∧ (s.setMotion m).seq.recovery = s.seq.recovery
      ∧ (s.setMotion m).seq.dwell = s.seq.dwell ∧ (s.setMotion m).seq.limit = s.seq.limit := by
  and_intros <;> (simp [State.setMotion])
/-- What `State.setMotion` leaves unchanged of the Channel Controller. -/
@[simp] theorem State.setMotion_chan (s : State) (m : MotionState) :
    (s.setMotion m).chan.record = s.chan.record ∧ (s.setMotion m).chan.vessels = s.chan.vessels
      ∧ (s.setMotion m).chan.state = s.chan.state ∧ (s.setMotion m).chan.north = s.chan.north
      ∧ (s.setMotion m).chan.south = s.chan.south ∧ (s.setMotion m).chan.closing = s.chan.closing
      ∧ (s.setMotion m).chan.phaseSeen = s.chan.phaseSeen
      ∧ (s.setMotion m).chan.standdowns = s.chan.standdowns
      ∧ (s.setMotion m).chan.changeoverPending = s.chan.changeoverPending
      ∧ (s.setMotion m).chan.greenTimer = s.chan.greenTimer
      ∧ (s.setMotion m).chan.changeoverTimer = s.chan.changeoverTimer
      ∧ (s.setMotion m).chan.retryTimer = s.chan.retryTimer
      ∧ (s.setMotion m).chan.greenExpired = s.chan.greenExpired
      ∧ (s.setMotion m).chan.ignoredCalls = s.chan.ignoredCalls
      ∧ (s.setMotion m).chan.badDirections = s.chan.badDirections
      ∧ (s.setMotion m).chan.unexpectedPassages = s.chan.unexpectedPassages := by
  and_intros <;> (simp [State.setMotion])
/-- What `State.setMotion` leaves unchanged of the Condition Evaluator. -/
@[simp] theorem State.setMotion_cond (s : State) (m : MotionState) :
    (s.setMotion m).cond.table = s.cond.table ∧ (s.setMotion m).cond.counterChanges = s.cond.counterChanges := by
  and_intros <;> (simp [State.setMotion])
/-- What `State.setMotion` leaves unchanged of the Span Supervisor. -/
@[simp] theorem State.setMotion_span (s : State) (m : MotionState) :
    (s.setMotion m).span.record = s.span.record ∧ (s.setMotion m).span.correction = s.span.correction
      ∧ (s.setMotion m).span.level = s.span.level ∧ (s.setMotion m).span.lastSkew = s.span.lastSkew
      ∧ (s.setMotion m).span.lastHold = s.span.lastHold
      ∧ (s.setMotion m).span.holdRunning = s.span.holdRunning
      ∧ (s.setMotion m).span.startWindow = s.span.startWindow
      ∧ (s.setMotion m).span.stopTimer = s.span.stopTimer ∧ (s.setMotion m).span.towerA = s.span.towerA
      ∧ (s.setMotion m).span.towerB = s.span.towerB ∧ (s.setMotion m).span.previous = s.span.previous
      ∧ (s.setMotion m).span.lastTrim = s.span.lastTrim ∧ (s.setMotion m).span.stopKind = s.span.stopKind
      ∧ (s.setMotion m).span.levelChanges = s.span.levelChanges := by
  and_intros <;> (simp [State.setMotion])
/-- What `State.setMotion` leaves unchanged of the Point Image. -/
@[simp] theorem State.setMotion_points (s : State) (m : MotionState) :
    (s.setMotion m).points.map = s.points.map ∧ (s.setMotion m).points.firstPair = s.points.firstPair
      ∧ (s.setMotion m).points.pairLoss = s.points.pairLoss := by
  and_intros <;> (simp [State.setMotion])
/-- What `State.setMotion` leaves unchanged of the Duty Counter Unit. -/
@[simp] theorem State.setMotion_duty (s : State) (m : MotionState) :
    (s.setMotion m).duty.residency = s.duty.residency ∧ (s.setMotion m).duty.occupancy = s.duty.occupancy
      ∧ (s.setMotion m).duty.standing = s.duty.standing ∧ (s.setMotion m).duty.phase = s.duty.phase
      ∧ (s.setMotion m).duty.frozen = s.duty.frozen ∧ (s.setMotion m).duty.bands = s.duty.bands
      ∧ (s.setMotion m).duty.counters = s.duty.counters := by
  and_intros <;> (simp [State.setMotion])

/-- The blocks `State.setCorrection` leaves unchanged. -/
@[simp] theorem State.setCorrection_frame (s : State) (c : Correction) :
    (s.setCorrection c).power = s.power ∧ (s.setCorrection c).now = s.now
      ∧ (s.setCorrection c).pending = s.pending ∧ (s.setCorrection c).field = s.field
      ∧ (s.setCorrection c).unit = s.unit := by
  and_intros <;> (simp [State.setCorrection])
/-- What `State.setCorrection` leaves unchanged of the Console Port. -/
@[simp] theorem State.setCorrection_console (s : State) (c : Correction) :
    (s.setCorrection c).console.ingress = s.console.ingress
      ∧ (s.setCorrection c).console.arrivals = s.console.arrivals
      ∧ (s.setCorrection c).console.restart = s.console.restart
      ∧ (s.setCorrection c).console.receiver = s.console.receiver
      ∧ (s.setCorrection c).console.line = s.console.line
      ∧ (s.setCorrection c).console.counts = s.console.counts
      ∧ (s.setCorrection c).console.sending = s.console.sending
      ∧ (s.setCorrection c).console.ingressOverflows = s.console.ingressOverflows := by
  and_intros <;> (simp [State.setCorrection])
/-- What `State.setCorrection` leaves unchanged of the Order Gate. -/
@[simp] theorem State.setCorrection_gate (s : State) (c : Correction) :
    (s.setCorrection c).gate.permits = s.gate.permits ∧ (s.setCorrection c).gate.orders = s.gate.orders
      ∧ (s.setCorrection c).gate.held = s.gate.held ∧ (s.setCorrection c).gate.own = s.gate.own
      ∧ (s.setCorrection c).gate.standdowns = s.gate.standdowns := by
  and_intros <;> (simp [State.setCorrection])
/-- What `State.setCorrection` leaves unchanged of the Crossing Sequencer. -/
@[simp] theorem State.setCorrection_seq (s : State) (c : Correction) :
    (s.setCorrection c).seq.table = s.seq.table ∧ (s.setCorrection c).seq.phase = s.seq.phase
      ∧ (s.setCorrection c).seq.standdowns = s.seq.standdowns
      ∧ (s.setCorrection c).seq.serial = s.seq.serial ∧ (s.setCorrection c).seq.tracking = s.seq.tracking
      ∧ (s.setCorrection c).seq.interrupted = s.seq.interrupted
      ∧ (s.setCorrection c).seq.request = s.seq.request ∧ (s.setCorrection c).seq.recovery = s.seq.recovery
      ∧ (s.setCorrection c).seq.dwell = s.seq.dwell ∧ (s.setCorrection c).seq.limit = s.seq.limit := by
  and_intros <;> (simp [State.setCorrection])
/-- What `State.setCorrection` leaves unchanged of the Channel Controller. -/
@[simp] theorem State.setCorrection_chan (s : State) (c : Correction) :
    (s.setCorrection c).chan.record = s.chan.record ∧ (s.setCorrection c).chan.vessels = s.chan.vessels
      ∧ (s.setCorrection c).chan.state = s.chan.state ∧ (s.setCorrection c).chan.north = s.chan.north
      ∧ (s.setCorrection c).chan.south = s.chan.south ∧ (s.setCorrection c).chan.closing = s.chan.closing
      ∧ (s.setCorrection c).chan.phaseSeen = s.chan.phaseSeen
      ∧ (s.setCorrection c).chan.standdowns = s.chan.standdowns
      ∧ (s.setCorrection c).chan.changeoverPending = s.chan.changeoverPending
      ∧ (s.setCorrection c).chan.greenTimer = s.chan.greenTimer
      ∧ (s.setCorrection c).chan.changeoverTimer = s.chan.changeoverTimer
      ∧ (s.setCorrection c).chan.retryTimer = s.chan.retryTimer
      ∧ (s.setCorrection c).chan.greenExpired = s.chan.greenExpired
      ∧ (s.setCorrection c).chan.ignoredCalls = s.chan.ignoredCalls
      ∧ (s.setCorrection c).chan.badDirections = s.chan.badDirections
      ∧ (s.setCorrection c).chan.unexpectedPassages = s.chan.unexpectedPassages := by
  and_intros <;> (simp [State.setCorrection])
/-- What `State.setCorrection` leaves unchanged of the Condition Evaluator. -/
@[simp] theorem State.setCorrection_cond (s : State) (c : Correction) :
    (s.setCorrection c).cond.table = s.cond.table
      ∧ (s.setCorrection c).cond.counterChanges = s.cond.counterChanges := by
  and_intros <;> (simp [State.setCorrection])
/-- What `State.setCorrection` leaves unchanged of the Span Supervisor. -/
@[simp] theorem State.setCorrection_span (s : State) (c : Correction) :
    (s.setCorrection c).span.record = s.span.record ∧ (s.setCorrection c).span.motion = s.span.motion
      ∧ (s.setCorrection c).span.level = s.span.level ∧ (s.setCorrection c).span.lastSkew = s.span.lastSkew
      ∧ (s.setCorrection c).span.lastHold = s.span.lastHold
      ∧ (s.setCorrection c).span.holdRunning = s.span.holdRunning
      ∧ (s.setCorrection c).span.startWindow = s.span.startWindow
      ∧ (s.setCorrection c).span.stopTimer = s.span.stopTimer
      ∧ (s.setCorrection c).span.towerA = s.span.towerA ∧ (s.setCorrection c).span.towerB = s.span.towerB
      ∧ (s.setCorrection c).span.previous = s.span.previous
      ∧ (s.setCorrection c).span.lastTrim = s.span.lastTrim
      ∧ (s.setCorrection c).span.stopKind = s.span.stopKind
      ∧ (s.setCorrection c).span.levelChanges = s.span.levelChanges := by
  and_intros <;> (simp [State.setCorrection])
/-- What `State.setCorrection` leaves unchanged of the Point Image. -/
@[simp] theorem State.setCorrection_points (s : State) (c : Correction) :
    (s.setCorrection c).points.map = s.points.map
      ∧ (s.setCorrection c).points.firstPair = s.points.firstPair
      ∧ (s.setCorrection c).points.pairLoss = s.points.pairLoss := by
  and_intros <;> (simp [State.setCorrection])
/-- What `State.setCorrection` leaves unchanged of the Duty Counter Unit. -/
@[simp] theorem State.setCorrection_duty (s : State) (c : Correction) :
    (s.setCorrection c).duty.residency = s.duty.residency
      ∧ (s.setCorrection c).duty.occupancy = s.duty.occupancy
      ∧ (s.setCorrection c).duty.standing = s.duty.standing ∧ (s.setCorrection c).duty.phase = s.duty.phase
      ∧ (s.setCorrection c).duty.frozen = s.duty.frozen ∧ (s.setCorrection c).duty.bands = s.duty.bands
      ∧ (s.setCorrection c).duty.counters = s.duty.counters := by
  and_intros <;> (simp [State.setCorrection])

/-- The blocks `State.setLevel` leaves unchanged. -/
@[simp] theorem State.setLevel_frame (s : State) (l : Level) :
    (s.setLevel l).power = s.power ∧ (s.setLevel l).now = s.now ∧ (s.setLevel l).pending = s.pending
      ∧ (s.setLevel l).field = s.field ∧ (s.setLevel l).unit = s.unit := by
  and_intros <;> (unfold State.setLevel; split <;> simp)
/-- What `State.setLevel` leaves unchanged of the Console Port. -/
@[simp] theorem State.setLevel_console (s : State) (l : Level) :
    (s.setLevel l).console.ingress = s.console.ingress
      ∧ (s.setLevel l).console.arrivals = s.console.arrivals
      ∧ (s.setLevel l).console.restart = s.console.restart
      ∧ (s.setLevel l).console.receiver = s.console.receiver ∧ (s.setLevel l).console.line = s.console.line
      ∧ (s.setLevel l).console.counts = s.console.counts
      ∧ (s.setLevel l).console.sending = s.console.sending
      ∧ (s.setLevel l).console.ingressOverflows = s.console.ingressOverflows := by
  and_intros <;> (unfold State.setLevel; split <;> simp)
/-- What `State.setLevel` leaves unchanged of the Order Gate. -/
@[simp] theorem State.setLevel_gate (s : State) (l : Level) :
    (s.setLevel l).gate.permits = s.gate.permits ∧ (s.setLevel l).gate.orders = s.gate.orders
      ∧ (s.setLevel l).gate.held = s.gate.held ∧ (s.setLevel l).gate.own = s.gate.own
      ∧ (s.setLevel l).gate.standdowns = s.gate.standdowns := by
  and_intros <;> (unfold State.setLevel; split <;> simp)
/-- What `State.setLevel` leaves unchanged of the Crossing Sequencer. -/
@[simp] theorem State.setLevel_seq (s : State) (l : Level) :
    (s.setLevel l).seq.table = s.seq.table ∧ (s.setLevel l).seq.phase = s.seq.phase
      ∧ (s.setLevel l).seq.standdowns = s.seq.standdowns ∧ (s.setLevel l).seq.serial = s.seq.serial
      ∧ (s.setLevel l).seq.tracking = s.seq.tracking ∧ (s.setLevel l).seq.interrupted = s.seq.interrupted
      ∧ (s.setLevel l).seq.request = s.seq.request ∧ (s.setLevel l).seq.recovery = s.seq.recovery
      ∧ (s.setLevel l).seq.dwell = s.seq.dwell ∧ (s.setLevel l).seq.limit = s.seq.limit := by
  and_intros <;> (unfold State.setLevel; split <;> simp)
/-- What `State.setLevel` leaves unchanged of the Channel Controller. -/
@[simp] theorem State.setLevel_chan (s : State) (l : Level) :
    (s.setLevel l).chan.record = s.chan.record ∧ (s.setLevel l).chan.vessels = s.chan.vessels
      ∧ (s.setLevel l).chan.state = s.chan.state ∧ (s.setLevel l).chan.north = s.chan.north
      ∧ (s.setLevel l).chan.south = s.chan.south ∧ (s.setLevel l).chan.closing = s.chan.closing
      ∧ (s.setLevel l).chan.phaseSeen = s.chan.phaseSeen
      ∧ (s.setLevel l).chan.standdowns = s.chan.standdowns
      ∧ (s.setLevel l).chan.changeoverPending = s.chan.changeoverPending
      ∧ (s.setLevel l).chan.greenTimer = s.chan.greenTimer
      ∧ (s.setLevel l).chan.changeoverTimer = s.chan.changeoverTimer
      ∧ (s.setLevel l).chan.retryTimer = s.chan.retryTimer
      ∧ (s.setLevel l).chan.greenExpired = s.chan.greenExpired
      ∧ (s.setLevel l).chan.ignoredCalls = s.chan.ignoredCalls
      ∧ (s.setLevel l).chan.badDirections = s.chan.badDirections
      ∧ (s.setLevel l).chan.unexpectedPassages = s.chan.unexpectedPassages := by
  and_intros <;> (unfold State.setLevel; split <;> simp)
/-- What `State.setLevel` leaves unchanged of the Condition Evaluator. -/
@[simp] theorem State.setLevel_cond (s : State) (l : Level) :
    (s.setLevel l).cond.table = s.cond.table ∧ (s.setLevel l).cond.counterChanges = s.cond.counterChanges := by
  and_intros <;> (unfold State.setLevel; split <;> simp)
/-- What `State.setLevel` leaves unchanged of the Span Supervisor. -/
@[simp] theorem State.setLevel_span (s : State) (l : Level) :
    (s.setLevel l).span.record = s.span.record ∧ (s.setLevel l).span.motion = s.span.motion
      ∧ (s.setLevel l).span.correction = s.span.correction ∧ (s.setLevel l).span.lastSkew = s.span.lastSkew
      ∧ (s.setLevel l).span.lastHold = s.span.lastHold
      ∧ (s.setLevel l).span.holdRunning = s.span.holdRunning
      ∧ (s.setLevel l).span.startWindow = s.span.startWindow
      ∧ (s.setLevel l).span.stopTimer = s.span.stopTimer ∧ (s.setLevel l).span.towerA = s.span.towerA
      ∧ (s.setLevel l).span.towerB = s.span.towerB ∧ (s.setLevel l).span.previous = s.span.previous
      ∧ (s.setLevel l).span.lastTrim = s.span.lastTrim ∧ (s.setLevel l).span.stopKind = s.span.stopKind := by
  and_intros <;> (unfold State.setLevel; split <;> simp)
/-- What `State.setLevel` leaves unchanged of the Point Image. -/
@[simp] theorem State.setLevel_points (s : State) (l : Level) :
    (s.setLevel l).points.map = s.points.map ∧ (s.setLevel l).points.firstPair = s.points.firstPair
      ∧ (s.setLevel l).points.pairLoss = s.points.pairLoss := by
  and_intros <;> (unfold State.setLevel; split <;> simp)
/-- What `State.setLevel` leaves unchanged of the Duty Counter Unit. -/
@[simp] theorem State.setLevel_duty (s : State) (l : Level) :
    (s.setLevel l).duty.residency = s.duty.residency ∧ (s.setLevel l).duty.occupancy = s.duty.occupancy
      ∧ (s.setLevel l).duty.standing = s.duty.standing ∧ (s.setLevel l).duty.phase = s.duty.phase
      ∧ (s.setLevel l).duty.frozen = s.duty.frozen ∧ (s.setLevel l).duty.bands = s.duty.bands
      ∧ (s.setLevel l).duty.counters = s.duty.counters := by
  and_intros <;> (unfold State.setLevel; split <;> simp)

/-- The blocks `State.unlevel` leaves unchanged. -/
@[simp] theorem State.unlevel_frame (s : State) :
    (s.unlevel).power = s.power ∧ (s.unlevel).now = s.now ∧ (s.unlevel).pending = s.pending
      ∧ (s.unlevel).field = s.field ∧ (s.unlevel).unit = s.unit := by
  and_intros <;> (simp [State.unlevel])
/-- What `State.unlevel` leaves unchanged of the Console Port. -/
@[simp] theorem State.unlevel_console (s : State) :
    (s.unlevel).console.ingress = s.console.ingress ∧ (s.unlevel).console.arrivals = s.console.arrivals
      ∧ (s.unlevel).console.restart = s.console.restart ∧ (s.unlevel).console.receiver = s.console.receiver
      ∧ (s.unlevel).console.line = s.console.line ∧ (s.unlevel).console.counts = s.console.counts
      ∧ (s.unlevel).console.sending = s.console.sending
      ∧ (s.unlevel).console.ingressOverflows = s.console.ingressOverflows := by
  and_intros <;> (simp [State.unlevel])
/-- What `State.unlevel` leaves unchanged of the Order Gate. -/
@[simp] theorem State.unlevel_gate (s : State) :
    (s.unlevel).gate.permits = s.gate.permits ∧ (s.unlevel).gate.orders = s.gate.orders
      ∧ (s.unlevel).gate.held = s.gate.held ∧ (s.unlevel).gate.own = s.gate.own
      ∧ (s.unlevel).gate.standdowns = s.gate.standdowns := by
  and_intros <;> (simp [State.unlevel])
/-- What `State.unlevel` leaves unchanged of the Crossing Sequencer. -/
@[simp] theorem State.unlevel_seq (s : State) :
    (s.unlevel).seq.table = s.seq.table ∧ (s.unlevel).seq.phase = s.seq.phase
      ∧ (s.unlevel).seq.standdowns = s.seq.standdowns ∧ (s.unlevel).seq.serial = s.seq.serial
      ∧ (s.unlevel).seq.tracking = s.seq.tracking ∧ (s.unlevel).seq.interrupted = s.seq.interrupted
      ∧ (s.unlevel).seq.request = s.seq.request ∧ (s.unlevel).seq.recovery = s.seq.recovery
      ∧ (s.unlevel).seq.dwell = s.seq.dwell ∧ (s.unlevel).seq.limit = s.seq.limit := by
  and_intros <;> (simp [State.unlevel])
/-- What `State.unlevel` leaves unchanged of the Channel Controller. -/
@[simp] theorem State.unlevel_chan (s : State) :
    (s.unlevel).chan.record = s.chan.record ∧ (s.unlevel).chan.vessels = s.chan.vessels
      ∧ (s.unlevel).chan.state = s.chan.state ∧ (s.unlevel).chan.north = s.chan.north
      ∧ (s.unlevel).chan.south = s.chan.south ∧ (s.unlevel).chan.closing = s.chan.closing
      ∧ (s.unlevel).chan.phaseSeen = s.chan.phaseSeen ∧ (s.unlevel).chan.standdowns = s.chan.standdowns
      ∧ (s.unlevel).chan.changeoverPending = s.chan.changeoverPending
      ∧ (s.unlevel).chan.greenTimer = s.chan.greenTimer
      ∧ (s.unlevel).chan.changeoverTimer = s.chan.changeoverTimer
      ∧ (s.unlevel).chan.retryTimer = s.chan.retryTimer
      ∧ (s.unlevel).chan.greenExpired = s.chan.greenExpired
      ∧ (s.unlevel).chan.ignoredCalls = s.chan.ignoredCalls
      ∧ (s.unlevel).chan.badDirections = s.chan.badDirections
      ∧ (s.unlevel).chan.unexpectedPassages = s.chan.unexpectedPassages := by
  and_intros <;> (simp [State.unlevel])
/-- What `State.unlevel` leaves unchanged of the Condition Evaluator. -/
@[simp] theorem State.unlevel_cond (s : State) :
    (s.unlevel).cond.table = s.cond.table ∧ (s.unlevel).cond.counterChanges = s.cond.counterChanges := by
  and_intros <;> (simp [State.unlevel])
/-- What `State.unlevel` leaves unchanged of the Span Supervisor. -/
@[simp] theorem State.unlevel_span (s : State) :
    (s.unlevel).span.record = s.span.record ∧ (s.unlevel).span.motion = s.span.motion
      ∧ (s.unlevel).span.correction = s.span.correction ∧ (s.unlevel).span.lastSkew = s.span.lastSkew
      ∧ (s.unlevel).span.lastHold = s.span.lastHold ∧ (s.unlevel).span.holdRunning = s.span.holdRunning
      ∧ (s.unlevel).span.startWindow = s.span.startWindow ∧ (s.unlevel).span.stopTimer = s.span.stopTimer
      ∧ (s.unlevel).span.towerA = s.span.towerA ∧ (s.unlevel).span.towerB = s.span.towerB
      ∧ (s.unlevel).span.previous = s.span.previous ∧ (s.unlevel).span.lastTrim = s.span.lastTrim
      ∧ (s.unlevel).span.stopKind = s.span.stopKind := by
  and_intros <;> (simp [State.unlevel])
/-- What `State.unlevel` leaves unchanged of the Point Image. -/
@[simp] theorem State.unlevel_points (s : State) :
    (s.unlevel).points.map = s.points.map ∧ (s.unlevel).points.firstPair = s.points.firstPair
      ∧ (s.unlevel).points.pairLoss = s.points.pairLoss := by
  and_intros <;> (simp [State.unlevel])
/-- What `State.unlevel` leaves unchanged of the Duty Counter Unit. -/
@[simp] theorem State.unlevel_duty (s : State) :
    (s.unlevel).duty.residency = s.duty.residency ∧ (s.unlevel).duty.occupancy = s.duty.occupancy
      ∧ (s.unlevel).duty.standing = s.duty.standing ∧ (s.unlevel).duty.phase = s.duty.phase
      ∧ (s.unlevel).duty.frozen = s.duty.frozen ∧ (s.unlevel).duty.bands = s.duty.bands
      ∧ (s.unlevel).duty.counters = s.duty.counters := by
  and_intros <;> (simp [State.unlevel])

/-- The blocks `State.spanStandDown` leaves unchanged. -/
@[simp] theorem State.spanStandDown_frame (s : State) :
    (s.spanStandDown).power = s.power ∧ (s.spanStandDown).now = s.now
      ∧ (s.spanStandDown).pending = s.pending ∧ (s.spanStandDown).field = s.field
      ∧ (s.spanStandDown).unit = s.unit := by
  and_intros <;> (simp [State.spanStandDown])
/-- What `State.spanStandDown` leaves unchanged of the Console Port. -/
@[simp] theorem State.spanStandDown_console (s : State) :
    (s.spanStandDown).console.ingress = s.console.ingress
      ∧ (s.spanStandDown).console.arrivals = s.console.arrivals
      ∧ (s.spanStandDown).console.restart = s.console.restart
      ∧ (s.spanStandDown).console.receiver = s.console.receiver
      ∧ (s.spanStandDown).console.line = s.console.line
      ∧ (s.spanStandDown).console.counts = s.console.counts
      ∧ (s.spanStandDown).console.sending = s.console.sending
      ∧ (s.spanStandDown).console.ingressOverflows = s.console.ingressOverflows := by
  and_intros <;> (simp [State.spanStandDown])
/-- What `State.spanStandDown` leaves unchanged of the Order Gate. -/
@[simp] theorem State.spanStandDown_gate (s : State) :
    (s.spanStandDown).gate.permits = s.gate.permits ∧ (s.spanStandDown).gate.orders = s.gate.orders
      ∧ (s.spanStandDown).gate.held = s.gate.held ∧ (s.spanStandDown).gate.own = s.gate.own
      ∧ (s.spanStandDown).gate.standdowns = s.gate.standdowns := by
  and_intros <;> (simp [State.spanStandDown])
/-- What `State.spanStandDown` leaves unchanged of the Crossing Sequencer. -/
@[simp] theorem State.spanStandDown_seq (s : State) :
    (s.spanStandDown).seq.table = s.seq.table ∧ (s.spanStandDown).seq.phase = s.seq.phase
      ∧ (s.spanStandDown).seq.standdowns = s.seq.standdowns ∧ (s.spanStandDown).seq.serial = s.seq.serial
      ∧ (s.spanStandDown).seq.tracking = s.seq.tracking
      ∧ (s.spanStandDown).seq.interrupted = s.seq.interrupted
      ∧ (s.spanStandDown).seq.request = s.seq.request ∧ (s.spanStandDown).seq.recovery = s.seq.recovery
      ∧ (s.spanStandDown).seq.dwell = s.seq.dwell ∧ (s.spanStandDown).seq.limit = s.seq.limit := by
  and_intros <;> (simp [State.spanStandDown])
/-- What `State.spanStandDown` leaves unchanged of the Channel Controller. -/
@[simp] theorem State.spanStandDown_chan (s : State) :
    (s.spanStandDown).chan.record = s.chan.record ∧ (s.spanStandDown).chan.vessels = s.chan.vessels
      ∧ (s.spanStandDown).chan.state = s.chan.state ∧ (s.spanStandDown).chan.north = s.chan.north
      ∧ (s.spanStandDown).chan.south = s.chan.south ∧ (s.spanStandDown).chan.closing = s.chan.closing
      ∧ (s.spanStandDown).chan.phaseSeen = s.chan.phaseSeen
      ∧ (s.spanStandDown).chan.standdowns = s.chan.standdowns
      ∧ (s.spanStandDown).chan.changeoverPending = s.chan.changeoverPending
      ∧ (s.spanStandDown).chan.greenTimer = s.chan.greenTimer
      ∧ (s.spanStandDown).chan.changeoverTimer = s.chan.changeoverTimer
      ∧ (s.spanStandDown).chan.retryTimer = s.chan.retryTimer
      ∧ (s.spanStandDown).chan.greenExpired = s.chan.greenExpired
      ∧ (s.spanStandDown).chan.ignoredCalls = s.chan.ignoredCalls
      ∧ (s.spanStandDown).chan.badDirections = s.chan.badDirections
      ∧ (s.spanStandDown).chan.unexpectedPassages = s.chan.unexpectedPassages := by
  and_intros <;> (simp [State.spanStandDown])
/-- What `State.spanStandDown` leaves unchanged of the Condition Evaluator. -/
@[simp] theorem State.spanStandDown_cond (s : State) :
    (s.spanStandDown).cond.table = s.cond.table
      ∧ (s.spanStandDown).cond.counterChanges = s.cond.counterChanges := by
  and_intros <;> (simp [State.spanStandDown])
/-- What `State.spanStandDown` leaves unchanged of the Span Supervisor. -/
@[simp] theorem State.spanStandDown_span (s : State) :
    (s.spanStandDown).span.record = s.span.record ∧ (s.spanStandDown).span.correction = s.span.correction
      ∧ (s.spanStandDown).span.level = s.span.level ∧ (s.spanStandDown).span.lastSkew = s.span.lastSkew
      ∧ (s.spanStandDown).span.lastHold = s.span.lastHold
      ∧ (s.spanStandDown).span.holdRunning = s.span.holdRunning
      ∧ (s.spanStandDown).span.previous = s.span.previous
      ∧ (s.spanStandDown).span.lastTrim = s.span.lastTrim
      ∧ (s.spanStandDown).span.levelChanges = s.span.levelChanges := by
  and_intros <;> (simp [State.spanStandDown])
/-- What `State.spanStandDown` leaves unchanged of the Point Image. -/
@[simp] theorem State.spanStandDown_points (s : State) :
    (s.spanStandDown).points.map = s.points.map ∧ (s.spanStandDown).points.firstPair = s.points.firstPair
      ∧ (s.spanStandDown).points.pairLoss = s.points.pairLoss := by
  and_intros <;> (simp [State.spanStandDown])
/-- What `State.spanStandDown` leaves unchanged of the Duty Counter Unit. -/
@[simp] theorem State.spanStandDown_duty (s : State) :
    (s.spanStandDown).duty.residency = s.duty.residency
      ∧ (s.spanStandDown).duty.occupancy = s.duty.occupancy
      ∧ (s.spanStandDown).duty.standing = s.duty.standing ∧ (s.spanStandDown).duty.phase = s.duty.phase
      ∧ (s.spanStandDown).duty.frozen = s.duty.frozen ∧ (s.spanStandDown).duty.bands = s.duty.bands
      ∧ (s.spanStandDown).duty.counters = s.duty.counters := by
  and_intros <;> (simp [State.spanStandDown])

/-- The blocks `State.handStandDown` leaves unchanged. -/
@[simp] theorem State.handStandDown_frame (s : State) :
    (s.handStandDown).power = s.power ∧ (s.handStandDown).now = s.now
      ∧ (s.handStandDown).pending = s.pending ∧ (s.handStandDown).console = s.console
      ∧ (s.handStandDown).field = s.field ∧ (s.handStandDown).points = s.points
      ∧ (s.handStandDown).cond = s.cond ∧ (s.handStandDown).span = s.span ∧ (s.handStandDown).duty = s.duty
      ∧ (s.handStandDown).unit = s.unit := by
  and_intros <;> (simp [State.handStandDown])
/-- What `State.handStandDown` leaves unchanged of the Order Gate. -/
@[simp] theorem State.handStandDown_gate (s : State) :
    (s.handStandDown).gate.permits = s.gate.permits ∧ (s.handStandDown).gate.orders = s.gate.orders
      ∧ (s.handStandDown).gate.held = s.gate.held ∧ (s.handStandDown).gate.own = s.gate.own
      ∧ (s.handStandDown).gate.sets = s.gate.sets := by
  and_intros <;> (simp [State.handStandDown])
/-- What `State.handStandDown` leaves unchanged of the Crossing Sequencer. -/
@[simp] theorem State.handStandDown_seq (s : State) :
    (s.handStandDown).seq.table = s.seq.table ∧ (s.handStandDown).seq.phase = s.seq.phase
      ∧ (s.handStandDown).seq.serial = s.seq.serial ∧ (s.handStandDown).seq.tracking = s.seq.tracking
      ∧ (s.handStandDown).seq.sets = s.seq.sets ∧ (s.handStandDown).seq.interrupted = s.seq.interrupted
      ∧ (s.handStandDown).seq.request = s.seq.request ∧ (s.handStandDown).seq.recovery = s.seq.recovery
      ∧ (s.handStandDown).seq.dwell = s.seq.dwell ∧ (s.handStandDown).seq.limit = s.seq.limit := by
  and_intros <;> (simp [State.handStandDown])
/-- What `State.handStandDown` leaves unchanged of the Channel Controller. -/
@[simp] theorem State.handStandDown_chan (s : State) :
    (s.handStandDown).chan.record = s.chan.record ∧ (s.handStandDown).chan.vessels = s.chan.vessels
      ∧ (s.handStandDown).chan.state = s.chan.state ∧ (s.handStandDown).chan.north = s.chan.north
      ∧ (s.handStandDown).chan.south = s.chan.south ∧ (s.handStandDown).chan.closing = s.chan.closing
      ∧ (s.handStandDown).chan.phaseSeen = s.chan.phaseSeen ∧ (s.handStandDown).chan.sets = s.chan.sets
      ∧ (s.handStandDown).chan.changeoverPending = s.chan.changeoverPending
      ∧ (s.handStandDown).chan.greenTimer = s.chan.greenTimer
      ∧ (s.handStandDown).chan.changeoverTimer = s.chan.changeoverTimer
      ∧ (s.handStandDown).chan.retryTimer = s.chan.retryTimer
      ∧ (s.handStandDown).chan.greenExpired = s.chan.greenExpired
      ∧ (s.handStandDown).chan.ignoredCalls = s.chan.ignoredCalls
      ∧ (s.handStandDown).chan.badDirections = s.chan.badDirections
      ∧ (s.handStandDown).chan.unexpectedPassages = s.chan.unexpectedPassages := by
  and_intros <;> (simp [State.handStandDown])

/-- The blocks `State.standDownEntry` leaves unchanged. -/
@[simp] theorem State.standDownEntry_frame (s : State) (c : Cause) :
    (s.standDownEntry c).power = s.power ∧ (s.standDownEntry c).now = s.now
      ∧ (s.standDownEntry c).pending = s.pending := by
  and_intros <;> (simp [State.standDownEntry])
/-- What `State.standDownEntry` leaves unchanged of the Console Port. -/
@[simp] theorem State.standDownEntry_console (s : State) (c : Cause) :
    (s.standDownEntry c).console.ingress = s.console.ingress
      ∧ (s.standDownEntry c).console.arrivals = s.console.arrivals
      ∧ (s.standDownEntry c).console.restart = s.console.restart
      ∧ (s.standDownEntry c).console.receiver = s.console.receiver
      ∧ (s.standDownEntry c).console.line = s.console.line
      ∧ (s.standDownEntry c).console.counts = s.console.counts
      ∧ (s.standDownEntry c).console.sending = s.console.sending
      ∧ (s.standDownEntry c).console.ingressOverflows = s.console.ingressOverflows := by
  and_intros <;> (simp [State.standDownEntry])
/-- What `State.standDownEntry` leaves unchanged of the Order Gate. -/
@[simp] theorem State.standDownEntry_gate (s : State) (c : Cause) :
    (s.standDownEntry c).gate.permits = s.gate.permits ∧ (s.standDownEntry c).gate.orders = s.gate.orders
      ∧ (s.standDownEntry c).gate.held = s.gate.held ∧ (s.standDownEntry c).gate.own = s.gate.own := by
  and_intros <;> (simp [State.standDownEntry])
/-- What `State.standDownEntry` leaves unchanged of the Crossing Sequencer. -/
@[simp] theorem State.standDownEntry_seq (s : State) (c : Cause) :
    (s.standDownEntry c).seq.table = s.seq.table ∧ (s.standDownEntry c).seq.phase = s.seq.phase
      ∧ (s.standDownEntry c).seq.serial = s.seq.serial ∧ (s.standDownEntry c).seq.tracking = s.seq.tracking
      ∧ (s.standDownEntry c).seq.interrupted = s.seq.interrupted
      ∧ (s.standDownEntry c).seq.request = s.seq.request
      ∧ (s.standDownEntry c).seq.recovery = s.seq.recovery ∧ (s.standDownEntry c).seq.dwell = s.seq.dwell
      ∧ (s.standDownEntry c).seq.limit = s.seq.limit := by
  and_intros <;> (simp [State.standDownEntry])
/-- What `State.standDownEntry` leaves unchanged of the Channel Controller. -/
@[simp] theorem State.standDownEntry_chan (s : State) (c : Cause) :
    (s.standDownEntry c).chan.record = s.chan.record ∧ (s.standDownEntry c).chan.vessels = s.chan.vessels
      ∧ (s.standDownEntry c).chan.state = s.chan.state ∧ (s.standDownEntry c).chan.north = s.chan.north
      ∧ (s.standDownEntry c).chan.south = s.chan.south ∧ (s.standDownEntry c).chan.closing = s.chan.closing
      ∧ (s.standDownEntry c).chan.phaseSeen = s.chan.phaseSeen
      ∧ (s.standDownEntry c).chan.changeoverPending = s.chan.changeoverPending
      ∧ (s.standDownEntry c).chan.greenTimer = s.chan.greenTimer
      ∧ (s.standDownEntry c).chan.changeoverTimer = s.chan.changeoverTimer
      ∧ (s.standDownEntry c).chan.retryTimer = s.chan.retryTimer
      ∧ (s.standDownEntry c).chan.greenExpired = s.chan.greenExpired
      ∧ (s.standDownEntry c).chan.ignoredCalls = s.chan.ignoredCalls
      ∧ (s.standDownEntry c).chan.badDirections = s.chan.badDirections
      ∧ (s.standDownEntry c).chan.unexpectedPassages = s.chan.unexpectedPassages := by
  and_intros <;> (simp [State.standDownEntry])
/-- What `State.standDownEntry` leaves unchanged of the Condition Evaluator. -/
@[simp] theorem State.standDownEntry_cond (s : State) (c : Cause) :
    (s.standDownEntry c).cond.table = s.cond.table
      ∧ (s.standDownEntry c).cond.counterChanges = s.cond.counterChanges := by
  and_intros <;> (simp [State.standDownEntry])
/-- What `State.standDownEntry` leaves unchanged of the Field Engine. -/
@[simp] theorem State.standDownEntry_field (s : State) (c : Cause) :
    (s.standDownEntry c).field.scanList = s.field.scanList ∧ (s.standDownEntry c).field.tx = s.field.tx
      ∧ (s.standDownEntry c).field.link = s.field.link ∧ (s.standDownEntry c).field.nodes = s.field.nodes
      ∧ (s.standDownEntry c).field.counts = s.field.counts
      ∧ (s.standDownEntry c).field.receiver = s.field.receiver
      ∧ (s.standDownEntry c).field.line = s.field.line
      ∧ (s.standDownEntry c).field.arrivals = s.field.arrivals
      ∧ (s.standDownEntry c).field.contention = s.field.contention
      ∧ (s.standDownEntry c).field.credit = s.field.credit
      ∧ (s.standDownEntry c).field.scanMode = s.field.scanMode
      ∧ (s.standDownEntry c).field.echo = s.field.echo
      ∧ (s.standDownEntry c).field.nextTag = s.field.nextTag
      ∧ (s.standDownEntry c).field.trimA = s.field.trimA ∧ (s.standDownEntry c).field.trimB = s.field.trimB
      ∧ (s.standDownEntry c).field.stopA = s.field.stopA ∧ (s.standDownEntry c).field.stopB = s.field.stopB
      ∧ (s.standDownEntry c).field.pointer = s.field.pointer
      ∧ (s.standDownEntry c).field.cycle = s.field.cycle ∧ (s.standDownEntry c).field.sweep = s.field.sweep
      ∧ (s.standDownEntry c).field.replyTimeout = s.field.replyTimeout
      ∧ (s.standDownEntry c).field.silentLimit = s.field.silentLimit := by
  and_intros <;> (simp [State.standDownEntry])
/-- What `State.standDownEntry` leaves unchanged of the Span Supervisor. -/
@[simp] theorem State.standDownEntry_span (s : State) (c : Cause) :
    (s.standDownEntry c).span.record = s.span.record
      ∧ (s.standDownEntry c).span.correction = s.span.correction
      ∧ (s.standDownEntry c).span.level = s.span.level
      ∧ (s.standDownEntry c).span.lastSkew = s.span.lastSkew
      ∧ (s.standDownEntry c).span.lastHold = s.span.lastHold
      ∧ (s.standDownEntry c).span.holdRunning = s.span.holdRunning
      ∧ (s.standDownEntry c).span.previous = s.span.previous
      ∧ (s.standDownEntry c).span.lastTrim = s.span.lastTrim
      ∧ (s.standDownEntry c).span.levelChanges = s.span.levelChanges := by
  and_intros <;> (simp [State.standDownEntry])
/-- What `State.standDownEntry` leaves unchanged of the mode and the chain. -/
@[simp] theorem State.standDownEntry_unit (s : State) (c : Cause) :
    (s.standDownEntry c).unit.mode = s.unit.mode ∧ (s.standDownEntry c).unit.causes = s.unit.causes
      ∧ (s.standDownEntry c).unit.limits = s.unit.limits ∧ (s.standDownEntry c).unit.chain = s.unit.chain
      ∧ (s.standDownEntry c).unit.estop = s.unit.estop ∧ (s.standDownEntry c).unit.key = s.unit.key
      ∧ (s.standDownEntry c).unit.locked = s.unit.locked
      ∧ (s.standDownEntry c).unit.validation = s.unit.validation
      ∧ (s.standDownEntry c).unit.maintenancePending = s.unit.maintenancePending := by
  and_intros <;> (simp [State.standDownEntry])
/-- What `State.standDownEntry` leaves unchanged of the Point Image. -/
@[simp] theorem State.standDownEntry_points (s : State) (c : Cause) :
    (s.standDownEntry c).points.map = s.points.map
      ∧ (s.standDownEntry c).points.firstPair = s.points.firstPair
      ∧ (s.standDownEntry c).points.pairLoss = s.points.pairLoss := by
  and_intros <;> (simp [State.standDownEntry])
/-- What `State.standDownEntry` leaves unchanged of the Duty Counter Unit. -/
@[simp] theorem State.standDownEntry_duty (s : State) (c : Cause) :
    (s.standDownEntry c).duty.residency = s.duty.residency
      ∧ (s.standDownEntry c).duty.occupancy = s.duty.occupancy
      ∧ (s.standDownEntry c).duty.standing = s.duty.standing
      ∧ (s.standDownEntry c).duty.phase = s.duty.phase ∧ (s.standDownEntry c).duty.frozen = s.duty.frozen
      ∧ (s.standDownEntry c).duty.bands = s.duty.bands
      ∧ (s.standDownEntry c).duty.counters = s.duty.counters := by
  and_intros <;> (simp [State.standDownEntry])

/-- The blocks `State.latchCause` leaves unchanged. -/
@[simp] theorem State.latchCause_frame (s : State) (c : Cause) :
    (s.latchCause c).power = s.power ∧ (s.latchCause c).now = s.now ∧ (s.latchCause c).pending = s.pending := by
  and_intros <;> (unfold State.latchCause; dsimp only; (repeat' split) <;> simp [ModeChain.settleChain])
/-- What `State.latchCause` leaves unchanged of the Console Port. -/
@[simp] theorem State.latchCause_console (s : State) (c : Cause) :
    (s.latchCause c).console.ingress = s.console.ingress
      ∧ (s.latchCause c).console.arrivals = s.console.arrivals
      ∧ (s.latchCause c).console.restart = s.console.restart
      ∧ (s.latchCause c).console.receiver = s.console.receiver
      ∧ (s.latchCause c).console.line = s.console.line ∧ (s.latchCause c).console.counts = s.console.counts
      ∧ (s.latchCause c).console.sending = s.console.sending
      ∧ (s.latchCause c).console.ingressOverflows = s.console.ingressOverflows := by
  and_intros <;> (unfold State.latchCause; dsimp only; (repeat' split) <;> simp [ModeChain.settleChain])
/-- What `State.latchCause` leaves unchanged of the Order Gate. -/
@[simp] theorem State.latchCause_gate (s : State) (c : Cause) :
    (s.latchCause c).gate.permits = s.gate.permits ∧ (s.latchCause c).gate.orders = s.gate.orders
      ∧ (s.latchCause c).gate.held = s.gate.held ∧ (s.latchCause c).gate.own = s.gate.own := by
  and_intros <;> (unfold State.latchCause; dsimp only; (repeat' split) <;> simp [ModeChain.settleChain])
/-- What `State.latchCause` leaves unchanged of the Crossing Sequencer. -/
@[simp] theorem State.latchCause_seq (s : State) (c : Cause) :
    (s.latchCause c).seq.table = s.seq.table ∧ (s.latchCause c).seq.phase = s.seq.phase
      ∧ (s.latchCause c).seq.serial = s.seq.serial ∧ (s.latchCause c).seq.tracking = s.seq.tracking
      ∧ (s.latchCause c).seq.interrupted = s.seq.interrupted ∧ (s.latchCause c).seq.request = s.seq.request
      ∧ (s.latchCause c).seq.recovery = s.seq.recovery ∧ (s.latchCause c).seq.dwell = s.seq.dwell
      ∧ (s.latchCause c).seq.limit = s.seq.limit := by
  and_intros <;> (unfold State.latchCause; dsimp only; (repeat' split) <;> simp [ModeChain.settleChain])
/-- What `State.latchCause` leaves unchanged of the Channel Controller. -/
@[simp] theorem State.latchCause_chan (s : State) (c : Cause) :
    (s.latchCause c).chan.record = s.chan.record ∧ (s.latchCause c).chan.vessels = s.chan.vessels
      ∧ (s.latchCause c).chan.state = s.chan.state ∧ (s.latchCause c).chan.north = s.chan.north
      ∧ (s.latchCause c).chan.south = s.chan.south ∧ (s.latchCause c).chan.closing = s.chan.closing
      ∧ (s.latchCause c).chan.phaseSeen = s.chan.phaseSeen
      ∧ (s.latchCause c).chan.changeoverPending = s.chan.changeoverPending
      ∧ (s.latchCause c).chan.greenTimer = s.chan.greenTimer
      ∧ (s.latchCause c).chan.changeoverTimer = s.chan.changeoverTimer
      ∧ (s.latchCause c).chan.retryTimer = s.chan.retryTimer
      ∧ (s.latchCause c).chan.greenExpired = s.chan.greenExpired
      ∧ (s.latchCause c).chan.ignoredCalls = s.chan.ignoredCalls
      ∧ (s.latchCause c).chan.badDirections = s.chan.badDirections
      ∧ (s.latchCause c).chan.unexpectedPassages = s.chan.unexpectedPassages := by
  and_intros <;> (unfold State.latchCause; dsimp only; (repeat' split) <;> simp [ModeChain.settleChain])
/-- What `State.latchCause` leaves unchanged of the Condition Evaluator. -/
@[simp] theorem State.latchCause_cond (s : State) (c : Cause) :
    (s.latchCause c).cond.table = s.cond.table
      ∧ (s.latchCause c).cond.counterChanges = s.cond.counterChanges := by
  and_intros <;> (unfold State.latchCause; dsimp only; (repeat' split) <;> simp [ModeChain.settleChain])
/-- What `State.latchCause` leaves unchanged of the Field Engine. -/
@[simp] theorem State.latchCause_field (s : State) (c : Cause) :
    (s.latchCause c).field.scanList = s.field.scanList ∧ (s.latchCause c).field.tx = s.field.tx
      ∧ (s.latchCause c).field.link = s.field.link ∧ (s.latchCause c).field.nodes = s.field.nodes
      ∧ (s.latchCause c).field.counts = s.field.counts ∧ (s.latchCause c).field.receiver = s.field.receiver
      ∧ (s.latchCause c).field.line = s.field.line ∧ (s.latchCause c).field.arrivals = s.field.arrivals
      ∧ (s.latchCause c).field.contention = s.field.contention
      ∧ (s.latchCause c).field.credit = s.field.credit ∧ (s.latchCause c).field.scanMode = s.field.scanMode
      ∧ (s.latchCause c).field.echo = s.field.echo ∧ (s.latchCause c).field.nextTag = s.field.nextTag
      ∧ (s.latchCause c).field.trimA = s.field.trimA ∧ (s.latchCause c).field.trimB = s.field.trimB
      ∧ (s.latchCause c).field.stopA = s.field.stopA ∧ (s.latchCause c).field.stopB = s.field.stopB
      ∧ (s.latchCause c).field.pointer = s.field.pointer ∧ (s.latchCause c).field.cycle = s.field.cycle
      ∧ (s.latchCause c).field.sweep = s.field.sweep
      ∧ (s.latchCause c).field.replyTimeout = s.field.replyTimeout
      ∧ (s.latchCause c).field.silentLimit = s.field.silentLimit := by
  and_intros <;> (unfold State.latchCause; dsimp only; (repeat' split) <;> simp [ModeChain.settleChain])
/-- What `State.latchCause` leaves unchanged of the Span Supervisor. -/
@[simp] theorem State.latchCause_span (s : State) (c : Cause) :
    (s.latchCause c).span.record = s.span.record ∧ (s.latchCause c).span.correction = s.span.correction
      ∧ (s.latchCause c).span.level = s.span.level ∧ (s.latchCause c).span.lastSkew = s.span.lastSkew
      ∧ (s.latchCause c).span.lastHold = s.span.lastHold
      ∧ (s.latchCause c).span.holdRunning = s.span.holdRunning
      ∧ (s.latchCause c).span.previous = s.span.previous ∧ (s.latchCause c).span.lastTrim = s.span.lastTrim
      ∧ (s.latchCause c).span.levelChanges = s.span.levelChanges := by
  and_intros <;> (unfold State.latchCause; dsimp only; (repeat' split) <;> simp [ModeChain.settleChain])
/-- What `State.latchCause` leaves unchanged of the mode and the chain. -/
@[simp] theorem State.latchCause_unit (s : State) (c : Cause) :
    (s.latchCause c).unit.mode = s.unit.mode ∧ (s.latchCause c).unit.limits = s.unit.limits
      ∧ (s.latchCause c).unit.estop = s.unit.estop ∧ (s.latchCause c).unit.key = s.unit.key
      ∧ (s.latchCause c).unit.locked = s.unit.locked ∧ (s.latchCause c).unit.validation = s.unit.validation
      ∧ (s.latchCause c).unit.maintenancePending = s.unit.maintenancePending := by
  and_intros <;> (unfold State.latchCause; dsimp only; (repeat' split) <;> simp [ModeChain.settleChain])
/-- What `State.latchCause` leaves unchanged of the Point Image. -/
@[simp] theorem State.latchCause_points (s : State) (c : Cause) :
    (s.latchCause c).points.map = s.points.map ∧ (s.latchCause c).points.firstPair = s.points.firstPair
      ∧ (s.latchCause c).points.pairLoss = s.points.pairLoss := by
  and_intros <;> (unfold State.latchCause; dsimp only; (repeat' split) <;> simp [ModeChain.settleChain])
/-- What `State.latchCause` leaves unchanged of the Duty Counter Unit. -/
@[simp] theorem State.latchCause_duty (s : State) (c : Cause) :
    (s.latchCause c).duty.residency = s.duty.residency ∧ (s.latchCause c).duty.occupancy = s.duty.occupancy
      ∧ (s.latchCause c).duty.standing = s.duty.standing ∧ (s.latchCause c).duty.phase = s.duty.phase
      ∧ (s.latchCause c).duty.frozen = s.duty.frozen ∧ (s.latchCause c).duty.bands = s.duty.bands
      ∧ (s.latchCause c).duty.counters = s.duty.counters := by
  and_intros <;> (unfold State.latchCause; dsimp only; (repeat' split) <;> simp [ModeChain.settleChain])

end Sys2Proof.Machine
end

