-- ==== Sys2Proof/Laws/FramesGate.lean ====
section
/-! SUPPORT. What each shared operation of the Order Gate leaves
unchanged, field by field: the provers cite these lemmas instead of unfolding the operation. -/

namespace Sys2Proof.Machine

set_option linter.all false
set_option Elab.async false

/-- The blocks `State.reportOccupancy` leaves unchanged. -/
@[simp] theorem State.reportOccupancy_frame (s : State) :
    (s.reportOccupancy).power = s.power ∧ (s.reportOccupancy).now = s.now
      ∧ (s.reportOccupancy).pending = s.pending ∧ (s.reportOccupancy).field = s.field
      ∧ (s.reportOccupancy).points = s.points ∧ (s.reportOccupancy).gate = s.gate
      ∧ (s.reportOccupancy).span = s.span ∧ (s.reportOccupancy).seq = s.seq
      ∧ (s.reportOccupancy).chan = s.chan ∧ (s.reportOccupancy).unit = s.unit := by
  and_intros <;> (unfold State.reportOccupancy; dsimp only; split <;> simp)
/-- What `State.reportOccupancy` leaves unchanged of the Console Port. -/
@[simp] theorem State.reportOccupancy_console (s : State) :
    (s.reportOccupancy).console.ingress = s.console.ingress
      ∧ (s.reportOccupancy).console.arrivals = s.console.arrivals
      ∧ (s.reportOccupancy).console.restart = s.console.restart
      ∧ (s.reportOccupancy).console.receiver = s.console.receiver
      ∧ (s.reportOccupancy).console.line = s.console.line
      ∧ (s.reportOccupancy).console.counts = s.console.counts
      ∧ (s.reportOccupancy).console.sending = s.console.sending
      ∧ (s.reportOccupancy).console.ingressOverflows = s.console.ingressOverflows := by
  and_intros <;> (unfold State.reportOccupancy; dsimp only; split <;> simp)
/-- What `State.reportOccupancy` leaves unchanged of the Condition Evaluator. -/
@[simp] theorem State.reportOccupancy_cond (s : State) :
    (s.reportOccupancy).cond.table = s.cond.table ∧ (s.reportOccupancy).cond.states = s.cond.states := by
  and_intros <;> (unfold State.reportOccupancy; dsimp only; split <;> simp)

/-- The blocks `State.consoleFinal` leaves unchanged. -/
@[simp] theorem State.consoleFinal_frame (s : State) (tag : Byte) (n c : Nat) (a : Int) (cl : Bool) (r : Result) (d : Nat) (tr : Bool) :
    (s.consoleFinal tag n c a cl r d tr).power = s.power ∧ (s.consoleFinal tag n c a cl r d tr).now = s.now
      ∧ (s.consoleFinal tag n c a cl r d tr).pending = s.pending
      ∧ (s.consoleFinal tag n c a cl r d tr).field = s.field
      ∧ (s.consoleFinal tag n c a cl r d tr).points = s.points
      ∧ (s.consoleFinal tag n c a cl r d tr).gate = s.gate
      ∧ (s.consoleFinal tag n c a cl r d tr).span = s.span
      ∧ (s.consoleFinal tag n c a cl r d tr).seq = s.seq
      ∧ (s.consoleFinal tag n c a cl r d tr).chan = s.chan
      ∧ (s.consoleFinal tag n c a cl r d tr).unit = s.unit := by
  and_intros <;> (simp [State.consoleFinal])
/-- What `State.consoleFinal` leaves unchanged of the Console Port. -/
@[simp] theorem State.consoleFinal_console (s : State) (tag : Byte) (n c : Nat) (a : Int) (cl : Bool) (r : Result) (d : Nat) (tr : Bool) :
    (s.consoleFinal tag n c a cl r d tr).console.ingress = s.console.ingress
      ∧ (s.consoleFinal tag n c a cl r d tr).console.arrivals = s.console.arrivals
      ∧ (s.consoleFinal tag n c a cl r d tr).console.restart = s.console.restart
      ∧ (s.consoleFinal tag n c a cl r d tr).console.receiver = s.console.receiver
      ∧ (s.consoleFinal tag n c a cl r d tr).console.line = s.console.line
      ∧ (s.consoleFinal tag n c a cl r d tr).console.counts = s.console.counts
      ∧ (s.consoleFinal tag n c a cl r d tr).console.sending = s.console.sending
      ∧ (s.consoleFinal tag n c a cl r d tr).console.ingressOverflows = s.console.ingressOverflows := by
  and_intros <;> (simp [State.consoleFinal])
/-- What `State.consoleFinal` leaves unchanged of the Condition Evaluator. -/
@[simp] theorem State.consoleFinal_cond (s : State) (tag : Byte) (n c : Nat) (a : Int) (cl : Bool) (r : Result) (d : Nat) (tr : Bool) :
    (s.consoleFinal tag n c a cl r d tr).cond.table = s.cond.table
      ∧ (s.consoleFinal tag n c a cl r d tr).cond.states = s.cond.states := by
  and_intros <;> (simp [State.consoleFinal])

/-- The blocks `State.joinOrders` leaves unchanged. -/
@[simp] theorem State.joinOrders_frame (s : State) (tag : Byte) (r : OrderRecord) :
    (s.joinOrders tag r).power = s.power ∧ (s.joinOrders tag r).now = s.now
      ∧ (s.joinOrders tag r).pending = s.pending ∧ (s.joinOrders tag r).field = s.field
      ∧ (s.joinOrders tag r).points = s.points ∧ (s.joinOrders tag r).span = s.span
      ∧ (s.joinOrders tag r).seq = s.seq ∧ (s.joinOrders tag r).chan = s.chan
      ∧ (s.joinOrders tag r).unit = s.unit := by
  and_intros <;> (unfold State.joinOrders; split <;> simp)
/-- What `State.joinOrders` leaves unchanged of the Console Port. -/
@[simp] theorem State.joinOrders_console (s : State) (tag : Byte) (r : OrderRecord) :
    (s.joinOrders tag r).console.ingress = s.console.ingress
      ∧ (s.joinOrders tag r).console.arrivals = s.console.arrivals
      ∧ (s.joinOrders tag r).console.restart = s.console.restart
      ∧ (s.joinOrders tag r).console.receiver = s.console.receiver
      ∧ (s.joinOrders tag r).console.line = s.console.line
      ∧ (s.joinOrders tag r).console.counts = s.console.counts
      ∧ (s.joinOrders tag r).console.sending = s.console.sending
      ∧ (s.joinOrders tag r).console.ingressOverflows = s.console.ingressOverflows := by
  and_intros <;> (unfold State.joinOrders; split <;> simp)
/-- What `State.joinOrders` leaves unchanged of the Order Gate. -/
@[simp] theorem State.joinOrders_gate (s : State) (tag : Byte) (r : OrderRecord) :
    (s.joinOrders tag r).gate.permits = s.gate.permits ∧ (s.joinOrders tag r).gate.held = s.gate.held
      ∧ (s.joinOrders tag r).gate.own = s.gate.own
      ∧ (s.joinOrders tag r).gate.standdowns = s.gate.standdowns
      ∧ (s.joinOrders tag r).gate.sets = s.gate.sets := by
  and_intros <;> (unfold State.joinOrders; split <;> simp)
/-- What `State.joinOrders` leaves unchanged of the Condition Evaluator. -/
@[simp] theorem State.joinOrders_cond (s : State) (tag : Byte) (r : OrderRecord) :
    (s.joinOrders tag r).cond.table = s.cond.table ∧ (s.joinOrders tag r).cond.states = s.cond.states := by
  and_intros <;> (unfold State.joinOrders; split <;> simp)

/-- The blocks `State.recordFinal` leaves unchanged. -/
@[simp] theorem State.recordFinal_frame (s : State) (r : OrderRecord) (x : Result) (d : Nat) :
    (s.recordFinal r x d).power = s.power ∧ (s.recordFinal r x d).now = s.now
      ∧ (s.recordFinal r x d).pending = s.pending ∧ (s.recordFinal r x d).field = s.field
      ∧ (s.recordFinal r x d).points = s.points ∧ (s.recordFinal r x d).gate = s.gate
      ∧ (s.recordFinal r x d).span = s.span ∧ (s.recordFinal r x d).seq = s.seq
      ∧ (s.recordFinal r x d).chan = s.chan ∧ (s.recordFinal r x d).unit = s.unit := by
  and_intros <;> (unfold State.recordFinal; split <;> simp)
/-- What `State.recordFinal` leaves unchanged of the Console Port. -/
@[simp] theorem State.recordFinal_console (s : State) (r : OrderRecord) (x : Result) (d : Nat) :
    (s.recordFinal r x d).console.ingress = s.console.ingress
      ∧ (s.recordFinal r x d).console.arrivals = s.console.arrivals
      ∧ (s.recordFinal r x d).console.restart = s.console.restart
      ∧ (s.recordFinal r x d).console.receiver = s.console.receiver
      ∧ (s.recordFinal r x d).console.line = s.console.line
      ∧ (s.recordFinal r x d).console.counts = s.console.counts
      ∧ (s.recordFinal r x d).console.sending = s.console.sending
      ∧ (s.recordFinal r x d).console.ingressOverflows = s.console.ingressOverflows := by
  and_intros <;> (unfold State.recordFinal; split <;> simp)
/-- What `State.recordFinal` leaves unchanged of the Condition Evaluator. -/
@[simp] theorem State.recordFinal_cond (s : State) (r : OrderRecord) (x : Result) (d : Nat) :
    (s.recordFinal r x d).cond.table = s.cond.table ∧ (s.recordFinal r x d).cond.states = s.cond.states := by
  and_intros <;> (unfold State.recordFinal; split <;> simp)

/-- The blocks `State.supersede` leaves unchanged. -/
@[simp] theorem State.supersede_frame (s : State) (n c : Nat) :
    (s.supersede n c).power = s.power ∧ (s.supersede n c).now = s.now
      ∧ (s.supersede n c).pending = s.pending ∧ (s.supersede n c).field = s.field
      ∧ (s.supersede n c).points = s.points ∧ (s.supersede n c).span = s.span
      ∧ (s.supersede n c).seq = s.seq ∧ (s.supersede n c).chan = s.chan ∧ (s.supersede n c).unit = s.unit := by
  and_intros <;> (unfold State.supersede; split <;> simp)
/-- What `State.supersede` leaves unchanged of the Console Port. -/
@[simp] theorem State.supersede_console (s : State) (n c : Nat) :
    (s.supersede n c).console.ingress = s.console.ingress
      ∧ (s.supersede n c).console.arrivals = s.console.arrivals
      ∧ (s.supersede n c).console.restart = s.console.restart
      ∧ (s.supersede n c).console.receiver = s.console.receiver
      ∧ (s.supersede n c).console.line = s.console.line
      ∧ (s.supersede n c).console.counts = s.console.counts
      ∧ (s.supersede n c).console.sending = s.console.sending
      ∧ (s.supersede n c).console.ingressOverflows = s.console.ingressOverflows := by
  and_intros <;> (unfold State.supersede; split <;> simp)
/-- What `State.supersede` leaves unchanged of the Order Gate. -/
@[simp] theorem State.supersede_gate (s : State) (n c : Nat) :
    (s.supersede n c).gate.permits = s.gate.permits ∧ (s.supersede n c).gate.orders = s.gate.orders
      ∧ (s.supersede n c).gate.own = s.gate.own ∧ (s.supersede n c).gate.standdowns = s.gate.standdowns
      ∧ (s.supersede n c).gate.sets = s.gate.sets := by
  and_intros <;> (unfold State.supersede; split <;> simp)
/-- What `State.supersede` leaves unchanged of the Condition Evaluator. -/
@[simp] theorem State.supersede_cond (s : State) (n c : Nat) :
    (s.supersede n c).cond.table = s.cond.table ∧ (s.supersede n c).cond.states = s.cond.states := by
  and_intros <;> (unfold State.supersede; split <;> simp)

/-- The blocks `State.joinHeld` leaves unchanged. -/
@[simp] theorem State.joinHeld_frame (s : State) (tag : Byte) (r : OrderRecord) (l f : Nat) :
    (s.joinHeld tag r l f).power = s.power ∧ (s.joinHeld tag r l f).now = s.now
      ∧ (s.joinHeld tag r l f).pending = s.pending ∧ (s.joinHeld tag r l f).field = s.field
      ∧ (s.joinHeld tag r l f).points = s.points ∧ (s.joinHeld tag r l f).span = s.span
      ∧ (s.joinHeld tag r l f).seq = s.seq ∧ (s.joinHeld tag r l f).chan = s.chan
      ∧ (s.joinHeld tag r l f).unit = s.unit := by
  and_intros <;> (unfold State.joinHeld; split <;> simp)
/-- What `State.joinHeld` leaves unchanged of the Console Port. -/
@[simp] theorem State.joinHeld_console (s : State) (tag : Byte) (r : OrderRecord) (l f : Nat) :
    (s.joinHeld tag r l f).console.ingress = s.console.ingress
      ∧ (s.joinHeld tag r l f).console.arrivals = s.console.arrivals
      ∧ (s.joinHeld tag r l f).console.restart = s.console.restart
      ∧ (s.joinHeld tag r l f).console.receiver = s.console.receiver
      ∧ (s.joinHeld tag r l f).console.line = s.console.line
      ∧ (s.joinHeld tag r l f).console.counts = s.console.counts
      ∧ (s.joinHeld tag r l f).console.sending = s.console.sending
      ∧ (s.joinHeld tag r l f).console.ingressOverflows = s.console.ingressOverflows := by
  and_intros <;> (unfold State.joinHeld; split <;> simp)
/-- What `State.joinHeld` leaves unchanged of the Order Gate. -/
@[simp] theorem State.joinHeld_gate (s : State) (tag : Byte) (r : OrderRecord) (l f : Nat) :
    (s.joinHeld tag r l f).gate.permits = s.gate.permits
      ∧ (s.joinHeld tag r l f).gate.orders = s.gate.orders ∧ (s.joinHeld tag r l f).gate.own = s.gate.own
      ∧ (s.joinHeld tag r l f).gate.standdowns = s.gate.standdowns
      ∧ (s.joinHeld tag r l f).gate.sets = s.gate.sets := by
  and_intros <;> (unfold State.joinHeld; split <;> simp)
/-- What `State.joinHeld` leaves unchanged of the Condition Evaluator. -/
@[simp] theorem State.joinHeld_cond (s : State) (tag : Byte) (r : OrderRecord) (l f : Nat) :
    (s.joinHeld tag r l f).cond.table = s.cond.table ∧ (s.joinHeld tag r l f).cond.states = s.cond.states := by
  and_intros <;> (unfold State.joinHeld; split <;> simp)

/-- The blocks `State.admitConsole` leaves unchanged. -/
@[simp] theorem State.admitConsole_frame (s : State) (tag : Byte) (n c : Nat) (a : Int) :
    (s.admitConsole tag n c a).power = s.power ∧ (s.admitConsole tag n c a).now = s.now
      ∧ (s.admitConsole tag n c a).pending = s.pending ∧ (s.admitConsole tag n c a).field = s.field
      ∧ (s.admitConsole tag n c a).points = s.points ∧ (s.admitConsole tag n c a).span = s.span
      ∧ (s.admitConsole tag n c a).seq = s.seq ∧ (s.admitConsole tag n c a).chan = s.chan
      ∧ (s.admitConsole tag n c a).unit = s.unit := by
  and_intros <;> (unfold State.admitConsole; split <;> simp)
/-- What `State.admitConsole` leaves unchanged of the Console Port. -/
@[simp] theorem State.admitConsole_console (s : State) (tag : Byte) (n c : Nat) (a : Int) :
    (s.admitConsole tag n c a).console.ingress = s.console.ingress
      ∧ (s.admitConsole tag n c a).console.arrivals = s.console.arrivals
      ∧ (s.admitConsole tag n c a).console.restart = s.console.restart
      ∧ (s.admitConsole tag n c a).console.receiver = s.console.receiver
      ∧ (s.admitConsole tag n c a).console.line = s.console.line
      ∧ (s.admitConsole tag n c a).console.counts = s.console.counts
      ∧ (s.admitConsole tag n c a).console.sending = s.console.sending
      ∧ (s.admitConsole tag n c a).console.ingressOverflows = s.console.ingressOverflows := by
  and_intros <;> (unfold State.admitConsole; split <;> simp)
/-- What `State.admitConsole` leaves unchanged of the Order Gate. -/
@[simp] theorem State.admitConsole_gate (s : State) (tag : Byte) (n c : Nat) (a : Int) :
    (s.admitConsole tag n c a).gate.permits = s.gate.permits
      ∧ (s.admitConsole tag n c a).gate.own = s.gate.own
      ∧ (s.admitConsole tag n c a).gate.standdowns = s.gate.standdowns
      ∧ (s.admitConsole tag n c a).gate.sets = s.gate.sets := by
  and_intros <;> (unfold State.admitConsole; split <;> simp)
/-- What `State.admitConsole` leaves unchanged of the Condition Evaluator. -/
@[simp] theorem State.admitConsole_cond (s : State) (tag : Byte) (n c : Nat) (a : Int) :
    (s.admitConsole tag n c a).cond.table = s.cond.table
      ∧ (s.admitConsole tag n c a).cond.states = s.cond.states := by
  and_intros <;> (unfold State.admitConsole; split <;> simp)

/-- The blocks `State.ownRefused` leaves unchanged. -/
@[simp] theorem State.ownRefused_frame (s : State) (n : Nat) (r : Result) :
    ((s.ownRefused n r).1).power = s.power ∧ ((s.ownRefused n r).1).now = s.now
      ∧ ((s.ownRefused n r).1).pending = s.pending ∧ ((s.ownRefused n r).1).field = s.field
      ∧ ((s.ownRefused n r).1).points = s.points ∧ ((s.ownRefused n r).1).gate = s.gate
      ∧ ((s.ownRefused n r).1).span = s.span ∧ ((s.ownRefused n r).1).seq = s.seq
      ∧ ((s.ownRefused n r).1).chan = s.chan ∧ ((s.ownRefused n r).1).unit = s.unit := by
  and_intros <;> (simp [State.ownRefused])
/-- What `State.ownRefused` leaves unchanged of the Console Port. -/
@[simp] theorem State.ownRefused_console (s : State) (n : Nat) (r : Result) :
    ((s.ownRefused n r).1).console.ingress = s.console.ingress
      ∧ ((s.ownRefused n r).1).console.arrivals = s.console.arrivals
      ∧ ((s.ownRefused n r).1).console.restart = s.console.restart
      ∧ ((s.ownRefused n r).1).console.receiver = s.console.receiver
      ∧ ((s.ownRefused n r).1).console.line = s.console.line
      ∧ ((s.ownRefused n r).1).console.counts = s.console.counts
      ∧ ((s.ownRefused n r).1).console.sending = s.console.sending
      ∧ ((s.ownRefused n r).1).console.ingressOverflows = s.console.ingressOverflows := by
  and_intros <;> (simp [State.ownRefused])
/-- What `State.ownRefused` leaves unchanged of the Condition Evaluator. -/
@[simp] theorem State.ownRefused_cond (s : State) (n : Nat) (r : Result) :
    ((s.ownRefused n r).1).cond.table = s.cond.table ∧ ((s.ownRefused n r).1).cond.states = s.cond.states := by
  and_intros <;> (simp [State.ownRefused])

/-- The blocks `State.offerOwn` leaves unchanged. -/
@[simp] theorem State.offerOwn_frame (s : State) (o : Origin) (n c : Nat) (a : Int) :
    ((s.offerOwn o n c a).1).power = s.power ∧ ((s.offerOwn o n c a).1).now = s.now
      ∧ ((s.offerOwn o n c a).1).pending = s.pending ∧ ((s.offerOwn o n c a).1).field = s.field
      ∧ ((s.offerOwn o n c a).1).points = s.points ∧ ((s.offerOwn o n c a).1).span = s.span
      ∧ ((s.offerOwn o n c a).1).seq = s.seq ∧ ((s.offerOwn o n c a).1).chan = s.chan
      ∧ ((s.offerOwn o n c a).1).unit = s.unit := by
  and_intros <;> (unfold State.offerOwn; (repeat' split) <;> simp)
/-- What `State.offerOwn` leaves unchanged of the Console Port. -/
@[simp] theorem State.offerOwn_console (s : State) (o : Origin) (n c : Nat) (a : Int) :
    ((s.offerOwn o n c a).1).console.ingress = s.console.ingress
      ∧ ((s.offerOwn o n c a).1).console.arrivals = s.console.arrivals
      ∧ ((s.offerOwn o n c a).1).console.restart = s.console.restart
      ∧ ((s.offerOwn o n c a).1).console.receiver = s.console.receiver
      ∧ ((s.offerOwn o n c a).1).console.line = s.console.line
      ∧ ((s.offerOwn o n c a).1).console.counts = s.console.counts
      ∧ ((s.offerOwn o n c a).1).console.sending = s.console.sending
      ∧ ((s.offerOwn o n c a).1).console.ingressOverflows = s.console.ingressOverflows := by
  and_intros <;> (unfold State.offerOwn; (repeat' split) <;> simp)
/-- What `State.offerOwn` leaves unchanged of the Order Gate. -/
@[simp] theorem State.offerOwn_gate (s : State) (o : Origin) (n c : Nat) (a : Int) :
    ((s.offerOwn o n c a).1).gate.permits = s.gate.permits
      ∧ ((s.offerOwn o n c a).1).gate.orders = s.gate.orders
      ∧ ((s.offerOwn o n c a).1).gate.held = s.gate.held
      ∧ ((s.offerOwn o n c a).1).gate.standdowns = s.gate.standdowns
      ∧ ((s.offerOwn o n c a).1).gate.sets = s.gate.sets := by
  and_intros <;> (unfold State.offerOwn; (repeat' split) <;> simp)
/-- What `State.offerOwn` leaves unchanged of the Condition Evaluator. -/
@[simp] theorem State.offerOwn_cond (s : State) (o : Origin) (n c : Nat) (a : Int) :
    ((s.offerOwn o n c a).1).cond.table = s.cond.table
      ∧ ((s.offerOwn o n c a).1).cond.states = s.cond.states := by
  and_intros <;> (unfold State.offerOwn; (repeat' split) <;> simp)

end Sys2Proof.Machine
end

