-- ==== Sys2Proof/Laws/FramesChannel.lean ====
section
/-! SUPPORT. What each shared operation of the Channel Controller leaves
unchanged, field by field: the provers cite these lemmas instead of unfolding the operation. -/

namespace Sys2Proof.Machine

set_option linter.all false
set_option Elab.async false

/-- The blocks `State.setChannelState` leaves unchanged. -/
@[simp] theorem State.setChannelState_frame (s : State) (c : ChannelState) :
    (s.setChannelState c).power = s.power ∧ (s.setChannelState c).now = s.now
      ∧ (s.setChannelState c).pending = s.pending ∧ (s.setChannelState c).field = s.field
      ∧ (s.setChannelState c).span = s.span ∧ (s.setChannelState c).unit = s.unit := by
  and_intros <;> (simp [State.setChannelState])
/-- What `State.setChannelState` leaves unchanged of the Console Port. -/
@[simp] theorem State.setChannelState_console (s : State) (c : ChannelState) :
    (s.setChannelState c).console.ingress = s.console.ingress
      ∧ (s.setChannelState c).console.arrivals = s.console.arrivals
      ∧ (s.setChannelState c).console.restart = s.console.restart
      ∧ (s.setChannelState c).console.receiver = s.console.receiver
      ∧ (s.setChannelState c).console.line = s.console.line
      ∧ (s.setChannelState c).console.counts = s.console.counts
      ∧ (s.setChannelState c).console.sending = s.console.sending
      ∧ (s.setChannelState c).console.ingressOverflows = s.console.ingressOverflows := by
  and_intros <;> (simp [State.setChannelState])
/-- What `State.setChannelState` leaves unchanged of the Order Gate. -/
@[simp] theorem State.setChannelState_gate (s : State) (c : ChannelState) :
    (s.setChannelState c).gate.permits = s.gate.permits ∧ (s.setChannelState c).gate.orders = s.gate.orders
      ∧ (s.setChannelState c).gate.held = s.gate.held ∧ (s.setChannelState c).gate.own = s.gate.own
      ∧ (s.setChannelState c).gate.standdowns = s.gate.standdowns := by
  and_intros <;> (simp [State.setChannelState])
/-- What `State.setChannelState` leaves unchanged of the Crossing Sequencer. -/
@[simp] theorem State.setChannelState_seq (s : State) (c : ChannelState) :
    (s.setChannelState c).seq.table = s.seq.table ∧ (s.setChannelState c).seq.phase = s.seq.phase
      ∧ (s.setChannelState c).seq.standdowns = s.seq.standdowns
      ∧ (s.setChannelState c).seq.serial = s.seq.serial
      ∧ (s.setChannelState c).seq.tracking = s.seq.tracking
      ∧ (s.setChannelState c).seq.interrupted = s.seq.interrupted
      ∧ (s.setChannelState c).seq.request = s.seq.request
      ∧ (s.setChannelState c).seq.recovery = s.seq.recovery ∧ (s.setChannelState c).seq.dwell = s.seq.dwell
      ∧ (s.setChannelState c).seq.limit = s.seq.limit := by
  and_intros <;> (simp [State.setChannelState])
/-- What `State.setChannelState` leaves unchanged of the Channel Controller. -/
@[simp] theorem State.setChannelState_chan (s : State) (c : ChannelState) :
    (s.setChannelState c).chan.record = s.chan.record ∧ (s.setChannelState c).chan.vessels = s.chan.vessels
      ∧ (s.setChannelState c).chan.north = s.chan.north ∧ (s.setChannelState c).chan.south = s.chan.south
      ∧ (s.setChannelState c).chan.closing = s.chan.closing
      ∧ (s.setChannelState c).chan.phaseSeen = s.chan.phaseSeen
      ∧ (s.setChannelState c).chan.standdowns = s.chan.standdowns
      ∧ (s.setChannelState c).chan.changeoverPending = s.chan.changeoverPending
      ∧ (s.setChannelState c).chan.greenTimer = s.chan.greenTimer
      ∧ (s.setChannelState c).chan.changeoverTimer = s.chan.changeoverTimer
      ∧ (s.setChannelState c).chan.retryTimer = s.chan.retryTimer
      ∧ (s.setChannelState c).chan.greenExpired = s.chan.greenExpired
      ∧ (s.setChannelState c).chan.ignoredCalls = s.chan.ignoredCalls
      ∧ (s.setChannelState c).chan.badDirections = s.chan.badDirections
      ∧ (s.setChannelState c).chan.unexpectedPassages = s.chan.unexpectedPassages := by
  and_intros <;> (simp [State.setChannelState])
/-- What `State.setChannelState` leaves unchanged of the Condition Evaluator. -/
@[simp] theorem State.setChannelState_cond (s : State) (c : ChannelState) :
    (s.setChannelState c).cond.table = s.cond.table
      ∧ (s.setChannelState c).cond.counterChanges = s.cond.counterChanges := by
  and_intros <;> (simp [State.setChannelState])
/-- What `State.setChannelState` leaves unchanged of the Point Image. -/
@[simp] theorem State.setChannelState_points (s : State) (c : ChannelState) :
    (s.setChannelState c).points.map = s.points.map
      ∧ (s.setChannelState c).points.firstPair = s.points.firstPair
      ∧ (s.setChannelState c).points.pairLoss = s.points.pairLoss := by
  and_intros <;> (simp [State.setChannelState])
/-- What `State.setChannelState` leaves unchanged of the Duty Counter Unit. -/
@[simp] theorem State.setChannelState_duty (s : State) (c : ChannelState) :
    (s.setChannelState c).duty.residency = s.duty.residency
      ∧ (s.setChannelState c).duty.occupancy = s.duty.occupancy
      ∧ (s.setChannelState c).duty.standing = s.duty.standing
      ∧ (s.setChannelState c).duty.phase = s.duty.phase ∧ (s.setChannelState c).duty.frozen = s.duty.frozen
      ∧ (s.setChannelState c).duty.bands = s.duty.bands
      ∧ (s.setChannelState c).duty.counters = s.duty.counters := by
  and_intros <;> (simp [State.setChannelState])

/-- The blocks `State.setVessels` leaves unchanged. -/
@[simp] theorem State.setVessels_frame (s : State) (v : List Vessel) :
    (s.setVessels v).power = s.power ∧ (s.setVessels v).now = s.now ∧ (s.setVessels v).pending = s.pending
      ∧ (s.setVessels v).field = s.field ∧ (s.setVessels v).span = s.span ∧ (s.setVessels v).unit = s.unit := by
  and_intros <;> (simp [State.setVessels])
/-- What `State.setVessels` leaves unchanged of the Console Port. -/
@[simp] theorem State.setVessels_console (s : State) (v : List Vessel) :
    (s.setVessels v).console.ingress = s.console.ingress
      ∧ (s.setVessels v).console.arrivals = s.console.arrivals
      ∧ (s.setVessels v).console.restart = s.console.restart
      ∧ (s.setVessels v).console.receiver = s.console.receiver
      ∧ (s.setVessels v).console.line = s.console.line ∧ (s.setVessels v).console.counts = s.console.counts
      ∧ (s.setVessels v).console.sending = s.console.sending
      ∧ (s.setVessels v).console.ingressOverflows = s.console.ingressOverflows := by
  and_intros <;> (simp [State.setVessels])
/-- What `State.setVessels` leaves unchanged of the Order Gate. -/
@[simp] theorem State.setVessels_gate (s : State) (v : List Vessel) :
    (s.setVessels v).gate.permits = s.gate.permits ∧ (s.setVessels v).gate.orders = s.gate.orders
      ∧ (s.setVessels v).gate.held = s.gate.held ∧ (s.setVessels v).gate.own = s.gate.own
      ∧ (s.setVessels v).gate.standdowns = s.gate.standdowns := by
  and_intros <;> (simp [State.setVessels])
/-- What `State.setVessels` leaves unchanged of the Crossing Sequencer. -/
@[simp] theorem State.setVessels_seq (s : State) (v : List Vessel) :
    (s.setVessels v).seq.table = s.seq.table ∧ (s.setVessels v).seq.phase = s.seq.phase
      ∧ (s.setVessels v).seq.standdowns = s.seq.standdowns ∧ (s.setVessels v).seq.serial = s.seq.serial
      ∧ (s.setVessels v).seq.tracking = s.seq.tracking
      ∧ (s.setVessels v).seq.interrupted = s.seq.interrupted ∧ (s.setVessels v).seq.request = s.seq.request
      ∧ (s.setVessels v).seq.recovery = s.seq.recovery ∧ (s.setVessels v).seq.dwell = s.seq.dwell
      ∧ (s.setVessels v).seq.limit = s.seq.limit := by
  and_intros <;> (simp [State.setVessels])
/-- What `State.setVessels` leaves unchanged of the Channel Controller. -/
@[simp] theorem State.setVessels_chan (s : State) (v : List Vessel) :
    (s.setVessels v).chan.record = s.chan.record ∧ (s.setVessels v).chan.state = s.chan.state
      ∧ (s.setVessels v).chan.north = s.chan.north ∧ (s.setVessels v).chan.south = s.chan.south
      ∧ (s.setVessels v).chan.closing = s.chan.closing ∧ (s.setVessels v).chan.phaseSeen = s.chan.phaseSeen
      ∧ (s.setVessels v).chan.standdowns = s.chan.standdowns
      ∧ (s.setVessels v).chan.changeoverPending = s.chan.changeoverPending
      ∧ (s.setVessels v).chan.greenTimer = s.chan.greenTimer
      ∧ (s.setVessels v).chan.changeoverTimer = s.chan.changeoverTimer
      ∧ (s.setVessels v).chan.retryTimer = s.chan.retryTimer
      ∧ (s.setVessels v).chan.greenExpired = s.chan.greenExpired
      ∧ (s.setVessels v).chan.ignoredCalls = s.chan.ignoredCalls
      ∧ (s.setVessels v).chan.badDirections = s.chan.badDirections
      ∧ (s.setVessels v).chan.unexpectedPassages = s.chan.unexpectedPassages := by
  and_intros <;> (simp [State.setVessels])
/-- What `State.setVessels` leaves unchanged of the Condition Evaluator. -/
@[simp] theorem State.setVessels_cond (s : State) (v : List Vessel) :
    (s.setVessels v).cond.table = s.cond.table
      ∧ (s.setVessels v).cond.counterChanges = s.cond.counterChanges := by
  and_intros <;> (simp [State.setVessels])
/-- What `State.setVessels` leaves unchanged of the Point Image. -/
@[simp] theorem State.setVessels_points (s : State) (v : List Vessel) :
    (s.setVessels v).points.map = s.points.map ∧ (s.setVessels v).points.firstPair = s.points.firstPair
      ∧ (s.setVessels v).points.pairLoss = s.points.pairLoss := by
  and_intros <;> (simp [State.setVessels])
/-- What `State.setVessels` leaves unchanged of the Duty Counter Unit. -/
@[simp] theorem State.setVessels_duty (s : State) (v : List Vessel) :
    (s.setVessels v).duty.residency = s.duty.residency ∧ (s.setVessels v).duty.occupancy = s.duty.occupancy
      ∧ (s.setVessels v).duty.standing = s.duty.standing ∧ (s.setVessels v).duty.phase = s.duty.phase
      ∧ (s.setVessels v).duty.frozen = s.duty.frozen ∧ (s.setVessels v).duty.bands = s.duty.bands
      ∧ (s.setVessels v).duty.counters = s.duty.counters := by
  and_intros <;> (simp [State.setVessels])

/-- The blocks `State.offerSignal` leaves unchanged. -/
@[simp] theorem State.offerSignal_frame (s : State) (d : Direction) (k : SignalKind) :
    ((s.offerSignal d k).1).power = s.power ∧ ((s.offerSignal d k).1).now = s.now
      ∧ ((s.offerSignal d k).1).pending = s.pending ∧ ((s.offerSignal d k).1).field = s.field
      ∧ ((s.offerSignal d k).1).points = s.points ∧ ((s.offerSignal d k).1).span = s.span
      ∧ ((s.offerSignal d k).1).seq = s.seq ∧ ((s.offerSignal d k).1).unit = s.unit := by
  and_intros <;> (rw [State.offerSignal_eq]; split <;> dsimp only <;> (try split) <;> simp [Channel.addOwn])
/-- What `State.offerSignal` leaves unchanged of the Console Port. -/
@[simp] theorem State.offerSignal_console (s : State) (d : Direction) (k : SignalKind) :
    ((s.offerSignal d k).1).console.ingress = s.console.ingress
      ∧ ((s.offerSignal d k).1).console.arrivals = s.console.arrivals
      ∧ ((s.offerSignal d k).1).console.restart = s.console.restart
      ∧ ((s.offerSignal d k).1).console.receiver = s.console.receiver
      ∧ ((s.offerSignal d k).1).console.line = s.console.line
      ∧ ((s.offerSignal d k).1).console.counts = s.console.counts
      ∧ ((s.offerSignal d k).1).console.sending = s.console.sending
      ∧ ((s.offerSignal d k).1).console.ingressOverflows = s.console.ingressOverflows := by
  and_intros <;> (rw [State.offerSignal_eq]; split <;> dsimp only <;> (try split) <;> simp [Channel.addOwn])
/-- What `State.offerSignal` leaves unchanged of the Order Gate. -/
@[simp] theorem State.offerSignal_gate (s : State) (d : Direction) (k : SignalKind) :
    ((s.offerSignal d k).1).gate.permits = s.gate.permits
      ∧ ((s.offerSignal d k).1).gate.orders = s.gate.orders
      ∧ ((s.offerSignal d k).1).gate.held = s.gate.held
      ∧ ((s.offerSignal d k).1).gate.standdowns = s.gate.standdowns
      ∧ ((s.offerSignal d k).1).gate.sets = s.gate.sets := by
  and_intros <;> (rw [State.offerSignal_eq]; split <;> dsimp only <;> (try split) <;> simp [Channel.addOwn])
/-- What `State.offerSignal` leaves unchanged of the Channel Controller. -/
@[simp] theorem State.offerSignal_chan (s : State) (d : Direction) (k : SignalKind) :
    ((s.offerSignal d k).1).chan.record = s.chan.record
      ∧ ((s.offerSignal d k).1).chan.vessels = s.chan.vessels
      ∧ ((s.offerSignal d k).1).chan.state = s.chan.state
      ∧ ((s.offerSignal d k).1).chan.closing = s.chan.closing
      ∧ ((s.offerSignal d k).1).chan.phaseSeen = s.chan.phaseSeen
      ∧ ((s.offerSignal d k).1).chan.standdowns = s.chan.standdowns
      ∧ ((s.offerSignal d k).1).chan.sets = s.chan.sets
      ∧ ((s.offerSignal d k).1).chan.changeoverPending = s.chan.changeoverPending
      ∧ ((s.offerSignal d k).1).chan.greenTimer = s.chan.greenTimer
      ∧ ((s.offerSignal d k).1).chan.changeoverTimer = s.chan.changeoverTimer
      ∧ ((s.offerSignal d k).1).chan.retryTimer = s.chan.retryTimer
      ∧ ((s.offerSignal d k).1).chan.greenExpired = s.chan.greenExpired
      ∧ ((s.offerSignal d k).1).chan.ignoredCalls = s.chan.ignoredCalls
      ∧ ((s.offerSignal d k).1).chan.badDirections = s.chan.badDirections
      ∧ ((s.offerSignal d k).1).chan.unexpectedPassages = s.chan.unexpectedPassages := by
  and_intros <;> (rw [State.offerSignal_eq]; split <;> dsimp only <;> (try split) <;> simp [Channel.addOwn])
/-- What `State.offerSignal` leaves unchanged of the Condition Evaluator. -/
@[simp] theorem State.offerSignal_cond (s : State) (d : Direction) (k : SignalKind) :
    ((s.offerSignal d k).1).cond.table = s.cond.table ∧ ((s.offerSignal d k).1).cond.states = s.cond.states := by
  and_intros <;> (rw [State.offerSignal_eq]; split <;> dsimp only <;> (try split) <;> simp [Channel.addOwn])

/-- The blocks `State.redFailed` leaves unchanged. -/
@[simp] theorem State.redFailed_frame (s : State) (d : Direction) :
    (s.redFailed d).power = s.power ∧ (s.redFailed d).now = s.now ∧ (s.redFailed d).pending = s.pending := by
  and_intros <;> (simp [State.redFailed, Channel.wantRed])
/-- What `State.redFailed` leaves unchanged of the Console Port. -/
@[simp] theorem State.redFailed_console (s : State) (d : Direction) :
    (s.redFailed d).console.ingress = s.console.ingress
      ∧ (s.redFailed d).console.arrivals = s.console.arrivals
      ∧ (s.redFailed d).console.restart = s.console.restart
      ∧ (s.redFailed d).console.receiver = s.console.receiver
      ∧ (s.redFailed d).console.line = s.console.line ∧ (s.redFailed d).console.counts = s.console.counts
      ∧ (s.redFailed d).console.sending = s.console.sending
      ∧ (s.redFailed d).console.ingressOverflows = s.console.ingressOverflows := by
  and_intros <;> (simp [State.redFailed, Channel.wantRed])
/-- What `State.redFailed` leaves unchanged of the Order Gate. -/
@[simp] theorem State.redFailed_gate (s : State) (d : Direction) :
    (s.redFailed d).gate.permits = s.gate.permits ∧ (s.redFailed d).gate.orders = s.gate.orders
      ∧ (s.redFailed d).gate.held = s.gate.held ∧ (s.redFailed d).gate.own = s.gate.own := by
  and_intros <;> (simp [State.redFailed, Channel.wantRed])
/-- What `State.redFailed` leaves unchanged of the Crossing Sequencer. -/
@[simp] theorem State.redFailed_seq (s : State) (d : Direction) :
    (s.redFailed d).seq.table = s.seq.table ∧ (s.redFailed d).seq.phase = s.seq.phase
      ∧ (s.redFailed d).seq.serial = s.seq.serial ∧ (s.redFailed d).seq.tracking = s.seq.tracking
      ∧ (s.redFailed d).seq.interrupted = s.seq.interrupted ∧ (s.redFailed d).seq.request = s.seq.request
      ∧ (s.redFailed d).seq.recovery = s.seq.recovery ∧ (s.redFailed d).seq.dwell = s.seq.dwell
      ∧ (s.redFailed d).seq.limit = s.seq.limit := by
  and_intros <;> (simp [State.redFailed, Channel.wantRed])
/-- What `State.redFailed` leaves unchanged of the Channel Controller. -/
@[simp] theorem State.redFailed_chan (s : State) (d : Direction) :
    (s.redFailed d).chan.record = s.chan.record ∧ (s.redFailed d).chan.vessels = s.chan.vessels
      ∧ (s.redFailed d).chan.state = s.chan.state ∧ (s.redFailed d).chan.closing = s.chan.closing
      ∧ (s.redFailed d).chan.phaseSeen = s.chan.phaseSeen
      ∧ (s.redFailed d).chan.changeoverPending = s.chan.changeoverPending
      ∧ (s.redFailed d).chan.greenTimer = s.chan.greenTimer
      ∧ (s.redFailed d).chan.changeoverTimer = s.chan.changeoverTimer
      ∧ (s.redFailed d).chan.retryTimer = s.chan.retryTimer
      ∧ (s.redFailed d).chan.greenExpired = s.chan.greenExpired
      ∧ (s.redFailed d).chan.ignoredCalls = s.chan.ignoredCalls
      ∧ (s.redFailed d).chan.badDirections = s.chan.badDirections
      ∧ (s.redFailed d).chan.unexpectedPassages = s.chan.unexpectedPassages := by
  and_intros <;> (simp [State.redFailed, Channel.wantRed])
/-- What `State.redFailed` leaves unchanged of the Condition Evaluator. -/
@[simp] theorem State.redFailed_cond (s : State) (d : Direction) :
    (s.redFailed d).cond.table = s.cond.table ∧ (s.redFailed d).cond.counterChanges = s.cond.counterChanges := by
  and_intros <;> (simp [State.redFailed, Channel.wantRed])
/-- What `State.redFailed` leaves unchanged of the Field Engine. -/
@[simp] theorem State.redFailed_field (s : State) (d : Direction) :
    (s.redFailed d).field.scanList = s.field.scanList ∧ (s.redFailed d).field.tx = s.field.tx
      ∧ (s.redFailed d).field.link = s.field.link ∧ (s.redFailed d).field.nodes = s.field.nodes
      ∧ (s.redFailed d).field.counts = s.field.counts ∧ (s.redFailed d).field.receiver = s.field.receiver
      ∧ (s.redFailed d).field.line = s.field.line ∧ (s.redFailed d).field.arrivals = s.field.arrivals
      ∧ (s.redFailed d).field.contention = s.field.contention
      ∧ (s.redFailed d).field.credit = s.field.credit ∧ (s.redFailed d).field.scanMode = s.field.scanMode
      ∧ (s.redFailed d).field.echo = s.field.echo ∧ (s.redFailed d).field.nextTag = s.field.nextTag
      ∧ (s.redFailed d).field.trimA = s.field.trimA ∧ (s.redFailed d).field.trimB = s.field.trimB
      ∧ (s.redFailed d).field.stopA = s.field.stopA ∧ (s.redFailed d).field.stopB = s.field.stopB
      ∧ (s.redFailed d).field.pointer = s.field.pointer ∧ (s.redFailed d).field.cycle = s.field.cycle
      ∧ (s.redFailed d).field.sweep = s.field.sweep
      ∧ (s.redFailed d).field.replyTimeout = s.field.replyTimeout
      ∧ (s.redFailed d).field.silentLimit = s.field.silentLimit := by
  and_intros <;> (simp [State.redFailed, Channel.wantRed])
/-- What `State.redFailed` leaves unchanged of the Span Supervisor. -/
@[simp] theorem State.redFailed_span (s : State) (d : Direction) :
    (s.redFailed d).span.record = s.span.record ∧ (s.redFailed d).span.correction = s.span.correction
      ∧ (s.redFailed d).span.level = s.span.level ∧ (s.redFailed d).span.lastSkew = s.span.lastSkew
      ∧ (s.redFailed d).span.lastHold = s.span.lastHold
      ∧ (s.redFailed d).span.holdRunning = s.span.holdRunning
      ∧ (s.redFailed d).span.previous = s.span.previous ∧ (s.redFailed d).span.lastTrim = s.span.lastTrim
      ∧ (s.redFailed d).span.levelChanges = s.span.levelChanges := by
  and_intros <;> (simp [State.redFailed, Channel.wantRed])
/-- What `State.redFailed` leaves unchanged of the mode and the chain. -/
@[simp] theorem State.redFailed_unit (s : State) (d : Direction) :
    (s.redFailed d).unit.mode = s.unit.mode ∧ (s.redFailed d).unit.limits = s.unit.limits
      ∧ (s.redFailed d).unit.estop = s.unit.estop ∧ (s.redFailed d).unit.key = s.unit.key
      ∧ (s.redFailed d).unit.locked = s.unit.locked ∧ (s.redFailed d).unit.validation = s.unit.validation
      ∧ (s.redFailed d).unit.maintenancePending = s.unit.maintenancePending := by
  and_intros <;> (simp [State.redFailed, Channel.wantRed])
/-- What `State.redFailed` leaves unchanged of the Point Image. -/
@[simp] theorem State.redFailed_points (s : State) (d : Direction) :
    (s.redFailed d).points.map = s.points.map ∧ (s.redFailed d).points.firstPair = s.points.firstPair
      ∧ (s.redFailed d).points.pairLoss = s.points.pairLoss := by
  and_intros <;> (simp [State.redFailed, Channel.wantRed])
/-- What `State.redFailed` leaves unchanged of the Duty Counter Unit. -/
@[simp] theorem State.redFailed_duty (s : State) (d : Direction) :
    (s.redFailed d).duty.residency = s.duty.residency ∧ (s.redFailed d).duty.occupancy = s.duty.occupancy
      ∧ (s.redFailed d).duty.standing = s.duty.standing ∧ (s.redFailed d).duty.phase = s.duty.phase
      ∧ (s.redFailed d).duty.frozen = s.duty.frozen ∧ (s.redFailed d).duty.bands = s.duty.bands
      ∧ (s.redFailed d).duty.counters = s.duty.counters := by
  and_intros <;> (simp [State.redFailed, Channel.wantRed])

/-- The blocks `State.offerRed` leaves unchanged. -/
@[simp] theorem State.offerRed_frame (s : State) (d : Direction) :
    (s.offerRed d).power = s.power ∧ (s.offerRed d).now = s.now ∧ (s.offerRed d).pending = s.pending := by
  and_intros <;> (rw [State.offerRed_eq]; split <;> simp)
/-- What `State.offerRed` leaves unchanged of the Console Port. -/
@[simp] theorem State.offerRed_console (s : State) (d : Direction) :
    (s.offerRed d).console.ingress = s.console.ingress
      ∧ (s.offerRed d).console.arrivals = s.console.arrivals
      ∧ (s.offerRed d).console.restart = s.console.restart
      ∧ (s.offerRed d).console.receiver = s.console.receiver ∧ (s.offerRed d).console.line = s.console.line
      ∧ (s.offerRed d).console.counts = s.console.counts
      ∧ (s.offerRed d).console.sending = s.console.sending
      ∧ (s.offerRed d).console.ingressOverflows = s.console.ingressOverflows := by
  and_intros <;> (rw [State.offerRed_eq]; split <;> simp)
/-- What `State.offerRed` leaves unchanged of the Order Gate. -/
@[simp] theorem State.offerRed_gate (s : State) (d : Direction) :
    (s.offerRed d).gate.permits = s.gate.permits ∧ (s.offerRed d).gate.orders = s.gate.orders
      ∧ (s.offerRed d).gate.held = s.gate.held := by
  and_intros <;> (rw [State.offerRed_eq]; split <;> simp)
/-- What `State.offerRed` leaves unchanged of the Crossing Sequencer. -/
@[simp] theorem State.offerRed_seq (s : State) (d : Direction) :
    (s.offerRed d).seq.table = s.seq.table ∧ (s.offerRed d).seq.phase = s.seq.phase
      ∧ (s.offerRed d).seq.serial = s.seq.serial ∧ (s.offerRed d).seq.tracking = s.seq.tracking
      ∧ (s.offerRed d).seq.interrupted = s.seq.interrupted ∧ (s.offerRed d).seq.request = s.seq.request
      ∧ (s.offerRed d).seq.recovery = s.seq.recovery ∧ (s.offerRed d).seq.dwell = s.seq.dwell
      ∧ (s.offerRed d).seq.limit = s.seq.limit := by
  and_intros <;> (rw [State.offerRed_eq]; split <;> simp)
/-- What `State.offerRed` leaves unchanged of the Channel Controller. -/
@[simp] theorem State.offerRed_chan (s : State) (d : Direction) :
    (s.offerRed d).chan.record = s.chan.record ∧ (s.offerRed d).chan.vessels = s.chan.vessels
      ∧ (s.offerRed d).chan.state = s.chan.state ∧ (s.offerRed d).chan.closing = s.chan.closing
      ∧ (s.offerRed d).chan.phaseSeen = s.chan.phaseSeen
      ∧ (s.offerRed d).chan.changeoverPending = s.chan.changeoverPending
      ∧ (s.offerRed d).chan.greenTimer = s.chan.greenTimer
      ∧ (s.offerRed d).chan.changeoverTimer = s.chan.changeoverTimer
      ∧ (s.offerRed d).chan.retryTimer = s.chan.retryTimer
      ∧ (s.offerRed d).chan.greenExpired = s.chan.greenExpired
      ∧ (s.offerRed d).chan.ignoredCalls = s.chan.ignoredCalls
      ∧ (s.offerRed d).chan.badDirections = s.chan.badDirections
      ∧ (s.offerRed d).chan.unexpectedPassages = s.chan.unexpectedPassages := by
  and_intros <;> (rw [State.offerRed_eq]; split <;> simp)
/-- What `State.offerRed` leaves unchanged of the Condition Evaluator. -/
@[simp] theorem State.offerRed_cond (s : State) (d : Direction) :
    (s.offerRed d).cond.table = s.cond.table := by
  rw [State.offerRed_eq]; split <;> simp
/-- What `State.offerRed` leaves unchanged of the Field Engine. -/
@[simp] theorem State.offerRed_field (s : State) (d : Direction) :
    (s.offerRed d).field.scanList = s.field.scanList ∧ (s.offerRed d).field.tx = s.field.tx
      ∧ (s.offerRed d).field.link = s.field.link ∧ (s.offerRed d).field.nodes = s.field.nodes
      ∧ (s.offerRed d).field.counts = s.field.counts ∧ (s.offerRed d).field.receiver = s.field.receiver
      ∧ (s.offerRed d).field.line = s.field.line ∧ (s.offerRed d).field.arrivals = s.field.arrivals
      ∧ (s.offerRed d).field.contention = s.field.contention ∧ (s.offerRed d).field.credit = s.field.credit
      ∧ (s.offerRed d).field.scanMode = s.field.scanMode ∧ (s.offerRed d).field.echo = s.field.echo
      ∧ (s.offerRed d).field.nextTag = s.field.nextTag ∧ (s.offerRed d).field.trimA = s.field.trimA
      ∧ (s.offerRed d).field.trimB = s.field.trimB ∧ (s.offerRed d).field.stopA = s.field.stopA
      ∧ (s.offerRed d).field.stopB = s.field.stopB ∧ (s.offerRed d).field.pointer = s.field.pointer
      ∧ (s.offerRed d).field.cycle = s.field.cycle ∧ (s.offerRed d).field.sweep = s.field.sweep
      ∧ (s.offerRed d).field.replyTimeout = s.field.replyTimeout
      ∧ (s.offerRed d).field.silentLimit = s.field.silentLimit := by
  and_intros <;> (rw [State.offerRed_eq]; split <;> simp)
/-- What `State.offerRed` leaves unchanged of the Span Supervisor. -/
@[simp] theorem State.offerRed_span (s : State) (d : Direction) :
    (s.offerRed d).span.record = s.span.record ∧ (s.offerRed d).span.correction = s.span.correction
      ∧ (s.offerRed d).span.level = s.span.level ∧ (s.offerRed d).span.lastSkew = s.span.lastSkew
      ∧ (s.offerRed d).span.lastHold = s.span.lastHold
      ∧ (s.offerRed d).span.holdRunning = s.span.holdRunning
      ∧ (s.offerRed d).span.previous = s.span.previous ∧ (s.offerRed d).span.lastTrim = s.span.lastTrim
      ∧ (s.offerRed d).span.levelChanges = s.span.levelChanges := by
  and_intros <;> (rw [State.offerRed_eq]; split <;> simp)
/-- What `State.offerRed` leaves unchanged of the mode and the chain. -/
@[simp] theorem State.offerRed_unit (s : State) (d : Direction) :
    (s.offerRed d).unit.mode = s.unit.mode ∧ (s.offerRed d).unit.limits = s.unit.limits
      ∧ (s.offerRed d).unit.estop = s.unit.estop ∧ (s.offerRed d).unit.key = s.unit.key
      ∧ (s.offerRed d).unit.locked = s.unit.locked ∧ (s.offerRed d).unit.validation = s.unit.validation
      ∧ (s.offerRed d).unit.maintenancePending = s.unit.maintenancePending := by
  and_intros <;> (rw [State.offerRed_eq]; split <;> simp)
/-- What `State.offerRed` leaves unchanged of the Point Image. -/
@[simp] theorem State.offerRed_points (s : State) (d : Direction) :
    (s.offerRed d).points.map = s.points.map ∧ (s.offerRed d).points.firstPair = s.points.firstPair
      ∧ (s.offerRed d).points.pairLoss = s.points.pairLoss := by
  and_intros <;> (rw [State.offerRed_eq]; split <;> simp)

/-- The blocks `State.offerRedOnce` leaves unchanged. -/
@[simp] theorem State.offerRedOnce_frame (s : State) (d : Direction) :
    (s.offerRedOnce d).power = s.power ∧ (s.offerRedOnce d).now = s.now
      ∧ (s.offerRedOnce d).pending = s.pending := by
  and_intros <;> (unfold State.offerRedOnce; split <;> simp)
/-- What `State.offerRedOnce` leaves unchanged of the Console Port. -/
@[simp] theorem State.offerRedOnce_console (s : State) (d : Direction) :
    (s.offerRedOnce d).console.ingress = s.console.ingress
      ∧ (s.offerRedOnce d).console.arrivals = s.console.arrivals
      ∧ (s.offerRedOnce d).console.restart = s.console.restart
      ∧ (s.offerRedOnce d).console.receiver = s.console.receiver
      ∧ (s.offerRedOnce d).console.line = s.console.line
      ∧ (s.offerRedOnce d).console.counts = s.console.counts
      ∧ (s.offerRedOnce d).console.sending = s.console.sending
      ∧ (s.offerRedOnce d).console.ingressOverflows = s.console.ingressOverflows := by
  and_intros <;> (unfold State.offerRedOnce; split <;> simp)
/-- What `State.offerRedOnce` leaves unchanged of the Order Gate. -/
@[simp] theorem State.offerRedOnce_gate (s : State) (d : Direction) :
    (s.offerRedOnce d).gate.permits = s.gate.permits ∧ (s.offerRedOnce d).gate.orders = s.gate.orders
      ∧ (s.offerRedOnce d).gate.held = s.gate.held := by
  and_intros <;> (unfold State.offerRedOnce; split <;> simp)
/-- What `State.offerRedOnce` leaves unchanged of the Crossing Sequencer. -/
@[simp] theorem State.offerRedOnce_seq (s : State) (d : Direction) :
    (s.offerRedOnce d).seq.table = s.seq.table ∧ (s.offerRedOnce d).seq.phase = s.seq.phase
      ∧ (s.offerRedOnce d).seq.serial = s.seq.serial ∧ (s.offerRedOnce d).seq.tracking = s.seq.tracking
      ∧ (s.offerRedOnce d).seq.interrupted = s.seq.interrupted
      ∧ (s.offerRedOnce d).seq.request = s.seq.request ∧ (s.offerRedOnce d).seq.recovery = s.seq.recovery
      ∧ (s.offerRedOnce d).seq.dwell = s.seq.dwell ∧ (s.offerRedOnce d).seq.limit = s.seq.limit := by
  and_intros <;> (unfold State.offerRedOnce; split <;> simp)
/-- What `State.offerRedOnce` leaves unchanged of the Channel Controller. -/
@[simp] theorem State.offerRedOnce_chan (s : State) (d : Direction) :
    (s.offerRedOnce d).chan.record = s.chan.record ∧ (s.offerRedOnce d).chan.vessels = s.chan.vessels
      ∧ (s.offerRedOnce d).chan.state = s.chan.state ∧ (s.offerRedOnce d).chan.closing = s.chan.closing
      ∧ (s.offerRedOnce d).chan.phaseSeen = s.chan.phaseSeen
      ∧ (s.offerRedOnce d).chan.changeoverPending = s.chan.changeoverPending
      ∧ (s.offerRedOnce d).chan.greenTimer = s.chan.greenTimer
      ∧ (s.offerRedOnce d).chan.changeoverTimer = s.chan.changeoverTimer
      ∧ (s.offerRedOnce d).chan.retryTimer = s.chan.retryTimer
      ∧ (s.offerRedOnce d).chan.greenExpired = s.chan.greenExpired
      ∧ (s.offerRedOnce d).chan.ignoredCalls = s.chan.ignoredCalls
      ∧ (s.offerRedOnce d).chan.badDirections = s.chan.badDirections
      ∧ (s.offerRedOnce d).chan.unexpectedPassages = s.chan.unexpectedPassages := by
  and_intros <;> (unfold State.offerRedOnce; split <;> simp)
/-- What `State.offerRedOnce` leaves unchanged of the Condition Evaluator. -/
@[simp] theorem State.offerRedOnce_cond (s : State) (d : Direction) :
    (s.offerRedOnce d).cond.table = s.cond.table := by
  unfold State.offerRedOnce; split <;> simp
/-- What `State.offerRedOnce` leaves unchanged of the Field Engine. -/
@[simp] theorem State.offerRedOnce_field (s : State) (d : Direction) :
    (s.offerRedOnce d).field.scanList = s.field.scanList ∧ (s.offerRedOnce d).field.tx = s.field.tx
      ∧ (s.offerRedOnce d).field.link = s.field.link ∧ (s.offerRedOnce d).field.nodes = s.field.nodes
      ∧ (s.offerRedOnce d).field.counts = s.field.counts
      ∧ (s.offerRedOnce d).field.receiver = s.field.receiver ∧ (s.offerRedOnce d).field.line = s.field.line
      ∧ (s.offerRedOnce d).field.arrivals = s.field.arrivals
      ∧ (s.offerRedOnce d).field.contention = s.field.contention
      ∧ (s.offerRedOnce d).field.credit = s.field.credit
      ∧ (s.offerRedOnce d).field.scanMode = s.field.scanMode ∧ (s.offerRedOnce d).field.echo = s.field.echo
      ∧ (s.offerRedOnce d).field.nextTag = s.field.nextTag ∧ (s.offerRedOnce d).field.trimA = s.field.trimA
      ∧ (s.offerRedOnce d).field.trimB = s.field.trimB ∧ (s.offerRedOnce d).field.stopA = s.field.stopA
      ∧ (s.offerRedOnce d).field.stopB = s.field.stopB ∧ (s.offerRedOnce d).field.pointer = s.field.pointer
      ∧ (s.offerRedOnce d).field.cycle = s.field.cycle ∧ (s.offerRedOnce d).field.sweep = s.field.sweep
      ∧ (s.offerRedOnce d).field.replyTimeout = s.field.replyTimeout
      ∧ (s.offerRedOnce d).field.silentLimit = s.field.silentLimit := by
  and_intros <;> (unfold State.offerRedOnce; split <;> simp)
/-- What `State.offerRedOnce` leaves unchanged of the Span Supervisor. -/
@[simp] theorem State.offerRedOnce_span (s : State) (d : Direction) :
    (s.offerRedOnce d).span.record = s.span.record ∧ (s.offerRedOnce d).span.correction = s.span.correction
      ∧ (s.offerRedOnce d).span.level = s.span.level ∧ (s.offerRedOnce d).span.lastSkew = s.span.lastSkew
      ∧ (s.offerRedOnce d).span.lastHold = s.span.lastHold
      ∧ (s.offerRedOnce d).span.holdRunning = s.span.holdRunning
      ∧ (s.offerRedOnce d).span.previous = s.span.previous
      ∧ (s.offerRedOnce d).span.lastTrim = s.span.lastTrim
      ∧ (s.offerRedOnce d).span.levelChanges = s.span.levelChanges := by
  and_intros <;> (unfold State.offerRedOnce; split <;> simp)
/-- What `State.offerRedOnce` leaves unchanged of the mode and the chain. -/
@[simp] theorem State.offerRedOnce_unit (s : State) (d : Direction) :
    (s.offerRedOnce d).unit.mode = s.unit.mode ∧ (s.offerRedOnce d).unit.limits = s.unit.limits
      ∧ (s.offerRedOnce d).unit.estop = s.unit.estop ∧ (s.offerRedOnce d).unit.key = s.unit.key
      ∧ (s.offerRedOnce d).unit.locked = s.unit.locked
      ∧ (s.offerRedOnce d).unit.validation = s.unit.validation
      ∧ (s.offerRedOnce d).unit.maintenancePending = s.unit.maintenancePending := by
  and_intros <;> (unfold State.offerRedOnce; split <;> simp)
/-- What `State.offerRedOnce` leaves unchanged of the Point Image. -/
@[simp] theorem State.offerRedOnce_points (s : State) (d : Direction) :
    (s.offerRedOnce d).points.map = s.points.map ∧ (s.offerRedOnce d).points.firstPair = s.points.firstPair
      ∧ (s.offerRedOnce d).points.pairLoss = s.points.pairLoss := by
  and_intros <;> (unfold State.offerRedOnce; split <;> simp)

/-- The blocks `State.changeoverRed` leaves unchanged. -/
@[simp] theorem State.changeoverRed_frame (s : State) (d : Direction) :
    (s.changeoverRed d).power = s.power ∧ (s.changeoverRed d).now = s.now
      ∧ (s.changeoverRed d).pending = s.pending ∧ (s.changeoverRed d).field = s.field
      ∧ (s.changeoverRed d).span = s.span ∧ (s.changeoverRed d).unit = s.unit := by
  and_intros <;> (unfold State.changeoverRed; (repeat' split) <;> simp)
/-- What `State.changeoverRed` leaves unchanged of the Console Port. -/
@[simp] theorem State.changeoverRed_console (s : State) (d : Direction) :
    (s.changeoverRed d).console.ingress = s.console.ingress
      ∧ (s.changeoverRed d).console.arrivals = s.console.arrivals
      ∧ (s.changeoverRed d).console.restart = s.console.restart
      ∧ (s.changeoverRed d).console.receiver = s.console.receiver
      ∧ (s.changeoverRed d).console.line = s.console.line
      ∧ (s.changeoverRed d).console.counts = s.console.counts
      ∧ (s.changeoverRed d).console.sending = s.console.sending
      ∧ (s.changeoverRed d).console.ingressOverflows = s.console.ingressOverflows := by
  and_intros <;> (unfold State.changeoverRed; (repeat' split) <;> simp)
/-- What `State.changeoverRed` leaves unchanged of the Order Gate. -/
@[simp] theorem State.changeoverRed_gate (s : State) (d : Direction) :
    (s.changeoverRed d).gate.permits = s.gate.permits ∧ (s.changeoverRed d).gate.orders = s.gate.orders
      ∧ (s.changeoverRed d).gate.held = s.gate.held ∧ (s.changeoverRed d).gate.own = s.gate.own
      ∧ (s.changeoverRed d).gate.standdowns = s.gate.standdowns := by
  and_intros <;> (unfold State.changeoverRed; (repeat' split) <;> simp)
/-- What `State.changeoverRed` leaves unchanged of the Crossing Sequencer. -/
@[simp] theorem State.changeoverRed_seq (s : State) (d : Direction) :
    (s.changeoverRed d).seq.table = s.seq.table ∧ (s.changeoverRed d).seq.phase = s.seq.phase
      ∧ (s.changeoverRed d).seq.standdowns = s.seq.standdowns
      ∧ (s.changeoverRed d).seq.serial = s.seq.serial ∧ (s.changeoverRed d).seq.tracking = s.seq.tracking
      ∧ (s.changeoverRed d).seq.interrupted = s.seq.interrupted
      ∧ (s.changeoverRed d).seq.request = s.seq.request ∧ (s.changeoverRed d).seq.recovery = s.seq.recovery
      ∧ (s.changeoverRed d).seq.dwell = s.seq.dwell ∧ (s.changeoverRed d).seq.limit = s.seq.limit := by
  and_intros <;> (unfold State.changeoverRed; (repeat' split) <;> simp)
/-- What `State.changeoverRed` leaves unchanged of the Channel Controller. -/
@[simp] theorem State.changeoverRed_chan (s : State) (d : Direction) :
    (s.changeoverRed d).chan.record = s.chan.record ∧ (s.changeoverRed d).chan.vessels = s.chan.vessels
      ∧ (s.changeoverRed d).chan.north = s.chan.north ∧ (s.changeoverRed d).chan.south = s.chan.south
      ∧ (s.changeoverRed d).chan.closing = s.chan.closing
      ∧ (s.changeoverRed d).chan.phaseSeen = s.chan.phaseSeen
      ∧ (s.changeoverRed d).chan.standdowns = s.chan.standdowns
      ∧ (s.changeoverRed d).chan.retryTimer = s.chan.retryTimer
      ∧ (s.changeoverRed d).chan.ignoredCalls = s.chan.ignoredCalls
      ∧ (s.changeoverRed d).chan.badDirections = s.chan.badDirections
      ∧ (s.changeoverRed d).chan.unexpectedPassages = s.chan.unexpectedPassages := by
  and_intros <;> (unfold State.changeoverRed; (repeat' split) <;> simp)
/-- What `State.changeoverRed` leaves unchanged of the Condition Evaluator. -/
@[simp] theorem State.changeoverRed_cond (s : State) (d : Direction) :
    (s.changeoverRed d).cond.table = s.cond.table
      ∧ (s.changeoverRed d).cond.counterChanges = s.cond.counterChanges := by
  and_intros <;> (unfold State.changeoverRed; (repeat' split) <;> simp)
/-- What `State.changeoverRed` leaves unchanged of the Point Image. -/
@[simp] theorem State.changeoverRed_points (s : State) (d : Direction) :
    (s.changeoverRed d).points.map = s.points.map
      ∧ (s.changeoverRed d).points.firstPair = s.points.firstPair
      ∧ (s.changeoverRed d).points.pairLoss = s.points.pairLoss := by
  and_intros <;> (unfold State.changeoverRed; (repeat' split) <;> simp)
/-- What `State.changeoverRed` leaves unchanged of the Duty Counter Unit. -/
@[simp] theorem State.changeoverRed_duty (s : State) (d : Direction) :
    (s.changeoverRed d).duty.residency = s.duty.residency
      ∧ (s.changeoverRed d).duty.occupancy = s.duty.occupancy
      ∧ (s.changeoverRed d).duty.standing = s.duty.standing ∧ (s.changeoverRed d).duty.phase = s.duty.phase
      ∧ (s.changeoverRed d).duty.frozen = s.duty.frozen ∧ (s.changeoverRed d).duty.bands = s.duty.bands
      ∧ (s.changeoverRed d).duty.counters = s.duty.counters := by
  and_intros <;> (unfold State.changeoverRed; (repeat' split) <;> simp)

/-- The blocks `State.closingCheck` leaves unchanged. -/
@[simp] theorem State.closingCheck_frame (s : State) :
    (s.closingCheck).power = s.power ∧ (s.closingCheck).now = s.now ∧ (s.closingCheck).pending = s.pending
      ∧ (s.closingCheck).field = s.field ∧ (s.closingCheck).span = s.span ∧ (s.closingCheck).unit = s.unit := by
  and_intros <;> (unfold State.closingCheck; split <;> simp)
/-- What `State.closingCheck` leaves unchanged of the Console Port. -/
@[simp] theorem State.closingCheck_console (s : State) :
    (s.closingCheck).console.ingress = s.console.ingress
      ∧ (s.closingCheck).console.arrivals = s.console.arrivals
      ∧ (s.closingCheck).console.restart = s.console.restart
      ∧ (s.closingCheck).console.receiver = s.console.receiver
      ∧ (s.closingCheck).console.line = s.console.line ∧ (s.closingCheck).console.counts = s.console.counts
      ∧ (s.closingCheck).console.sending = s.console.sending
      ∧ (s.closingCheck).console.ingressOverflows = s.console.ingressOverflows := by
  and_intros <;> (unfold State.closingCheck; split <;> simp)
/-- What `State.closingCheck` leaves unchanged of the Order Gate. -/
@[simp] theorem State.closingCheck_gate (s : State) :
    (s.closingCheck).gate.permits = s.gate.permits ∧ (s.closingCheck).gate.orders = s.gate.orders
      ∧ (s.closingCheck).gate.held = s.gate.held ∧ (s.closingCheck).gate.own = s.gate.own
      ∧ (s.closingCheck).gate.standdowns = s.gate.standdowns := by
  and_intros <;> (unfold State.closingCheck; split <;> simp)
/-- What `State.closingCheck` leaves unchanged of the Crossing Sequencer. -/
@[simp] theorem State.closingCheck_seq (s : State) :
    (s.closingCheck).seq.table = s.seq.table ∧ (s.closingCheck).seq.phase = s.seq.phase
      ∧ (s.closingCheck).seq.standdowns = s.seq.standdowns ∧ (s.closingCheck).seq.serial = s.seq.serial
      ∧ (s.closingCheck).seq.tracking = s.seq.tracking
      ∧ (s.closingCheck).seq.interrupted = s.seq.interrupted ∧ (s.closingCheck).seq.request = s.seq.request
      ∧ (s.closingCheck).seq.recovery = s.seq.recovery ∧ (s.closingCheck).seq.dwell = s.seq.dwell
      ∧ (s.closingCheck).seq.limit = s.seq.limit := by
  and_intros <;> (unfold State.closingCheck; split <;> simp)
/-- What `State.closingCheck` leaves unchanged of the Channel Controller. -/
@[simp] theorem State.closingCheck_chan (s : State) :
    (s.closingCheck).chan.record = s.chan.record ∧ (s.closingCheck).chan.vessels = s.chan.vessels
      ∧ (s.closingCheck).chan.north = s.chan.north ∧ (s.closingCheck).chan.south = s.chan.south
      ∧ (s.closingCheck).chan.phaseSeen = s.chan.phaseSeen
      ∧ (s.closingCheck).chan.standdowns = s.chan.standdowns
      ∧ (s.closingCheck).chan.changeoverPending = s.chan.changeoverPending
      ∧ (s.closingCheck).chan.greenTimer = s.chan.greenTimer
      ∧ (s.closingCheck).chan.changeoverTimer = s.chan.changeoverTimer
      ∧ (s.closingCheck).chan.retryTimer = s.chan.retryTimer
      ∧ (s.closingCheck).chan.greenExpired = s.chan.greenExpired
      ∧ (s.closingCheck).chan.ignoredCalls = s.chan.ignoredCalls
      ∧ (s.closingCheck).chan.badDirections = s.chan.badDirections
      ∧ (s.closingCheck).chan.unexpectedPassages = s.chan.unexpectedPassages := by
  and_intros <;> (unfold State.closingCheck; split <;> simp)
/-- What `State.closingCheck` leaves unchanged of the Condition Evaluator. -/
@[simp] theorem State.closingCheck_cond (s : State) :
    (s.closingCheck).cond.table = s.cond.table
      ∧ (s.closingCheck).cond.counterChanges = s.cond.counterChanges := by
  and_intros <;> (unfold State.closingCheck; split <;> simp)
/-- What `State.closingCheck` leaves unchanged of the Point Image. -/
@[simp] theorem State.closingCheck_points (s : State) :
    (s.closingCheck).points.map = s.points.map ∧ (s.closingCheck).points.firstPair = s.points.firstPair
      ∧ (s.closingCheck).points.pairLoss = s.points.pairLoss := by
  and_intros <;> (unfold State.closingCheck; split <;> simp)
/-- What `State.closingCheck` leaves unchanged of the Duty Counter Unit. -/
@[simp] theorem State.closingCheck_duty (s : State) :
    (s.closingCheck).duty.residency = s.duty.residency ∧ (s.closingCheck).duty.occupancy = s.duty.occupancy
      ∧ (s.closingCheck).duty.standing = s.duty.standing ∧ (s.closingCheck).duty.phase = s.duty.phase
      ∧ (s.closingCheck).duty.frozen = s.duty.frozen ∧ (s.closingCheck).duty.bands = s.duty.bands
      ∧ (s.closingCheck).duty.counters = s.duty.counters := by
  and_intros <;> (unfold State.closingCheck; split <;> simp)

/-- The blocks `State.redResult` leaves unchanged. -/
@[simp] theorem State.redResult_frame (s : State) (d : Direction) (r : Result) :
    (s.redResult d r).power = s.power ∧ (s.redResult d r).now = s.now
      ∧ (s.redResult d r).pending = s.pending := by
  and_intros <;> (unfold State.redResult; dsimp only; (repeat' split) <;> simp [Channel.dropOwn, Channel.wantRed])
/-- What `State.redResult` leaves unchanged of the Console Port. -/
@[simp] theorem State.redResult_console (s : State) (d : Direction) (r : Result) :
    (s.redResult d r).console.ingress = s.console.ingress
      ∧ (s.redResult d r).console.arrivals = s.console.arrivals
      ∧ (s.redResult d r).console.restart = s.console.restart
      ∧ (s.redResult d r).console.receiver = s.console.receiver
      ∧ (s.redResult d r).console.line = s.console.line
      ∧ (s.redResult d r).console.counts = s.console.counts
      ∧ (s.redResult d r).console.sending = s.console.sending
      ∧ (s.redResult d r).console.ingressOverflows = s.console.ingressOverflows := by
  and_intros <;> (unfold State.redResult; dsimp only; (repeat' split) <;> simp [Channel.dropOwn, Channel.wantRed])
/-- What `State.redResult` leaves unchanged of the Order Gate. -/
@[simp] theorem State.redResult_gate (s : State) (d : Direction) (r : Result) :
    (s.redResult d r).gate.permits = s.gate.permits ∧ (s.redResult d r).gate.orders = s.gate.orders
      ∧ (s.redResult d r).gate.held = s.gate.held := by
  and_intros <;> (unfold State.redResult; dsimp only; (repeat' split) <;> simp [Channel.dropOwn, Channel.wantRed])
/-- What `State.redResult` leaves unchanged of the Crossing Sequencer. -/
@[simp] theorem State.redResult_seq (s : State) (d : Direction) (r : Result) :
    (s.redResult d r).seq.table = s.seq.table ∧ (s.redResult d r).seq.phase = s.seq.phase
      ∧ (s.redResult d r).seq.serial = s.seq.serial ∧ (s.redResult d r).seq.tracking = s.seq.tracking
      ∧ (s.redResult d r).seq.interrupted = s.seq.interrupted
      ∧ (s.redResult d r).seq.request = s.seq.request ∧ (s.redResult d r).seq.recovery = s.seq.recovery
      ∧ (s.redResult d r).seq.dwell = s.seq.dwell ∧ (s.redResult d r).seq.limit = s.seq.limit := by
  and_intros <;> (unfold State.redResult; dsimp only; (repeat' split) <;> simp [Channel.dropOwn, Channel.wantRed])
/-- What `State.redResult` leaves unchanged of the Channel Controller. -/
@[simp] theorem State.redResult_chan (s : State) (d : Direction) (r : Result) :
    (s.redResult d r).chan.record = s.chan.record ∧ (s.redResult d r).chan.vessels = s.chan.vessels
      ∧ (s.redResult d r).chan.closing = s.chan.closing
      ∧ (s.redResult d r).chan.phaseSeen = s.chan.phaseSeen
      ∧ (s.redResult d r).chan.retryTimer = s.chan.retryTimer
      ∧ (s.redResult d r).chan.ignoredCalls = s.chan.ignoredCalls
      ∧ (s.redResult d r).chan.badDirections = s.chan.badDirections
      ∧ (s.redResult d r).chan.unexpectedPassages = s.chan.unexpectedPassages := by
  and_intros <;> (unfold State.redResult; dsimp only; (repeat' split) <;> simp [Channel.dropOwn, Channel.wantRed])
/-- What `State.redResult` leaves unchanged of the Condition Evaluator. -/
@[simp] theorem State.redResult_cond (s : State) (d : Direction) (r : Result) :
    (s.redResult d r).cond.table = s.cond.table := by
  unfold State.redResult; dsimp only; (repeat' split) <;> simp [Channel.dropOwn, Channel.wantRed]
/-- What `State.redResult` leaves unchanged of the Field Engine. -/
@[simp] theorem State.redResult_field (s : State) (d : Direction) (r : Result) :
    (s.redResult d r).field.scanList = s.field.scanList ∧ (s.redResult d r).field.tx = s.field.tx
      ∧ (s.redResult d r).field.link = s.field.link ∧ (s.redResult d r).field.nodes = s.field.nodes
      ∧ (s.redResult d r).field.counts = s.field.counts
      ∧ (s.redResult d r).field.receiver = s.field.receiver ∧ (s.redResult d r).field.line = s.field.line
      ∧ (s.redResult d r).field.arrivals = s.field.arrivals
      ∧ (s.redResult d r).field.contention = s.field.contention
      ∧ (s.redResult d r).field.credit = s.field.credit
      ∧ (s.redResult d r).field.scanMode = s.field.scanMode ∧ (s.redResult d r).field.echo = s.field.echo
      ∧ (s.redResult d r).field.nextTag = s.field.nextTag ∧ (s.redResult d r).field.trimA = s.field.trimA
      ∧ (s.redResult d r).field.trimB = s.field.trimB ∧ (s.redResult d r).field.stopA = s.field.stopA
      ∧ (s.redResult d r).field.stopB = s.field.stopB ∧ (s.redResult d r).field.pointer = s.field.pointer
      ∧ (s.redResult d r).field.cycle = s.field.cycle ∧ (s.redResult d r).field.sweep = s.field.sweep
      ∧ (s.redResult d r).field.replyTimeout = s.field.replyTimeout
      ∧ (s.redResult d r).field.silentLimit = s.field.silentLimit := by
  and_intros <;> (unfold State.redResult; dsimp only; (repeat' split) <;> simp [Channel.dropOwn, Channel.wantRed])
/-- What `State.redResult` leaves unchanged of the Span Supervisor. -/
@[simp] theorem State.redResult_span (s : State) (d : Direction) (r : Result) :
    (s.redResult d r).span.record = s.span.record ∧ (s.redResult d r).span.correction = s.span.correction
      ∧ (s.redResult d r).span.level = s.span.level ∧ (s.redResult d r).span.lastSkew = s.span.lastSkew
      ∧ (s.redResult d r).span.lastHold = s.span.lastHold
      ∧ (s.redResult d r).span.holdRunning = s.span.holdRunning
      ∧ (s.redResult d r).span.previous = s.span.previous
      ∧ (s.redResult d r).span.lastTrim = s.span.lastTrim
      ∧ (s.redResult d r).span.levelChanges = s.span.levelChanges := by
  and_intros <;> (unfold State.redResult; dsimp only; (repeat' split) <;> simp [Channel.dropOwn, Channel.wantRed])
/-- What `State.redResult` leaves unchanged of the mode and the chain. -/
@[simp] theorem State.redResult_unit (s : State) (d : Direction) (r : Result) :
    (s.redResult d r).unit.mode = s.unit.mode ∧ (s.redResult d r).unit.limits = s.unit.limits
      ∧ (s.redResult d r).unit.estop = s.unit.estop ∧ (s.redResult d r).unit.key = s.unit.key
      ∧ (s.redResult d r).unit.locked = s.unit.locked
      ∧ (s.redResult d r).unit.validation = s.unit.validation
      ∧ (s.redResult d r).unit.maintenancePending = s.unit.maintenancePending := by
  and_intros <;> (unfold State.redResult; dsimp only; (repeat' split) <;> simp [Channel.dropOwn, Channel.wantRed])
/-- What `State.redResult` leaves unchanged of the Point Image. -/
@[simp] theorem State.redResult_points (s : State) (d : Direction) (r : Result) :
    (s.redResult d r).points.map = s.points.map ∧ (s.redResult d r).points.firstPair = s.points.firstPair
      ∧ (s.redResult d r).points.pairLoss = s.points.pairLoss := by
  and_intros <;> (unfold State.redResult; dsimp only; (repeat' split) <;> simp [Channel.dropOwn, Channel.wantRed])

/-- The blocks `State.greenRetry` leaves unchanged. -/
@[simp] theorem State.greenRetry_frame (s : State) :
    (s.greenRetry).power = s.power ∧ (s.greenRetry).now = s.now ∧ (s.greenRetry).pending = s.pending
      ∧ (s.greenRetry).field = s.field ∧ (s.greenRetry).span = s.span ∧ (s.greenRetry).unit = s.unit := by
  and_intros <;> (unfold State.greenRetry; dsimp only; (repeat' split) <;> simp)
/-- What `State.greenRetry` leaves unchanged of the Console Port. -/
@[simp] theorem State.greenRetry_console (s : State) :
    (s.greenRetry).console.ingress = s.console.ingress
      ∧ (s.greenRetry).console.arrivals = s.console.arrivals
      ∧ (s.greenRetry).console.restart = s.console.restart
      ∧ (s.greenRetry).console.receiver = s.console.receiver ∧ (s.greenRetry).console.line = s.console.line
      ∧ (s.greenRetry).console.counts = s.console.counts
      ∧ (s.greenRetry).console.sending = s.console.sending
      ∧ (s.greenRetry).console.ingressOverflows = s.console.ingressOverflows := by
  and_intros <;> (unfold State.greenRetry; dsimp only; (repeat' split) <;> simp)
/-- What `State.greenRetry` leaves unchanged of the Order Gate. -/
@[simp] theorem State.greenRetry_gate (s : State) :
    (s.greenRetry).gate.permits = s.gate.permits ∧ (s.greenRetry).gate.orders = s.gate.orders
      ∧ (s.greenRetry).gate.held = s.gate.held ∧ (s.greenRetry).gate.own = s.gate.own
      ∧ (s.greenRetry).gate.standdowns = s.gate.standdowns := by
  and_intros <;> (unfold State.greenRetry; dsimp only; (repeat' split) <;> simp)
/-- What `State.greenRetry` leaves unchanged of the Crossing Sequencer. -/
@[simp] theorem State.greenRetry_seq (s : State) :
    (s.greenRetry).seq.table = s.seq.table ∧ (s.greenRetry).seq.phase = s.seq.phase
      ∧ (s.greenRetry).seq.standdowns = s.seq.standdowns ∧ (s.greenRetry).seq.serial = s.seq.serial
      ∧ (s.greenRetry).seq.tracking = s.seq.tracking ∧ (s.greenRetry).seq.interrupted = s.seq.interrupted
      ∧ (s.greenRetry).seq.request = s.seq.request ∧ (s.greenRetry).seq.recovery = s.seq.recovery
      ∧ (s.greenRetry).seq.dwell = s.seq.dwell ∧ (s.greenRetry).seq.limit = s.seq.limit := by
  and_intros <;> (unfold State.greenRetry; dsimp only; (repeat' split) <;> simp)
/-- What `State.greenRetry` leaves unchanged of the Channel Controller. -/
@[simp] theorem State.greenRetry_chan (s : State) :
    (s.greenRetry).chan.record = s.chan.record ∧ (s.greenRetry).chan.vessels = s.chan.vessels
      ∧ (s.greenRetry).chan.north = s.chan.north ∧ (s.greenRetry).chan.south = s.chan.south
      ∧ (s.greenRetry).chan.closing = s.chan.closing ∧ (s.greenRetry).chan.phaseSeen = s.chan.phaseSeen
      ∧ (s.greenRetry).chan.standdowns = s.chan.standdowns
      ∧ (s.greenRetry).chan.changeoverPending = s.chan.changeoverPending
      ∧ (s.greenRetry).chan.greenTimer = s.chan.greenTimer
      ∧ (s.greenRetry).chan.changeoverTimer = s.chan.changeoverTimer
      ∧ (s.greenRetry).chan.greenExpired = s.chan.greenExpired
      ∧ (s.greenRetry).chan.ignoredCalls = s.chan.ignoredCalls
      ∧ (s.greenRetry).chan.badDirections = s.chan.badDirections
      ∧ (s.greenRetry).chan.unexpectedPassages = s.chan.unexpectedPassages := by
  and_intros <;> (unfold State.greenRetry; dsimp only; (repeat' split) <;> simp)
/-- What `State.greenRetry` leaves unchanged of the Condition Evaluator. -/
@[simp] theorem State.greenRetry_cond (s : State) :
    (s.greenRetry).cond.table = s.cond.table ∧ (s.greenRetry).cond.counterChanges = s.cond.counterChanges := by
  and_intros <;> (unfold State.greenRetry; dsimp only; (repeat' split) <;> simp)
/-- What `State.greenRetry` leaves unchanged of the Point Image. -/
@[simp] theorem State.greenRetry_points (s : State) :
    (s.greenRetry).points.map = s.points.map ∧ (s.greenRetry).points.firstPair = s.points.firstPair
      ∧ (s.greenRetry).points.pairLoss = s.points.pairLoss := by
  and_intros <;> (unfold State.greenRetry; dsimp only; (repeat' split) <;> simp)
/-- What `State.greenRetry` leaves unchanged of the Duty Counter Unit. -/
@[simp] theorem State.greenRetry_duty (s : State) :
    (s.greenRetry).duty.residency = s.duty.residency ∧ (s.greenRetry).duty.occupancy = s.duty.occupancy
      ∧ (s.greenRetry).duty.standing = s.duty.standing ∧ (s.greenRetry).duty.phase = s.duty.phase
      ∧ (s.greenRetry).duty.frozen = s.duty.frozen ∧ (s.greenRetry).duty.bands = s.duty.bands
      ∧ (s.greenRetry).duty.counters = s.duty.counters := by
  and_intros <;> (unfold State.greenRetry; dsimp only; (repeat' split) <;> simp)

/-- The blocks `State.greenFailed` leaves unchanged. -/
@[simp] theorem State.greenFailed_frame (s : State) (d : Direction) (r : Result) :
    (s.greenFailed d r).power = s.power ∧ (s.greenFailed d r).now = s.now
      ∧ (s.greenFailed d r).pending = s.pending := by
  and_intros <;> (unfold State.greenFailed; dsimp only; (repeat' split) <;> simp [Channel.wantRed])
/-- What `State.greenFailed` leaves unchanged of the Console Port. -/
@[simp] theorem State.greenFailed_console (s : State) (d : Direction) (r : Result) :
    (s.greenFailed d r).console.ingress = s.console.ingress
      ∧ (s.greenFailed d r).console.arrivals = s.console.arrivals
      ∧ (s.greenFailed d r).console.restart = s.console.restart
      ∧ (s.greenFailed d r).console.receiver = s.console.receiver
      ∧ (s.greenFailed d r).console.line = s.console.line
      ∧ (s.greenFailed d r).console.counts = s.console.counts
      ∧ (s.greenFailed d r).console.sending = s.console.sending
      ∧ (s.greenFailed d r).console.ingressOverflows = s.console.ingressOverflows := by
  and_intros <;> (unfold State.greenFailed; dsimp only; (repeat' split) <;> simp [Channel.wantRed])
/-- What `State.greenFailed` leaves unchanged of the Order Gate. -/
@[simp] theorem State.greenFailed_gate (s : State) (d : Direction) (r : Result) :
    (s.greenFailed d r).gate.permits = s.gate.permits ∧ (s.greenFailed d r).gate.orders = s.gate.orders
      ∧ (s.greenFailed d r).gate.held = s.gate.held := by
  and_intros <;> (unfold State.greenFailed; dsimp only; (repeat' split) <;> simp [Channel.wantRed])
/-- What `State.greenFailed` leaves unchanged of the Crossing Sequencer. -/
@[simp] theorem State.greenFailed_seq (s : State) (d : Direction) (r : Result) :
    (s.greenFailed d r).seq.table = s.seq.table ∧ (s.greenFailed d r).seq.phase = s.seq.phase
      ∧ (s.greenFailed d r).seq.serial = s.seq.serial ∧ (s.greenFailed d r).seq.tracking = s.seq.tracking
      ∧ (s.greenFailed d r).seq.interrupted = s.seq.interrupted
      ∧ (s.greenFailed d r).seq.request = s.seq.request ∧ (s.greenFailed d r).seq.recovery = s.seq.recovery
      ∧ (s.greenFailed d r).seq.dwell = s.seq.dwell ∧ (s.greenFailed d r).seq.limit = s.seq.limit := by
  and_intros <;> (unfold State.greenFailed; dsimp only; (repeat' split) <;> simp [Channel.wantRed])
/-- What `State.greenFailed` leaves unchanged of the Channel Controller. -/
@[simp] theorem State.greenFailed_chan (s : State) (d : Direction) (r : Result) :
    (s.greenFailed d r).chan.record = s.chan.record ∧ (s.greenFailed d r).chan.vessels = s.chan.vessels
      ∧ (s.greenFailed d r).chan.closing = s.chan.closing
      ∧ (s.greenFailed d r).chan.phaseSeen = s.chan.phaseSeen
      ∧ (s.greenFailed d r).chan.changeoverPending = s.chan.changeoverPending
      ∧ (s.greenFailed d r).chan.greenTimer = s.chan.greenTimer
      ∧ (s.greenFailed d r).chan.changeoverTimer = s.chan.changeoverTimer
      ∧ (s.greenFailed d r).chan.greenExpired = s.chan.greenExpired
      ∧ (s.greenFailed d r).chan.ignoredCalls = s.chan.ignoredCalls
      ∧ (s.greenFailed d r).chan.badDirections = s.chan.badDirections
      ∧ (s.greenFailed d r).chan.unexpectedPassages = s.chan.unexpectedPassages := by
  and_intros <;> (unfold State.greenFailed; dsimp only; (repeat' split) <;> simp [Channel.wantRed])
/-- What `State.greenFailed` leaves unchanged of the Condition Evaluator. -/
@[simp] theorem State.greenFailed_cond (s : State) (d : Direction) (r : Result) :
    (s.greenFailed d r).cond.table = s.cond.table := by
  unfold State.greenFailed; dsimp only; (repeat' split) <;> simp [Channel.wantRed]
/-- What `State.greenFailed` leaves unchanged of the Field Engine. -/
@[simp] theorem State.greenFailed_field (s : State) (d : Direction) (r : Result) :
    (s.greenFailed d r).field.scanList = s.field.scanList ∧ (s.greenFailed d r).field.tx = s.field.tx
      ∧ (s.greenFailed d r).field.link = s.field.link ∧ (s.greenFailed d r).field.nodes = s.field.nodes
      ∧ (s.greenFailed d r).field.counts = s.field.counts
      ∧ (s.greenFailed d r).field.receiver = s.field.receiver
      ∧ (s.greenFailed d r).field.line = s.field.line
      ∧ (s.greenFailed d r).field.arrivals = s.field.arrivals
      ∧ (s.greenFailed d r).field.contention = s.field.contention
      ∧ (s.greenFailed d r).field.credit = s.field.credit
      ∧ (s.greenFailed d r).field.scanMode = s.field.scanMode
      ∧ (s.greenFailed d r).field.echo = s.field.echo ∧ (s.greenFailed d r).field.nextTag = s.field.nextTag
      ∧ (s.greenFailed d r).field.trimA = s.field.trimA ∧ (s.greenFailed d r).field.trimB = s.field.trimB
      ∧ (s.greenFailed d r).field.stopA = s.field.stopA ∧ (s.greenFailed d r).field.stopB = s.field.stopB
      ∧ (s.greenFailed d r).field.pointer = s.field.pointer
      ∧ (s.greenFailed d r).field.cycle = s.field.cycle ∧ (s.greenFailed d r).field.sweep = s.field.sweep
      ∧ (s.greenFailed d r).field.replyTimeout = s.field.replyTimeout
      ∧ (s.greenFailed d r).field.silentLimit = s.field.silentLimit := by
  and_intros <;> (unfold State.greenFailed; dsimp only; (repeat' split) <;> simp [Channel.wantRed])
/-- What `State.greenFailed` leaves unchanged of the Span Supervisor. -/
@[simp] theorem State.greenFailed_span (s : State) (d : Direction) (r : Result) :
    (s.greenFailed d r).span.record = s.span.record
      ∧ (s.greenFailed d r).span.correction = s.span.correction
      ∧ (s.greenFailed d r).span.level = s.span.level ∧ (s.greenFailed d r).span.lastSkew = s.span.lastSkew
      ∧ (s.greenFailed d r).span.lastHold = s.span.lastHold
      ∧ (s.greenFailed d r).span.holdRunning = s.span.holdRunning
      ∧ (s.greenFailed d r).span.previous = s.span.previous
      ∧ (s.greenFailed d r).span.lastTrim = s.span.lastTrim
      ∧ (s.greenFailed d r).span.levelChanges = s.span.levelChanges := by
  and_intros <;> (unfold State.greenFailed; dsimp only; (repeat' split) <;> simp [Channel.wantRed])
/-- What `State.greenFailed` leaves unchanged of the mode and the chain. -/
@[simp] theorem State.greenFailed_unit (s : State) (d : Direction) (r : Result) :
    (s.greenFailed d r).unit.mode = s.unit.mode ∧ (s.greenFailed d r).unit.limits = s.unit.limits
      ∧ (s.greenFailed d r).unit.estop = s.unit.estop ∧ (s.greenFailed d r).unit.key = s.unit.key
      ∧ (s.greenFailed d r).unit.locked = s.unit.locked
      ∧ (s.greenFailed d r).unit.validation = s.unit.validation
      ∧ (s.greenFailed d r).unit.maintenancePending = s.unit.maintenancePending := by
  and_intros <;> (unfold State.greenFailed; dsimp only; (repeat' split) <;> simp [Channel.wantRed])
/-- What `State.greenFailed` leaves unchanged of the Point Image. -/
@[simp] theorem State.greenFailed_points (s : State) (d : Direction) (r : Result) :
    (s.greenFailed d r).points.map = s.points.map
      ∧ (s.greenFailed d r).points.firstPair = s.points.firstPair
      ∧ (s.greenFailed d r).points.pairLoss = s.points.pairLoss := by
  and_intros <;> (unfold State.greenFailed; dsimp only; (repeat' split) <;> simp [Channel.wantRed])

/-- The blocks `State.offerGreen` leaves unchanged. -/
@[simp] theorem State.offerGreen_frame (s : State) (d : Direction) :
    (s.offerGreen d).power = s.power ∧ (s.offerGreen d).now = s.now ∧ (s.offerGreen d).pending = s.pending := by
  and_intros <;> (rw [State.offerGreen_eq]; split <;> simp)
/-- What `State.offerGreen` leaves unchanged of the Console Port. -/
@[simp] theorem State.offerGreen_console (s : State) (d : Direction) :
    (s.offerGreen d).console.ingress = s.console.ingress
      ∧ (s.offerGreen d).console.arrivals = s.console.arrivals
      ∧ (s.offerGreen d).console.restart = s.console.restart
      ∧ (s.offerGreen d).console.receiver = s.console.receiver
      ∧ (s.offerGreen d).console.line = s.console.line ∧ (s.offerGreen d).console.counts = s.console.counts
      ∧ (s.offerGreen d).console.sending = s.console.sending
      ∧ (s.offerGreen d).console.ingressOverflows = s.console.ingressOverflows := by
  and_intros <;> (rw [State.offerGreen_eq]; split <;> simp)
/-- What `State.offerGreen` leaves unchanged of the Order Gate. -/
@[simp] theorem State.offerGreen_gate (s : State) (d : Direction) :
    (s.offerGreen d).gate.permits = s.gate.permits ∧ (s.offerGreen d).gate.orders = s.gate.orders
      ∧ (s.offerGreen d).gate.held = s.gate.held := by
  and_intros <;> (rw [State.offerGreen_eq]; split <;> simp)
/-- What `State.offerGreen` leaves unchanged of the Crossing Sequencer. -/
@[simp] theorem State.offerGreen_seq (s : State) (d : Direction) :
    (s.offerGreen d).seq.table = s.seq.table ∧ (s.offerGreen d).seq.phase = s.seq.phase
      ∧ (s.offerGreen d).seq.serial = s.seq.serial ∧ (s.offerGreen d).seq.tracking = s.seq.tracking
      ∧ (s.offerGreen d).seq.interrupted = s.seq.interrupted ∧ (s.offerGreen d).seq.request = s.seq.request
      ∧ (s.offerGreen d).seq.recovery = s.seq.recovery ∧ (s.offerGreen d).seq.dwell = s.seq.dwell
      ∧ (s.offerGreen d).seq.limit = s.seq.limit := by
  and_intros <;> (rw [State.offerGreen_eq]; split <;> simp)
/-- What `State.offerGreen` leaves unchanged of the Channel Controller. -/
@[simp] theorem State.offerGreen_chan (s : State) (d : Direction) :
    (s.offerGreen d).chan.record = s.chan.record ∧ (s.offerGreen d).chan.vessels = s.chan.vessels
      ∧ (s.offerGreen d).chan.closing = s.chan.closing ∧ (s.offerGreen d).chan.phaseSeen = s.chan.phaseSeen
      ∧ (s.offerGreen d).chan.changeoverPending = s.chan.changeoverPending
      ∧ (s.offerGreen d).chan.greenTimer = s.chan.greenTimer
      ∧ (s.offerGreen d).chan.changeoverTimer = s.chan.changeoverTimer
      ∧ (s.offerGreen d).chan.greenExpired = s.chan.greenExpired
      ∧ (s.offerGreen d).chan.ignoredCalls = s.chan.ignoredCalls
      ∧ (s.offerGreen d).chan.badDirections = s.chan.badDirections
      ∧ (s.offerGreen d).chan.unexpectedPassages = s.chan.unexpectedPassages := by
  and_intros <;> (rw [State.offerGreen_eq]; split <;> simp)
/-- What `State.offerGreen` leaves unchanged of the Condition Evaluator. -/
@[simp] theorem State.offerGreen_cond (s : State) (d : Direction) :
    (s.offerGreen d).cond.table = s.cond.table := by
  rw [State.offerGreen_eq]; split <;> simp
/-- What `State.offerGreen` leaves unchanged of the Field Engine. -/
@[simp] theorem State.offerGreen_field (s : State) (d : Direction) :
    (s.offerGreen d).field.scanList = s.field.scanList ∧ (s.offerGreen d).field.tx = s.field.tx
      ∧ (s.offerGreen d).field.link = s.field.link ∧ (s.offerGreen d).field.nodes = s.field.nodes
      ∧ (s.offerGreen d).field.counts = s.field.counts ∧ (s.offerGreen d).field.receiver = s.field.receiver
      ∧ (s.offerGreen d).field.line = s.field.line ∧ (s.offerGreen d).field.arrivals = s.field.arrivals
      ∧ (s.offerGreen d).field.contention = s.field.contention
      ∧ (s.offerGreen d).field.credit = s.field.credit ∧ (s.offerGreen d).field.scanMode = s.field.scanMode
      ∧ (s.offerGreen d).field.echo = s.field.echo ∧ (s.offerGreen d).field.nextTag = s.field.nextTag
      ∧ (s.offerGreen d).field.trimA = s.field.trimA ∧ (s.offerGreen d).field.trimB = s.field.trimB
      ∧ (s.offerGreen d).field.stopA = s.field.stopA ∧ (s.offerGreen d).field.stopB = s.field.stopB
      ∧ (s.offerGreen d).field.pointer = s.field.pointer ∧ (s.offerGreen d).field.cycle = s.field.cycle
      ∧ (s.offerGreen d).field.sweep = s.field.sweep
      ∧ (s.offerGreen d).field.replyTimeout = s.field.replyTimeout
      ∧ (s.offerGreen d).field.silentLimit = s.field.silentLimit := by
  and_intros <;> (rw [State.offerGreen_eq]; split <;> simp)
/-- What `State.offerGreen` leaves unchanged of the Span Supervisor. -/
@[simp] theorem State.offerGreen_span (s : State) (d : Direction) :
    (s.offerGreen d).span.record = s.span.record ∧ (s.offerGreen d).span.correction = s.span.correction
      ∧ (s.offerGreen d).span.level = s.span.level ∧ (s.offerGreen d).span.lastSkew = s.span.lastSkew
      ∧ (s.offerGreen d).span.lastHold = s.span.lastHold
      ∧ (s.offerGreen d).span.holdRunning = s.span.holdRunning
      ∧ (s.offerGreen d).span.previous = s.span.previous ∧ (s.offerGreen d).span.lastTrim = s.span.lastTrim
      ∧ (s.offerGreen d).span.levelChanges = s.span.levelChanges := by
  and_intros <;> (rw [State.offerGreen_eq]; split <;> simp)
/-- What `State.offerGreen` leaves unchanged of the mode and the chain. -/
@[simp] theorem State.offerGreen_unit (s : State) (d : Direction) :
    (s.offerGreen d).unit.mode = s.unit.mode ∧ (s.offerGreen d).unit.limits = s.unit.limits
      ∧ (s.offerGreen d).unit.estop = s.unit.estop ∧ (s.offerGreen d).unit.key = s.unit.key
      ∧ (s.offerGreen d).unit.locked = s.unit.locked ∧ (s.offerGreen d).unit.validation = s.unit.validation
      ∧ (s.offerGreen d).unit.maintenancePending = s.unit.maintenancePending := by
  and_intros <;> (rw [State.offerGreen_eq]; split <;> simp)
/-- What `State.offerGreen` leaves unchanged of the Point Image. -/
@[simp] theorem State.offerGreen_points (s : State) (d : Direction) :
    (s.offerGreen d).points.map = s.points.map ∧ (s.offerGreen d).points.firstPair = s.points.firstPair
      ∧ (s.offerGreen d).points.pairLoss = s.points.pairLoss := by
  and_intros <;> (rw [State.offerGreen_eq]; split <;> simp)

/-- The blocks `State.openTo` leaves unchanged. -/
@[simp] theorem State.openTo_frame (s : State) (d : Direction) :
    (s.openTo d).power = s.power ∧ (s.openTo d).now = s.now ∧ (s.openTo d).pending = s.pending
      ∧ (s.openTo d).field = s.field ∧ (s.openTo d).span = s.span ∧ (s.openTo d).unit = s.unit := by
  and_intros <;> (unfold State.openTo; dsimp only; split <;> simp)
/-- What `State.openTo` leaves unchanged of the Console Port. -/
@[simp] theorem State.openTo_console (s : State) (d : Direction) :
    (s.openTo d).console.ingress = s.console.ingress ∧ (s.openTo d).console.arrivals = s.console.arrivals
      ∧ (s.openTo d).console.restart = s.console.restart
      ∧ (s.openTo d).console.receiver = s.console.receiver ∧ (s.openTo d).console.line = s.console.line
      ∧ (s.openTo d).console.counts = s.console.counts ∧ (s.openTo d).console.sending = s.console.sending
      ∧ (s.openTo d).console.ingressOverflows = s.console.ingressOverflows := by
  and_intros <;> (unfold State.openTo; dsimp only; split <;> simp)
/-- What `State.openTo` leaves unchanged of the Order Gate. -/
@[simp] theorem State.openTo_gate (s : State) (d : Direction) :
    (s.openTo d).gate.permits = s.gate.permits ∧ (s.openTo d).gate.orders = s.gate.orders
      ∧ (s.openTo d).gate.held = s.gate.held ∧ (s.openTo d).gate.own = s.gate.own
      ∧ (s.openTo d).gate.standdowns = s.gate.standdowns := by
  and_intros <;> (unfold State.openTo; dsimp only; split <;> simp)
/-- What `State.openTo` leaves unchanged of the Crossing Sequencer. -/
@[simp] theorem State.openTo_seq (s : State) (d : Direction) :
    (s.openTo d).seq.table = s.seq.table ∧ (s.openTo d).seq.phase = s.seq.phase
      ∧ (s.openTo d).seq.standdowns = s.seq.standdowns ∧ (s.openTo d).seq.serial = s.seq.serial
      ∧ (s.openTo d).seq.tracking = s.seq.tracking ∧ (s.openTo d).seq.interrupted = s.seq.interrupted
      ∧ (s.openTo d).seq.request = s.seq.request ∧ (s.openTo d).seq.recovery = s.seq.recovery
      ∧ (s.openTo d).seq.dwell = s.seq.dwell ∧ (s.openTo d).seq.limit = s.seq.limit := by
  and_intros <;> (unfold State.openTo; dsimp only; split <;> simp)
/-- What `State.openTo` leaves unchanged of the Channel Controller. -/
@[simp] theorem State.openTo_chan (s : State) (d : Direction) :
    (s.openTo d).chan.record = s.chan.record ∧ (s.openTo d).chan.north = s.chan.north
      ∧ (s.openTo d).chan.south = s.chan.south ∧ (s.openTo d).chan.closing = s.chan.closing
      ∧ (s.openTo d).chan.phaseSeen = s.chan.phaseSeen ∧ (s.openTo d).chan.standdowns = s.chan.standdowns
      ∧ (s.openTo d).chan.changeoverPending = s.chan.changeoverPending
      ∧ (s.openTo d).chan.retryTimer = s.chan.retryTimer
      ∧ (s.openTo d).chan.ignoredCalls = s.chan.ignoredCalls
      ∧ (s.openTo d).chan.badDirections = s.chan.badDirections
      ∧ (s.openTo d).chan.unexpectedPassages = s.chan.unexpectedPassages := by
  and_intros <;> (unfold State.openTo; dsimp only; split <;> simp)
/-- What `State.openTo` leaves unchanged of the Condition Evaluator. -/
@[simp] theorem State.openTo_cond (s : State) (d : Direction) :
    (s.openTo d).cond.table = s.cond.table ∧ (s.openTo d).cond.counterChanges = s.cond.counterChanges := by
  and_intros <;> (unfold State.openTo; dsimp only; split <;> simp)
/-- What `State.openTo` leaves unchanged of the Point Image. -/
@[simp] theorem State.openTo_points (s : State) (d : Direction) :
    (s.openTo d).points.map = s.points.map ∧ (s.openTo d).points.firstPair = s.points.firstPair
      ∧ (s.openTo d).points.pairLoss = s.points.pairLoss := by
  and_intros <;> (unfold State.openTo; dsimp only; split <;> simp)
/-- What `State.openTo` leaves unchanged of the Duty Counter Unit. -/
@[simp] theorem State.openTo_duty (s : State) (d : Direction) :
    (s.openTo d).duty.residency = s.duty.residency ∧ (s.openTo d).duty.occupancy = s.duty.occupancy
      ∧ (s.openTo d).duty.standing = s.duty.standing ∧ (s.openTo d).duty.phase = s.duty.phase
      ∧ (s.openTo d).duty.frozen = s.duty.frozen ∧ (s.openTo d).duty.bands = s.duty.bands
      ∧ (s.openTo d).duty.counters = s.duty.counters := by
  and_intros <;> (unfold State.openTo; dsimp only; split <;> simp)

/-- The blocks `State.greenResult` leaves unchanged. -/
@[simp] theorem State.greenResult_frame (s : State) (d : Direction) (r : Result) :
    (s.greenResult d r).power = s.power ∧ (s.greenResult d r).now = s.now
      ∧ (s.greenResult d r).pending = s.pending := by
  and_intros <;> (unfold State.greenResult; dsimp only; (repeat' split) <;> simp [Channel.dropOwn])
/-- What `State.greenResult` leaves unchanged of the Console Port. -/
@[simp] theorem State.greenResult_console (s : State) (d : Direction) (r : Result) :
    (s.greenResult d r).console.ingress = s.console.ingress
      ∧ (s.greenResult d r).console.arrivals = s.console.arrivals
      ∧ (s.greenResult d r).console.restart = s.console.restart
      ∧ (s.greenResult d r).console.receiver = s.console.receiver
      ∧ (s.greenResult d r).console.line = s.console.line
      ∧ (s.greenResult d r).console.counts = s.console.counts
      ∧ (s.greenResult d r).console.sending = s.console.sending
      ∧ (s.greenResult d r).console.ingressOverflows = s.console.ingressOverflows := by
  and_intros <;> (unfold State.greenResult; dsimp only; (repeat' split) <;> simp [Channel.dropOwn])
/-- What `State.greenResult` leaves unchanged of the Order Gate. -/
@[simp] theorem State.greenResult_gate (s : State) (d : Direction) (r : Result) :
    (s.greenResult d r).gate.permits = s.gate.permits ∧ (s.greenResult d r).gate.orders = s.gate.orders
      ∧ (s.greenResult d r).gate.held = s.gate.held := by
  and_intros <;> (unfold State.greenResult; dsimp only; (repeat' split) <;> simp [Channel.dropOwn])
/-- What `State.greenResult` leaves unchanged of the Crossing Sequencer. -/
@[simp] theorem State.greenResult_seq (s : State) (d : Direction) (r : Result) :
    (s.greenResult d r).seq.table = s.seq.table ∧ (s.greenResult d r).seq.phase = s.seq.phase
      ∧ (s.greenResult d r).seq.serial = s.seq.serial ∧ (s.greenResult d r).seq.tracking = s.seq.tracking
      ∧ (s.greenResult d r).seq.interrupted = s.seq.interrupted
      ∧ (s.greenResult d r).seq.request = s.seq.request ∧ (s.greenResult d r).seq.recovery = s.seq.recovery
      ∧ (s.greenResult d r).seq.dwell = s.seq.dwell ∧ (s.greenResult d r).seq.limit = s.seq.limit := by
  and_intros <;> (unfold State.greenResult; dsimp only; (repeat' split) <;> simp [Channel.dropOwn])
/-- What `State.greenResult` leaves unchanged of the Channel Controller. -/
@[simp] theorem State.greenResult_chan (s : State) (d : Direction) (r : Result) :
    (s.greenResult d r).chan.record = s.chan.record ∧ (s.greenResult d r).chan.closing = s.chan.closing
      ∧ (s.greenResult d r).chan.phaseSeen = s.chan.phaseSeen
      ∧ (s.greenResult d r).chan.changeoverPending = s.chan.changeoverPending
      ∧ (s.greenResult d r).chan.ignoredCalls = s.chan.ignoredCalls
      ∧ (s.greenResult d r).chan.badDirections = s.chan.badDirections
      ∧ (s.greenResult d r).chan.unexpectedPassages = s.chan.unexpectedPassages := by
  and_intros <;> (unfold State.greenResult; dsimp only; (repeat' split) <;> simp [Channel.dropOwn])
/-- What `State.greenResult` leaves unchanged of the Condition Evaluator. -/
@[simp] theorem State.greenResult_cond (s : State) (d : Direction) (r : Result) :
    (s.greenResult d r).cond.table = s.cond.table := by
  unfold State.greenResult; dsimp only; (repeat' split) <;> simp [Channel.dropOwn]
/-- What `State.greenResult` leaves unchanged of the Field Engine. -/
@[simp] theorem State.greenResult_field (s : State) (d : Direction) (r : Result) :
    (s.greenResult d r).field.scanList = s.field.scanList ∧ (s.greenResult d r).field.tx = s.field.tx
      ∧ (s.greenResult d r).field.link = s.field.link ∧ (s.greenResult d r).field.nodes = s.field.nodes
      ∧ (s.greenResult d r).field.counts = s.field.counts
      ∧ (s.greenResult d r).field.receiver = s.field.receiver
      ∧ (s.greenResult d r).field.line = s.field.line
      ∧ (s.greenResult d r).field.arrivals = s.field.arrivals
      ∧ (s.greenResult d r).field.contention = s.field.contention
      ∧ (s.greenResult d r).field.credit = s.field.credit
      ∧ (s.greenResult d r).field.scanMode = s.field.scanMode
      ∧ (s.greenResult d r).field.echo = s.field.echo ∧ (s.greenResult d r).field.nextTag = s.field.nextTag
      ∧ (s.greenResult d r).field.trimA = s.field.trimA ∧ (s.greenResult d r).field.trimB = s.field.trimB
      ∧ (s.greenResult d r).field.stopA = s.field.stopA ∧ (s.greenResult d r).field.stopB = s.field.stopB
      ∧ (s.greenResult d r).field.pointer = s.field.pointer
      ∧ (s.greenResult d r).field.cycle = s.field.cycle ∧ (s.greenResult d r).field.sweep = s.field.sweep
      ∧ (s.greenResult d r).field.replyTimeout = s.field.replyTimeout
      ∧ (s.greenResult d r).field.silentLimit = s.field.silentLimit := by
  and_intros <;> (unfold State.greenResult; dsimp only; (repeat' split) <;> simp [Channel.dropOwn])
/-- What `State.greenResult` leaves unchanged of the Span Supervisor. -/
@[simp] theorem State.greenResult_span (s : State) (d : Direction) (r : Result) :
    (s.greenResult d r).span.record = s.span.record
      ∧ (s.greenResult d r).span.correction = s.span.correction
      ∧ (s.greenResult d r).span.level = s.span.level ∧ (s.greenResult d r).span.lastSkew = s.span.lastSkew
      ∧ (s.greenResult d r).span.lastHold = s.span.lastHold
      ∧ (s.greenResult d r).span.holdRunning = s.span.holdRunning
      ∧ (s.greenResult d r).span.previous = s.span.previous
      ∧ (s.greenResult d r).span.lastTrim = s.span.lastTrim
      ∧ (s.greenResult d r).span.levelChanges = s.span.levelChanges := by
  and_intros <;> (unfold State.greenResult; dsimp only; (repeat' split) <;> simp [Channel.dropOwn])
/-- What `State.greenResult` leaves unchanged of the mode and the chain. -/
@[simp] theorem State.greenResult_unit (s : State) (d : Direction) (r : Result) :
    (s.greenResult d r).unit.mode = s.unit.mode ∧ (s.greenResult d r).unit.limits = s.unit.limits
      ∧ (s.greenResult d r).unit.estop = s.unit.estop ∧ (s.greenResult d r).unit.key = s.unit.key
      ∧ (s.greenResult d r).unit.locked = s.unit.locked
      ∧ (s.greenResult d r).unit.validation = s.unit.validation
      ∧ (s.greenResult d r).unit.maintenancePending = s.unit.maintenancePending := by
  and_intros <;> (unfold State.greenResult; dsimp only; (repeat' split) <;> simp [Channel.dropOwn])
/-- What `State.greenResult` leaves unchanged of the Point Image. -/
@[simp] theorem State.greenResult_points (s : State) (d : Direction) (r : Result) :
    (s.greenResult d r).points.map = s.points.map
      ∧ (s.greenResult d r).points.firstPair = s.points.firstPair
      ∧ (s.greenResult d r).points.pairLoss = s.points.pairLoss := by
  and_intros <;> (unfold State.greenResult; dsimp only; (repeat' split) <;> simp [Channel.dropOwn])

/-- The blocks `State.openingTest` leaves unchanged. -/
@[simp] theorem State.openingTest_frame (s : State) :
    (s.openingTest).power = s.power ∧ (s.openingTest).now = s.now ∧ (s.openingTest).pending = s.pending := by
  and_intros <;> (unfold State.openingTest; (repeat' split) <;> simp)
/-- What `State.openingTest` leaves unchanged of the Console Port. -/
@[simp] theorem State.openingTest_console (s : State) :
    (s.openingTest).console.ingress = s.console.ingress
      ∧ (s.openingTest).console.arrivals = s.console.arrivals
      ∧ (s.openingTest).console.restart = s.console.restart
      ∧ (s.openingTest).console.receiver = s.console.receiver
      ∧ (s.openingTest).console.line = s.console.line ∧ (s.openingTest).console.counts = s.console.counts
      ∧ (s.openingTest).console.sending = s.console.sending
      ∧ (s.openingTest).console.ingressOverflows = s.console.ingressOverflows := by
  and_intros <;> (unfold State.openingTest; (repeat' split) <;> simp)
/-- What `State.openingTest` leaves unchanged of the Order Gate. -/
@[simp] theorem State.openingTest_gate (s : State) :
    (s.openingTest).gate.permits = s.gate.permits ∧ (s.openingTest).gate.orders = s.gate.orders
      ∧ (s.openingTest).gate.held = s.gate.held := by
  and_intros <;> (unfold State.openingTest; (repeat' split) <;> simp)
/-- What `State.openingTest` leaves unchanged of the Crossing Sequencer. -/
@[simp] theorem State.openingTest_seq (s : State) :
    (s.openingTest).seq.table = s.seq.table ∧ (s.openingTest).seq.phase = s.seq.phase
      ∧ (s.openingTest).seq.serial = s.seq.serial ∧ (s.openingTest).seq.tracking = s.seq.tracking
      ∧ (s.openingTest).seq.interrupted = s.seq.interrupted ∧ (s.openingTest).seq.request = s.seq.request
      ∧ (s.openingTest).seq.recovery = s.seq.recovery ∧ (s.openingTest).seq.dwell = s.seq.dwell
      ∧ (s.openingTest).seq.limit = s.seq.limit := by
  and_intros <;> (unfold State.openingTest; (repeat' split) <;> simp)
/-- What `State.openingTest` leaves unchanged of the Channel Controller. -/
@[simp] theorem State.openingTest_chan (s : State) :
    (s.openingTest).chan.record = s.chan.record ∧ (s.openingTest).chan.vessels = s.chan.vessels
      ∧ (s.openingTest).chan.closing = s.chan.closing ∧ (s.openingTest).chan.phaseSeen = s.chan.phaseSeen
      ∧ (s.openingTest).chan.changeoverPending = s.chan.changeoverPending
      ∧ (s.openingTest).chan.greenTimer = s.chan.greenTimer
      ∧ (s.openingTest).chan.changeoverTimer = s.chan.changeoverTimer
      ∧ (s.openingTest).chan.greenExpired = s.chan.greenExpired
      ∧ (s.openingTest).chan.ignoredCalls = s.chan.ignoredCalls
      ∧ (s.openingTest).chan.badDirections = s.chan.badDirections
      ∧ (s.openingTest).chan.unexpectedPassages = s.chan.unexpectedPassages := by
  and_intros <;> (unfold State.openingTest; (repeat' split) <;> simp)
/-- What `State.openingTest` leaves unchanged of the Condition Evaluator. -/
@[simp] theorem State.openingTest_cond (s : State) :
    (s.openingTest).cond.table = s.cond.table := by
  unfold State.openingTest; (repeat' split) <;> simp
/-- What `State.openingTest` leaves unchanged of the Field Engine. -/
@[simp] theorem State.openingTest_field (s : State) :
    (s.openingTest).field.scanList = s.field.scanList ∧ (s.openingTest).field.tx = s.field.tx
      ∧ (s.openingTest).field.link = s.field.link ∧ (s.openingTest).field.nodes = s.field.nodes
      ∧ (s.openingTest).field.counts = s.field.counts ∧ (s.openingTest).field.receiver = s.field.receiver
      ∧ (s.openingTest).field.line = s.field.line ∧ (s.openingTest).field.arrivals = s.field.arrivals
      ∧ (s.openingTest).field.contention = s.field.contention
      ∧ (s.openingTest).field.credit = s.field.credit ∧ (s.openingTest).field.scanMode = s.field.scanMode
      ∧ (s.openingTest).field.echo = s.field.echo ∧ (s.openingTest).field.nextTag = s.field.nextTag
      ∧ (s.openingTest).field.trimA = s.field.trimA ∧ (s.openingTest).field.trimB = s.field.trimB
      ∧ (s.openingTest).field.stopA = s.field.stopA ∧ (s.openingTest).field.stopB = s.field.stopB
      ∧ (s.openingTest).field.pointer = s.field.pointer ∧ (s.openingTest).field.cycle = s.field.cycle
      ∧ (s.openingTest).field.sweep = s.field.sweep
      ∧ (s.openingTest).field.replyTimeout = s.field.replyTimeout
      ∧ (s.openingTest).field.silentLimit = s.field.silentLimit := by
  and_intros <;> (unfold State.openingTest; (repeat' split) <;> simp)
/-- What `State.openingTest` leaves unchanged of the Span Supervisor. -/
@[simp] theorem State.openingTest_span (s : State) :
    (s.openingTest).span.record = s.span.record ∧ (s.openingTest).span.correction = s.span.correction
      ∧ (s.openingTest).span.level = s.span.level ∧ (s.openingTest).span.lastSkew = s.span.lastSkew
      ∧ (s.openingTest).span.lastHold = s.span.lastHold
      ∧ (s.openingTest).span.holdRunning = s.span.holdRunning
      ∧ (s.openingTest).span.previous = s.span.previous ∧ (s.openingTest).span.lastTrim = s.span.lastTrim
      ∧ (s.openingTest).span.levelChanges = s.span.levelChanges := by
  and_intros <;> (unfold State.openingTest; (repeat' split) <;> simp)
/-- What `State.openingTest` leaves unchanged of the mode and the chain. -/
@[simp] theorem State.openingTest_unit (s : State) :
    (s.openingTest).unit.mode = s.unit.mode ∧ (s.openingTest).unit.limits = s.unit.limits
      ∧ (s.openingTest).unit.estop = s.unit.estop ∧ (s.openingTest).unit.key = s.unit.key
      ∧ (s.openingTest).unit.locked = s.unit.locked ∧ (s.openingTest).unit.validation = s.unit.validation
      ∧ (s.openingTest).unit.maintenancePending = s.unit.maintenancePending := by
  and_intros <;> (unfold State.openingTest; (repeat' split) <;> simp)
/-- What `State.openingTest` leaves unchanged of the Point Image. -/
@[simp] theorem State.openingTest_points (s : State) :
    (s.openingTest).points.map = s.points.map ∧ (s.openingTest).points.firstPair = s.points.firstPair
      ∧ (s.openingTest).points.pairLoss = s.points.pairLoss := by
  and_intros <;> (unfold State.openingTest; (repeat' split) <;> simp)

/-- The blocks `State.changeoverTest` leaves unchanged. -/
@[simp] theorem State.changeoverTest_frame (s : State) :
    (s.changeoverTest).power = s.power ∧ (s.changeoverTest).now = s.now
      ∧ (s.changeoverTest).pending = s.pending := by
  and_intros <;> (unfold State.changeoverTest; (repeat' split) <;> simp [Channel.wantRed])
/-- What `State.changeoverTest` leaves unchanged of the Console Port. -/
@[simp] theorem State.changeoverTest_console (s : State) :
    (s.changeoverTest).console.ingress = s.console.ingress
      ∧ (s.changeoverTest).console.arrivals = s.console.arrivals
      ∧ (s.changeoverTest).console.restart = s.console.restart
      ∧ (s.changeoverTest).console.receiver = s.console.receiver
      ∧ (s.changeoverTest).console.line = s.console.line
      ∧ (s.changeoverTest).console.counts = s.console.counts
      ∧ (s.changeoverTest).console.sending = s.console.sending
      ∧ (s.changeoverTest).console.ingressOverflows = s.console.ingressOverflows := by
  and_intros <;> (unfold State.changeoverTest; (repeat' split) <;> simp [Channel.wantRed])
/-- What `State.changeoverTest` leaves unchanged of the Order Gate. -/
@[simp] theorem State.changeoverTest_gate (s : State) :
    (s.changeoverTest).gate.permits = s.gate.permits ∧ (s.changeoverTest).gate.orders = s.gate.orders
      ∧ (s.changeoverTest).gate.held = s.gate.held := by
  and_intros <;> (unfold State.changeoverTest; (repeat' split) <;> simp [Channel.wantRed])
/-- What `State.changeoverTest` leaves unchanged of the Crossing Sequencer. -/
@[simp] theorem State.changeoverTest_seq (s : State) :
    (s.changeoverTest).seq.table = s.seq.table ∧ (s.changeoverTest).seq.phase = s.seq.phase
      ∧ (s.changeoverTest).seq.serial = s.seq.serial ∧ (s.changeoverTest).seq.tracking = s.seq.tracking
      ∧ (s.changeoverTest).seq.interrupted = s.seq.interrupted
      ∧ (s.changeoverTest).seq.request = s.seq.request ∧ (s.changeoverTest).seq.recovery = s.seq.recovery
      ∧ (s.changeoverTest).seq.dwell = s.seq.dwell ∧ (s.changeoverTest).seq.limit = s.seq.limit := by
  and_intros <;> (unfold State.changeoverTest; (repeat' split) <;> simp [Channel.wantRed])
/-- What `State.changeoverTest` leaves unchanged of the Channel Controller. -/
@[simp] theorem State.changeoverTest_chan (s : State) :
    (s.changeoverTest).chan.record = s.chan.record ∧ (s.changeoverTest).chan.vessels = s.chan.vessels
      ∧ (s.changeoverTest).chan.state = s.chan.state ∧ (s.changeoverTest).chan.closing = s.chan.closing
      ∧ (s.changeoverTest).chan.phaseSeen = s.chan.phaseSeen
      ∧ (s.changeoverTest).chan.greenTimer = s.chan.greenTimer
      ∧ (s.changeoverTest).chan.changeoverTimer = s.chan.changeoverTimer
      ∧ (s.changeoverTest).chan.retryTimer = s.chan.retryTimer
      ∧ (s.changeoverTest).chan.greenExpired = s.chan.greenExpired
      ∧ (s.changeoverTest).chan.ignoredCalls = s.chan.ignoredCalls
      ∧ (s.changeoverTest).chan.badDirections = s.chan.badDirections
      ∧ (s.changeoverTest).chan.unexpectedPassages = s.chan.unexpectedPassages := by
  and_intros <;> (unfold State.changeoverTest; (repeat' split) <;> simp [Channel.wantRed])
/-- What `State.changeoverTest` leaves unchanged of the Condition Evaluator. -/
@[simp] theorem State.changeoverTest_cond (s : State) :
    (s.changeoverTest).cond.table = s.cond.table := by
  unfold State.changeoverTest; (repeat' split) <;> simp [Channel.wantRed]
/-- What `State.changeoverTest` leaves unchanged of the Field Engine. -/
@[simp] theorem State.changeoverTest_field (s : State) :
    (s.changeoverTest).field.scanList = s.field.scanList ∧ (s.changeoverTest).field.tx = s.field.tx
      ∧ (s.changeoverTest).field.link = s.field.link ∧ (s.changeoverTest).field.nodes = s.field.nodes
      ∧ (s.changeoverTest).field.counts = s.field.counts
      ∧ (s.changeoverTest).field.receiver = s.field.receiver ∧ (s.changeoverTest).field.line = s.field.line
      ∧ (s.changeoverTest).field.arrivals = s.field.arrivals
      ∧ (s.changeoverTest).field.contention = s.field.contention
      ∧ (s.changeoverTest).field.credit = s.field.credit
      ∧ (s.changeoverTest).field.scanMode = s.field.scanMode ∧ (s.changeoverTest).field.echo = s.field.echo
      ∧ (s.changeoverTest).field.nextTag = s.field.nextTag ∧ (s.changeoverTest).field.trimA = s.field.trimA
      ∧ (s.changeoverTest).field.trimB = s.field.trimB ∧ (s.changeoverTest).field.stopA = s.field.stopA
      ∧ (s.changeoverTest).field.stopB = s.field.stopB ∧ (s.changeoverTest).field.pointer = s.field.pointer
      ∧ (s.changeoverTest).field.cycle = s.field.cycle ∧ (s.changeoverTest).field.sweep = s.field.sweep
      ∧ (s.changeoverTest).field.replyTimeout = s.field.replyTimeout
      ∧ (s.changeoverTest).field.silentLimit = s.field.silentLimit := by
  and_intros <;> (unfold State.changeoverTest; (repeat' split) <;> simp [Channel.wantRed])
/-- What `State.changeoverTest` leaves unchanged of the Span Supervisor. -/
@[simp] theorem State.changeoverTest_span (s : State) :
    (s.changeoverTest).span.record = s.span.record ∧ (s.changeoverTest).span.correction = s.span.correction
      ∧ (s.changeoverTest).span.level = s.span.level ∧ (s.changeoverTest).span.lastSkew = s.span.lastSkew
      ∧ (s.changeoverTest).span.lastHold = s.span.lastHold
      ∧ (s.changeoverTest).span.holdRunning = s.span.holdRunning
      ∧ (s.changeoverTest).span.previous = s.span.previous
      ∧ (s.changeoverTest).span.lastTrim = s.span.lastTrim
      ∧ (s.changeoverTest).span.levelChanges = s.span.levelChanges := by
  and_intros <;> (unfold State.changeoverTest; (repeat' split) <;> simp [Channel.wantRed])
/-- What `State.changeoverTest` leaves unchanged of the mode and the chain. -/
@[simp] theorem State.changeoverTest_unit (s : State) :
    (s.changeoverTest).unit.mode = s.unit.mode ∧ (s.changeoverTest).unit.limits = s.unit.limits
      ∧ (s.changeoverTest).unit.estop = s.unit.estop ∧ (s.changeoverTest).unit.key = s.unit.key
      ∧ (s.changeoverTest).unit.locked = s.unit.locked
      ∧ (s.changeoverTest).unit.validation = s.unit.validation
      ∧ (s.changeoverTest).unit.maintenancePending = s.unit.maintenancePending := by
  and_intros <;> (unfold State.changeoverTest; (repeat' split) <;> simp [Channel.wantRed])
/-- What `State.changeoverTest` leaves unchanged of the Point Image. -/
@[simp] theorem State.changeoverTest_points (s : State) :
    (s.changeoverTest).points.map = s.points.map ∧ (s.changeoverTest).points.firstPair = s.points.firstPair
      ∧ (s.changeoverTest).points.pairLoss = s.points.pairLoss := by
  and_intros <;> (unfold State.changeoverTest; (repeat' split) <;> simp [Channel.wantRed])

/-- The blocks `State.queueTests` leaves unchanged. -/
@[simp] theorem State.queueTests_frame (s : State) :
    (s.queueTests).power = s.power ∧ (s.queueTests).now = s.now ∧ (s.queueTests).pending = s.pending := by
  and_intros <;> (simp [State.queueTests])
/-- What `State.queueTests` leaves unchanged of the Console Port. -/
@[simp] theorem State.queueTests_console (s : State) :
    (s.queueTests).console.ingress = s.console.ingress
      ∧ (s.queueTests).console.arrivals = s.console.arrivals
      ∧ (s.queueTests).console.restart = s.console.restart
      ∧ (s.queueTests).console.receiver = s.console.receiver ∧ (s.queueTests).console.line = s.console.line
      ∧ (s.queueTests).console.counts = s.console.counts
      ∧ (s.queueTests).console.sending = s.console.sending
      ∧ (s.queueTests).console.ingressOverflows = s.console.ingressOverflows := by
  and_intros <;> (simp [State.queueTests])
/-- What `State.queueTests` leaves unchanged of the Order Gate. -/
@[simp] theorem State.queueTests_gate (s : State) :
    (s.queueTests).gate.permits = s.gate.permits ∧ (s.queueTests).gate.orders = s.gate.orders
      ∧ (s.queueTests).gate.held = s.gate.held := by
  and_intros <;> (simp [State.queueTests])
/-- What `State.queueTests` leaves unchanged of the Crossing Sequencer. -/
@[simp] theorem State.queueTests_seq (s : State) :
    (s.queueTests).seq.table = s.seq.table ∧ (s.queueTests).seq.phase = s.seq.phase
      ∧ (s.queueTests).seq.serial = s.seq.serial ∧ (s.queueTests).seq.tracking = s.seq.tracking
      ∧ (s.queueTests).seq.interrupted = s.seq.interrupted ∧ (s.queueTests).seq.request = s.seq.request
      ∧ (s.queueTests).seq.recovery = s.seq.recovery ∧ (s.queueTests).seq.dwell = s.seq.dwell
      ∧ (s.queueTests).seq.limit = s.seq.limit := by
  and_intros <;> (simp [State.queueTests])
/-- What `State.queueTests` leaves unchanged of the Channel Controller. -/
@[simp] theorem State.queueTests_chan (s : State) :
    (s.queueTests).chan.record = s.chan.record ∧ (s.queueTests).chan.vessels = s.chan.vessels
      ∧ (s.queueTests).chan.closing = s.chan.closing ∧ (s.queueTests).chan.phaseSeen = s.chan.phaseSeen
      ∧ (s.queueTests).chan.greenTimer = s.chan.greenTimer
      ∧ (s.queueTests).chan.changeoverTimer = s.chan.changeoverTimer
      ∧ (s.queueTests).chan.greenExpired = s.chan.greenExpired
      ∧ (s.queueTests).chan.ignoredCalls = s.chan.ignoredCalls
      ∧ (s.queueTests).chan.badDirections = s.chan.badDirections
      ∧ (s.queueTests).chan.unexpectedPassages = s.chan.unexpectedPassages := by
  and_intros <;> (simp [State.queueTests])
/-- What `State.queueTests` leaves unchanged of the Condition Evaluator. -/
@[simp] theorem State.queueTests_cond (s : State) :
    (s.queueTests).cond.table = s.cond.table := by
  simp [State.queueTests]
/-- What `State.queueTests` leaves unchanged of the Field Engine. -/
@[simp] theorem State.queueTests_field (s : State) :
    (s.queueTests).field.scanList = s.field.scanList ∧ (s.queueTests).field.tx = s.field.tx
      ∧ (s.queueTests).field.link = s.field.link ∧ (s.queueTests).field.nodes = s.field.nodes
      ∧ (s.queueTests).field.counts = s.field.counts ∧ (s.queueTests).field.receiver = s.field.receiver
      ∧ (s.queueTests).field.line = s.field.line ∧ (s.queueTests).field.arrivals = s.field.arrivals
      ∧ (s.queueTests).field.contention = s.field.contention ∧ (s.queueTests).field.credit = s.field.credit
      ∧ (s.queueTests).field.scanMode = s.field.scanMode ∧ (s.queueTests).field.echo = s.field.echo
      ∧ (s.queueTests).field.nextTag = s.field.nextTag ∧ (s.queueTests).field.trimA = s.field.trimA
      ∧ (s.queueTests).field.trimB = s.field.trimB ∧ (s.queueTests).field.stopA = s.field.stopA
      ∧ (s.queueTests).field.stopB = s.field.stopB ∧ (s.queueTests).field.pointer = s.field.pointer
      ∧ (s.queueTests).field.cycle = s.field.cycle ∧ (s.queueTests).field.sweep = s.field.sweep
      ∧ (s.queueTests).field.replyTimeout = s.field.replyTimeout
      ∧ (s.queueTests).field.silentLimit = s.field.silentLimit := by
  and_intros <;> (simp [State.queueTests])
/-- What `State.queueTests` leaves unchanged of the Span Supervisor. -/
@[simp] theorem State.queueTests_span (s : State) :
    (s.queueTests).span.record = s.span.record ∧ (s.queueTests).span.correction = s.span.correction
      ∧ (s.queueTests).span.level = s.span.level ∧ (s.queueTests).span.lastSkew = s.span.lastSkew
      ∧ (s.queueTests).span.lastHold = s.span.lastHold
      ∧ (s.queueTests).span.holdRunning = s.span.holdRunning
      ∧ (s.queueTests).span.previous = s.span.previous ∧ (s.queueTests).span.lastTrim = s.span.lastTrim
      ∧ (s.queueTests).span.levelChanges = s.span.levelChanges := by
  and_intros <;> (simp [State.queueTests])
/-- What `State.queueTests` leaves unchanged of the mode and the chain. -/
@[simp] theorem State.queueTests_unit (s : State) :
    (s.queueTests).unit.mode = s.unit.mode ∧ (s.queueTests).unit.limits = s.unit.limits
      ∧ (s.queueTests).unit.estop = s.unit.estop ∧ (s.queueTests).unit.key = s.unit.key
      ∧ (s.queueTests).unit.locked = s.unit.locked ∧ (s.queueTests).unit.validation = s.unit.validation
      ∧ (s.queueTests).unit.maintenancePending = s.unit.maintenancePending := by
  and_intros <;> (simp [State.queueTests])
/-- What `State.queueTests` leaves unchanged of the Point Image. -/
@[simp] theorem State.queueTests_points (s : State) :
    (s.queueTests).points.map = s.points.map ∧ (s.queueTests).points.firstPair = s.points.firstPair
      ∧ (s.queueTests).points.pairLoss = s.points.pairLoss := by
  and_intros <;> (simp [State.queueTests])

/-- The blocks `State.closeRed` leaves unchanged. -/
@[simp] theorem State.closeRed_frame (s : State) (b : Bool) (d : Direction) :
    (s.closeRed b d).power = s.power ∧ (s.closeRed b d).now = s.now ∧ (s.closeRed b d).pending = s.pending := by
  and_intros <;> (unfold State.closeRed; (repeat' split) <;> simp [Channel.wantRed])
/-- What `State.closeRed` leaves unchanged of the Console Port. -/
@[simp] theorem State.closeRed_console (s : State) (b : Bool) (d : Direction) :
    (s.closeRed b d).console.ingress = s.console.ingress
      ∧ (s.closeRed b d).console.arrivals = s.console.arrivals
      ∧ (s.closeRed b d).console.restart = s.console.restart
      ∧ (s.closeRed b d).console.receiver = s.console.receiver
      ∧ (s.closeRed b d).console.line = s.console.line ∧ (s.closeRed b d).console.counts = s.console.counts
      ∧ (s.closeRed b d).console.sending = s.console.sending
      ∧ (s.closeRed b d).console.ingressOverflows = s.console.ingressOverflows := by
  and_intros <;> (unfold State.closeRed; (repeat' split) <;> simp [Channel.wantRed])
/-- What `State.closeRed` leaves unchanged of the Order Gate. -/
@[simp] theorem State.closeRed_gate (s : State) (b : Bool) (d : Direction) :
    (s.closeRed b d).gate.permits = s.gate.permits ∧ (s.closeRed b d).gate.orders = s.gate.orders
      ∧ (s.closeRed b d).gate.held = s.gate.held := by
  and_intros <;> (unfold State.closeRed; (repeat' split) <;> simp [Channel.wantRed])
/-- What `State.closeRed` leaves unchanged of the Crossing Sequencer. -/
@[simp] theorem State.closeRed_seq (s : State) (b : Bool) (d : Direction) :
    (s.closeRed b d).seq.table = s.seq.table ∧ (s.closeRed b d).seq.phase = s.seq.phase
      ∧ (s.closeRed b d).seq.serial = s.seq.serial ∧ (s.closeRed b d).seq.tracking = s.seq.tracking
      ∧ (s.closeRed b d).seq.interrupted = s.seq.interrupted ∧ (s.closeRed b d).seq.request = s.seq.request
      ∧ (s.closeRed b d).seq.recovery = s.seq.recovery ∧ (s.closeRed b d).seq.dwell = s.seq.dwell
      ∧ (s.closeRed b d).seq.limit = s.seq.limit := by
  and_intros <;> (unfold State.closeRed; (repeat' split) <;> simp [Channel.wantRed])
/-- What `State.closeRed` leaves unchanged of the Channel Controller. -/
@[simp] theorem State.closeRed_chan (s : State) (b : Bool) (d : Direction) :
    (s.closeRed b d).chan.record = s.chan.record ∧ (s.closeRed b d).chan.vessels = s.chan.vessels
      ∧ (s.closeRed b d).chan.state = s.chan.state ∧ (s.closeRed b d).chan.closing = s.chan.closing
      ∧ (s.closeRed b d).chan.phaseSeen = s.chan.phaseSeen
      ∧ (s.closeRed b d).chan.changeoverPending = s.chan.changeoverPending
      ∧ (s.closeRed b d).chan.greenTimer = s.chan.greenTimer
      ∧ (s.closeRed b d).chan.changeoverTimer = s.chan.changeoverTimer
      ∧ (s.closeRed b d).chan.retryTimer = s.chan.retryTimer
      ∧ (s.closeRed b d).chan.greenExpired = s.chan.greenExpired
      ∧ (s.closeRed b d).chan.ignoredCalls = s.chan.ignoredCalls
      ∧ (s.closeRed b d).chan.badDirections = s.chan.badDirections
      ∧ (s.closeRed b d).chan.unexpectedPassages = s.chan.unexpectedPassages := by
  and_intros <;> (unfold State.closeRed; (repeat' split) <;> simp [Channel.wantRed])
/-- What `State.closeRed` leaves unchanged of the Condition Evaluator. -/
@[simp] theorem State.closeRed_cond (s : State) (b : Bool) (d : Direction) :
    (s.closeRed b d).cond.table = s.cond.table := by
  unfold State.closeRed; (repeat' split) <;> simp [Channel.wantRed]
/-- What `State.closeRed` leaves unchanged of the Field Engine. -/
@[simp] theorem State.closeRed_field (s : State) (b : Bool) (d : Direction) :
    (s.closeRed b d).field.scanList = s.field.scanList ∧ (s.closeRed b d).field.tx = s.field.tx
      ∧ (s.closeRed b d).field.link = s.field.link ∧ (s.closeRed b d).field.nodes = s.field.nodes
      ∧ (s.closeRed b d).field.counts = s.field.counts ∧ (s.closeRed b d).field.receiver = s.field.receiver
      ∧ (s.closeRed b d).field.line = s.field.line ∧ (s.closeRed b d).field.arrivals = s.field.arrivals
      ∧ (s.closeRed b d).field.contention = s.field.contention
      ∧ (s.closeRed b d).field.credit = s.field.credit ∧ (s.closeRed b d).field.scanMode = s.field.scanMode
      ∧ (s.closeRed b d).field.echo = s.field.echo ∧ (s.closeRed b d).field.nextTag = s.field.nextTag
      ∧ (s.closeRed b d).field.trimA = s.field.trimA ∧ (s.closeRed b d).field.trimB = s.field.trimB
      ∧ (s.closeRed b d).field.stopA = s.field.stopA ∧ (s.closeRed b d).field.stopB = s.field.stopB
      ∧ (s.closeRed b d).field.pointer = s.field.pointer ∧ (s.closeRed b d).field.cycle = s.field.cycle
      ∧ (s.closeRed b d).field.sweep = s.field.sweep
      ∧ (s.closeRed b d).field.replyTimeout = s.field.replyTimeout
      ∧ (s.closeRed b d).field.silentLimit = s.field.silentLimit := by
  and_intros <;> (unfold State.closeRed; (repeat' split) <;> simp [Channel.wantRed])
/-- What `State.closeRed` leaves unchanged of the Span Supervisor. -/
@[simp] theorem State.closeRed_span (s : State) (b : Bool) (d : Direction) :
    (s.closeRed b d).span.record = s.span.record ∧ (s.closeRed b d).span.correction = s.span.correction
      ∧ (s.closeRed b d).span.level = s.span.level ∧ (s.closeRed b d).span.lastSkew = s.span.lastSkew
      ∧ (s.closeRed b d).span.lastHold = s.span.lastHold
      ∧ (s.closeRed b d).span.holdRunning = s.span.holdRunning
      ∧ (s.closeRed b d).span.previous = s.span.previous ∧ (s.closeRed b d).span.lastTrim = s.span.lastTrim
      ∧ (s.closeRed b d).span.levelChanges = s.span.levelChanges := by
  and_intros <;> (unfold State.closeRed; (repeat' split) <;> simp [Channel.wantRed])
/-- What `State.closeRed` leaves unchanged of the mode and the chain. -/
@[simp] theorem State.closeRed_unit (s : State) (b : Bool) (d : Direction) :
    (s.closeRed b d).unit.mode = s.unit.mode ∧ (s.closeRed b d).unit.limits = s.unit.limits
      ∧ (s.closeRed b d).unit.estop = s.unit.estop ∧ (s.closeRed b d).unit.key = s.unit.key
      ∧ (s.closeRed b d).unit.locked = s.unit.locked ∧ (s.closeRed b d).unit.validation = s.unit.validation
      ∧ (s.closeRed b d).unit.maintenancePending = s.unit.maintenancePending := by
  and_intros <;> (unfold State.closeRed; (repeat' split) <;> simp [Channel.wantRed])
/-- What `State.closeRed` leaves unchanged of the Point Image. -/
@[simp] theorem State.closeRed_points (s : State) (b : Bool) (d : Direction) :
    (s.closeRed b d).points.map = s.points.map ∧ (s.closeRed b d).points.firstPair = s.points.firstPair
      ∧ (s.closeRed b d).points.pairLoss = s.points.pairLoss := by
  and_intros <;> (unfold State.closeRed; (repeat' split) <;> simp [Channel.wantRed])

/-- The blocks `State.close` leaves unchanged. -/
@[simp] theorem State.close_frame (s : State) :
    (s.close).power = s.power ∧ (s.close).now = s.now ∧ (s.close).pending = s.pending := by
  and_intros <;> (unfold State.close; dsimp only; (repeat' split) <;> simp [Channel.withdraw, Channel.wantReds])
/-- What `State.close` leaves unchanged of the Console Port. -/
@[simp] theorem State.close_console (s : State) :
    (s.close).console.ingress = s.console.ingress ∧ (s.close).console.arrivals = s.console.arrivals
      ∧ (s.close).console.restart = s.console.restart ∧ (s.close).console.receiver = s.console.receiver
      ∧ (s.close).console.line = s.console.line ∧ (s.close).console.counts = s.console.counts
      ∧ (s.close).console.sending = s.console.sending
      ∧ (s.close).console.ingressOverflows = s.console.ingressOverflows := by
  and_intros <;> (unfold State.close; dsimp only; (repeat' split) <;> simp [Channel.withdraw, Channel.wantReds])
/-- What `State.close` leaves unchanged of the Order Gate. -/
@[simp] theorem State.close_gate (s : State) :
    (s.close).gate.permits = s.gate.permits ∧ (s.close).gate.orders = s.gate.orders
      ∧ (s.close).gate.held = s.gate.held := by
  and_intros <;> (unfold State.close; dsimp only; (repeat' split) <;> simp [Channel.withdraw, Channel.wantReds])
/-- What `State.close` leaves unchanged of the Crossing Sequencer. -/
@[simp] theorem State.close_seq (s : State) :
    (s.close).seq.table = s.seq.table ∧ (s.close).seq.phase = s.seq.phase
      ∧ (s.close).seq.serial = s.seq.serial ∧ (s.close).seq.tracking = s.seq.tracking
      ∧ (s.close).seq.interrupted = s.seq.interrupted ∧ (s.close).seq.request = s.seq.request
      ∧ (s.close).seq.recovery = s.seq.recovery ∧ (s.close).seq.dwell = s.seq.dwell
      ∧ (s.close).seq.limit = s.seq.limit := by
  and_intros <;> (unfold State.close; dsimp only; (repeat' split) <;> simp [Channel.withdraw, Channel.wantReds])
/-- What `State.close` leaves unchanged of the Channel Controller. -/
@[simp] theorem State.close_chan (s : State) :
    (s.close).chan.record = s.chan.record ∧ (s.close).chan.phaseSeen = s.chan.phaseSeen
      ∧ (s.close).chan.ignoredCalls = s.chan.ignoredCalls
      ∧ (s.close).chan.badDirections = s.chan.badDirections
      ∧ (s.close).chan.unexpectedPassages = s.chan.unexpectedPassages := by
  and_intros <;> (unfold State.close; dsimp only; (repeat' split) <;> simp [Channel.withdraw, Channel.wantReds])
/-- What `State.close` leaves unchanged of the Condition Evaluator. -/
@[simp] theorem State.close_cond (s : State) :
    (s.close).cond.table = s.cond.table := by
  unfold State.close; dsimp only; (repeat' split) <;> simp [Channel.withdraw, Channel.wantReds]
/-- What `State.close` leaves unchanged of the Field Engine. -/
@[simp] theorem State.close_field (s : State) :
    (s.close).field.scanList = s.field.scanList ∧ (s.close).field.tx = s.field.tx
      ∧ (s.close).field.link = s.field.link ∧ (s.close).field.nodes = s.field.nodes
      ∧ (s.close).field.counts = s.field.counts ∧ (s.close).field.receiver = s.field.receiver
      ∧ (s.close).field.line = s.field.line ∧ (s.close).field.arrivals = s.field.arrivals
      ∧ (s.close).field.contention = s.field.contention ∧ (s.close).field.credit = s.field.credit
      ∧ (s.close).field.scanMode = s.field.scanMode ∧ (s.close).field.echo = s.field.echo
      ∧ (s.close).field.nextTag = s.field.nextTag ∧ (s.close).field.trimA = s.field.trimA
      ∧ (s.close).field.trimB = s.field.trimB ∧ (s.close).field.stopA = s.field.stopA
      ∧ (s.close).field.stopB = s.field.stopB ∧ (s.close).field.pointer = s.field.pointer
      ∧ (s.close).field.cycle = s.field.cycle ∧ (s.close).field.sweep = s.field.sweep
      ∧ (s.close).field.replyTimeout = s.field.replyTimeout
      ∧ (s.close).field.silentLimit = s.field.silentLimit := by
  and_intros <;> (unfold State.close; dsimp only; (repeat' split) <;> simp [Channel.withdraw, Channel.wantReds])
/-- What `State.close` leaves unchanged of the Span Supervisor. -/
@[simp] theorem State.close_span (s : State) :
    (s.close).span.record = s.span.record ∧ (s.close).span.correction = s.span.correction
      ∧ (s.close).span.level = s.span.level ∧ (s.close).span.lastSkew = s.span.lastSkew
      ∧ (s.close).span.lastHold = s.span.lastHold ∧ (s.close).span.holdRunning = s.span.holdRunning
      ∧ (s.close).span.previous = s.span.previous ∧ (s.close).span.lastTrim = s.span.lastTrim
      ∧ (s.close).span.levelChanges = s.span.levelChanges := by
  and_intros <;> (unfold State.close; dsimp only; (repeat' split) <;> simp [Channel.withdraw, Channel.wantReds])
/-- What `State.close` leaves unchanged of the mode and the chain. -/
@[simp] theorem State.close_unit (s : State) :
    (s.close).unit.mode = s.unit.mode ∧ (s.close).unit.limits = s.unit.limits
      ∧ (s.close).unit.estop = s.unit.estop ∧ (s.close).unit.key = s.unit.key
      ∧ (s.close).unit.locked = s.unit.locked ∧ (s.close).unit.validation = s.unit.validation
      ∧ (s.close).unit.maintenancePending = s.unit.maintenancePending := by
  and_intros <;> (unfold State.close; dsimp only; (repeat' split) <;> simp [Channel.withdraw, Channel.wantReds])
/-- What `State.close` leaves unchanged of the Point Image. -/
@[simp] theorem State.close_points (s : State) :
    (s.close).points.map = s.points.map ∧ (s.close).points.firstPair = s.points.firstPair
      ∧ (s.close).points.pairLoss = s.points.pairLoss := by
  and_intros <;> (unfold State.close; dsimp only; (repeat' split) <;> simp [Channel.withdraw, Channel.wantReds])

/-- The blocks `State.channelService` leaves unchanged. -/
@[simp] theorem State.channelService_frame (s : State) :
    (s.channelService).power = s.power ∧ (s.channelService).now = s.now
      ∧ (s.channelService).pending = s.pending := by
  and_intros <;> (simp [State.channelService, Channel.wantRed])
/-- What `State.channelService` leaves unchanged of the Console Port. -/
@[simp] theorem State.channelService_console (s : State) :
    (s.channelService).console.ingress = s.console.ingress
      ∧ (s.channelService).console.arrivals = s.console.arrivals
      ∧ (s.channelService).console.restart = s.console.restart
      ∧ (s.channelService).console.receiver = s.console.receiver
      ∧ (s.channelService).console.line = s.console.line
      ∧ (s.channelService).console.counts = s.console.counts
      ∧ (s.channelService).console.sending = s.console.sending
      ∧ (s.channelService).console.ingressOverflows = s.console.ingressOverflows := by
  and_intros <;> (simp [State.channelService, Channel.wantRed])
/-- What `State.channelService` leaves unchanged of the Order Gate. -/
@[simp] theorem State.channelService_gate (s : State) :
    (s.channelService).gate.permits = s.gate.permits ∧ (s.channelService).gate.orders = s.gate.orders
      ∧ (s.channelService).gate.held = s.gate.held := by
  and_intros <;> (simp [State.channelService, Channel.wantRed])
/-- What `State.channelService` leaves unchanged of the Crossing Sequencer. -/
@[simp] theorem State.channelService_seq (s : State) :
    (s.channelService).seq.table = s.seq.table ∧ (s.channelService).seq.phase = s.seq.phase
      ∧ (s.channelService).seq.serial = s.seq.serial ∧ (s.channelService).seq.tracking = s.seq.tracking
      ∧ (s.channelService).seq.interrupted = s.seq.interrupted
      ∧ (s.channelService).seq.request = s.seq.request ∧ (s.channelService).seq.recovery = s.seq.recovery
      ∧ (s.channelService).seq.dwell = s.seq.dwell ∧ (s.channelService).seq.limit = s.seq.limit := by
  and_intros <;> (simp [State.channelService, Channel.wantRed])
/-- What `State.channelService` leaves unchanged of the Channel Controller. -/
@[simp] theorem State.channelService_chan (s : State) :
    (s.channelService).chan.record = s.chan.record ∧ (s.channelService).chan.vessels = s.chan.vessels
      ∧ (s.channelService).chan.state = s.chan.state ∧ (s.channelService).chan.closing = s.chan.closing
      ∧ (s.channelService).chan.phaseSeen = s.chan.phaseSeen
      ∧ (s.channelService).chan.changeoverPending = s.chan.changeoverPending
      ∧ (s.channelService).chan.greenTimer = s.chan.greenTimer
      ∧ (s.channelService).chan.changeoverTimer = s.chan.changeoverTimer
      ∧ (s.channelService).chan.retryTimer = s.chan.retryTimer
      ∧ (s.channelService).chan.greenExpired = s.chan.greenExpired
      ∧ (s.channelService).chan.ignoredCalls = s.chan.ignoredCalls
      ∧ (s.channelService).chan.badDirections = s.chan.badDirections
      ∧ (s.channelService).chan.unexpectedPassages = s.chan.unexpectedPassages := by
  and_intros <;> (simp [State.channelService, Channel.wantRed])
/-- What `State.channelService` leaves unchanged of the Condition Evaluator. -/
@[simp] theorem State.channelService_cond (s : State) :
    (s.channelService).cond.table = s.cond.table := by
  simp [State.channelService, Channel.wantRed]
/-- What `State.channelService` leaves unchanged of the Field Engine. -/
@[simp] theorem State.channelService_field (s : State) :
    (s.channelService).field.scanList = s.field.scanList ∧ (s.channelService).field.tx = s.field.tx
      ∧ (s.channelService).field.link = s.field.link ∧ (s.channelService).field.nodes = s.field.nodes
      ∧ (s.channelService).field.counts = s.field.counts
      ∧ (s.channelService).field.receiver = s.field.receiver ∧ (s.channelService).field.line = s.field.line
      ∧ (s.channelService).field.arrivals = s.field.arrivals
      ∧ (s.channelService).field.contention = s.field.contention
      ∧ (s.channelService).field.credit = s.field.credit
      ∧ (s.channelService).field.scanMode = s.field.scanMode ∧ (s.channelService).field.echo = s.field.echo
      ∧ (s.channelService).field.nextTag = s.field.nextTag ∧ (s.channelService).field.trimA = s.field.trimA
      ∧ (s.channelService).field.trimB = s.field.trimB ∧ (s.channelService).field.stopA = s.field.stopA
      ∧ (s.channelService).field.stopB = s.field.stopB ∧ (s.channelService).field.pointer = s.field.pointer
      ∧ (s.channelService).field.cycle = s.field.cycle ∧ (s.channelService).field.sweep = s.field.sweep
      ∧ (s.channelService).field.replyTimeout = s.field.replyTimeout
      ∧ (s.channelService).field.silentLimit = s.field.silentLimit := by
  and_intros <;> (simp [State.channelService, Channel.wantRed])
/-- What `State.channelService` leaves unchanged of the Span Supervisor. -/
@[simp] theorem State.channelService_span (s : State) :
    (s.channelService).span.record = s.span.record ∧ (s.channelService).span.correction = s.span.correction
      ∧ (s.channelService).span.level = s.span.level ∧ (s.channelService).span.lastSkew = s.span.lastSkew
      ∧ (s.channelService).span.lastHold = s.span.lastHold
      ∧ (s.channelService).span.holdRunning = s.span.holdRunning
      ∧ (s.channelService).span.previous = s.span.previous
      ∧ (s.channelService).span.lastTrim = s.span.lastTrim
      ∧ (s.channelService).span.levelChanges = s.span.levelChanges := by
  and_intros <;> (simp [State.channelService, Channel.wantRed])
/-- What `State.channelService` leaves unchanged of the mode and the chain. -/
@[simp] theorem State.channelService_unit (s : State) :
    (s.channelService).unit.mode = s.unit.mode ∧ (s.channelService).unit.limits = s.unit.limits
      ∧ (s.channelService).unit.estop = s.unit.estop ∧ (s.channelService).unit.key = s.unit.key
      ∧ (s.channelService).unit.locked = s.unit.locked
      ∧ (s.channelService).unit.validation = s.unit.validation
      ∧ (s.channelService).unit.maintenancePending = s.unit.maintenancePending := by
  and_intros <;> (simp [State.channelService, Channel.wantRed])
/-- What `State.channelService` leaves unchanged of the Point Image. -/
@[simp] theorem State.channelService_points (s : State) :
    (s.channelService).points.map = s.points.map ∧ (s.channelService).points.firstPair = s.points.firstPair
      ∧ (s.channelService).points.pairLoss = s.points.pairLoss := by
  and_intros <;> (simp [State.channelService, Channel.wantRed])

/-- The blocks `State.joinVessel` leaves unchanged. -/
@[simp] theorem State.joinVessel_frame (s : State) (t : Nat) (d : Direction) :
    (s.joinVessel t d).power = s.power ∧ (s.joinVessel t d).now = s.now
      ∧ (s.joinVessel t d).pending = s.pending := by
  and_intros <;> (simp [State.joinVessel])
/-- What `State.joinVessel` leaves unchanged of the Console Port. -/
@[simp] theorem State.joinVessel_console (s : State) (t : Nat) (d : Direction) :
    (s.joinVessel t d).console.ingress = s.console.ingress
      ∧ (s.joinVessel t d).console.arrivals = s.console.arrivals
      ∧ (s.joinVessel t d).console.restart = s.console.restart
      ∧ (s.joinVessel t d).console.receiver = s.console.receiver
      ∧ (s.joinVessel t d).console.line = s.console.line
      ∧ (s.joinVessel t d).console.counts = s.console.counts
      ∧ (s.joinVessel t d).console.sending = s.console.sending
      ∧ (s.joinVessel t d).console.ingressOverflows = s.console.ingressOverflows := by
  and_intros <;> (simp [State.joinVessel])
/-- What `State.joinVessel` leaves unchanged of the Order Gate. -/
@[simp] theorem State.joinVessel_gate (s : State) (t : Nat) (d : Direction) :
    (s.joinVessel t d).gate.permits = s.gate.permits ∧ (s.joinVessel t d).gate.orders = s.gate.orders
      ∧ (s.joinVessel t d).gate.held = s.gate.held := by
  and_intros <;> (simp [State.joinVessel])
/-- What `State.joinVessel` leaves unchanged of the Crossing Sequencer. -/
@[simp] theorem State.joinVessel_seq (s : State) (t : Nat) (d : Direction) :
    (s.joinVessel t d).seq.table = s.seq.table ∧ (s.joinVessel t d).seq.phase = s.seq.phase
      ∧ (s.joinVessel t d).seq.serial = s.seq.serial ∧ (s.joinVessel t d).seq.tracking = s.seq.tracking
      ∧ (s.joinVessel t d).seq.interrupted = s.seq.interrupted
      ∧ (s.joinVessel t d).seq.request = s.seq.request ∧ (s.joinVessel t d).seq.recovery = s.seq.recovery
      ∧ (s.joinVessel t d).seq.dwell = s.seq.dwell ∧ (s.joinVessel t d).seq.limit = s.seq.limit := by
  and_intros <;> (simp [State.joinVessel])
/-- What `State.joinVessel` leaves unchanged of the Channel Controller. -/
@[simp] theorem State.joinVessel_chan (s : State) (t : Nat) (d : Direction) :
    (s.joinVessel t d).chan.record = s.chan.record ∧ (s.joinVessel t d).chan.closing = s.chan.closing
      ∧ (s.joinVessel t d).chan.phaseSeen = s.chan.phaseSeen
      ∧ (s.joinVessel t d).chan.greenTimer = s.chan.greenTimer
      ∧ (s.joinVessel t d).chan.changeoverTimer = s.chan.changeoverTimer
      ∧ (s.joinVessel t d).chan.greenExpired = s.chan.greenExpired
      ∧ (s.joinVessel t d).chan.ignoredCalls = s.chan.ignoredCalls
      ∧ (s.joinVessel t d).chan.badDirections = s.chan.badDirections
      ∧ (s.joinVessel t d).chan.unexpectedPassages = s.chan.unexpectedPassages := by
  and_intros <;> (simp [State.joinVessel])
/-- What `State.joinVessel` leaves unchanged of the Condition Evaluator. -/
@[simp] theorem State.joinVessel_cond (s : State) (t : Nat) (d : Direction) :
    (s.joinVessel t d).cond.table = s.cond.table := by
  simp [State.joinVessel]
/-- What `State.joinVessel` leaves unchanged of the Field Engine. -/
@[simp] theorem State.joinVessel_field (s : State) (t : Nat) (d : Direction) :
    (s.joinVessel t d).field.scanList = s.field.scanList ∧ (s.joinVessel t d).field.tx = s.field.tx
      ∧ (s.joinVessel t d).field.link = s.field.link ∧ (s.joinVessel t d).field.nodes = s.field.nodes
      ∧ (s.joinVessel t d).field.counts = s.field.counts
      ∧ (s.joinVessel t d).field.receiver = s.field.receiver ∧ (s.joinVessel t d).field.line = s.field.line
      ∧ (s.joinVessel t d).field.arrivals = s.field.arrivals
      ∧ (s.joinVessel t d).field.contention = s.field.contention
      ∧ (s.joinVessel t d).field.credit = s.field.credit
      ∧ (s.joinVessel t d).field.scanMode = s.field.scanMode ∧ (s.joinVessel t d).field.echo = s.field.echo
      ∧ (s.joinVessel t d).field.nextTag = s.field.nextTag ∧ (s.joinVessel t d).field.trimA = s.field.trimA
      ∧ (s.joinVessel t d).field.trimB = s.field.trimB ∧ (s.joinVessel t d).field.stopA = s.field.stopA
      ∧ (s.joinVessel t d).field.stopB = s.field.stopB ∧ (s.joinVessel t d).field.pointer = s.field.pointer
      ∧ (s.joinVessel t d).field.cycle = s.field.cycle ∧ (s.joinVessel t d).field.sweep = s.field.sweep
      ∧ (s.joinVessel t d).field.replyTimeout = s.field.replyTimeout
      ∧ (s.joinVessel t d).field.silentLimit = s.field.silentLimit := by
  and_intros <;> (simp [State.joinVessel])
/-- What `State.joinVessel` leaves unchanged of the Span Supervisor. -/
@[simp] theorem State.joinVessel_span (s : State) (t : Nat) (d : Direction) :
    (s.joinVessel t d).span.record = s.span.record ∧ (s.joinVessel t d).span.correction = s.span.correction
      ∧ (s.joinVessel t d).span.level = s.span.level ∧ (s.joinVessel t d).span.lastSkew = s.span.lastSkew
      ∧ (s.joinVessel t d).span.lastHold = s.span.lastHold
      ∧ (s.joinVessel t d).span.holdRunning = s.span.holdRunning
      ∧ (s.joinVessel t d).span.previous = s.span.previous
      ∧ (s.joinVessel t d).span.lastTrim = s.span.lastTrim
      ∧ (s.joinVessel t d).span.levelChanges = s.span.levelChanges := by
  and_intros <;> (simp [State.joinVessel])
/-- What `State.joinVessel` leaves unchanged of the mode and the chain. -/
@[simp] theorem State.joinVessel_unit (s : State) (t : Nat) (d : Direction) :
    (s.joinVessel t d).unit.mode = s.unit.mode ∧ (s.joinVessel t d).unit.limits = s.unit.limits
      ∧ (s.joinVessel t d).unit.estop = s.unit.estop ∧ (s.joinVessel t d).unit.key = s.unit.key
      ∧ (s.joinVessel t d).unit.locked = s.unit.locked
      ∧ (s.joinVessel t d).unit.validation = s.unit.validation
      ∧ (s.joinVessel t d).unit.maintenancePending = s.unit.maintenancePending := by
  and_intros <;> (simp [State.joinVessel])
/-- What `State.joinVessel` leaves unchanged of the Point Image. -/
@[simp] theorem State.joinVessel_points (s : State) (t : Nat) (d : Direction) :
    (s.joinVessel t d).points.map = s.points.map ∧ (s.joinVessel t d).points.firstPair = s.points.firstPair
      ∧ (s.joinVessel t d).points.pairLoss = s.points.pairLoss := by
  and_intros <;> (simp [State.joinVessel])

/-- The blocks `State.vesselCall` leaves unchanged. -/
@[simp] theorem State.vesselCall_frame (s : State) (t d : Nat) :
    (s.vesselCall t d).power = s.power ∧ (s.vesselCall t d).now = s.now
      ∧ (s.vesselCall t d).pending = s.pending := by
  and_intros <;> (unfold State.vesselCall; (repeat' split) <;> simp)
/-- What `State.vesselCall` leaves unchanged of the Console Port. -/
@[simp] theorem State.vesselCall_console (s : State) (t d : Nat) :
    (s.vesselCall t d).console.ingress = s.console.ingress
      ∧ (s.vesselCall t d).console.arrivals = s.console.arrivals
      ∧ (s.vesselCall t d).console.restart = s.console.restart
      ∧ (s.vesselCall t d).console.receiver = s.console.receiver
      ∧ (s.vesselCall t d).console.line = s.console.line
      ∧ (s.vesselCall t d).console.counts = s.console.counts
      ∧ (s.vesselCall t d).console.sending = s.console.sending
      ∧ (s.vesselCall t d).console.ingressOverflows = s.console.ingressOverflows := by
  and_intros <;> (unfold State.vesselCall; (repeat' split) <;> simp)
/-- What `State.vesselCall` leaves unchanged of the Order Gate. -/
@[simp] theorem State.vesselCall_gate (s : State) (t d : Nat) :
    (s.vesselCall t d).gate.permits = s.gate.permits ∧ (s.vesselCall t d).gate.orders = s.gate.orders
      ∧ (s.vesselCall t d).gate.held = s.gate.held := by
  and_intros <;> (unfold State.vesselCall; (repeat' split) <;> simp)
/-- What `State.vesselCall` leaves unchanged of the Crossing Sequencer. -/
@[simp] theorem State.vesselCall_seq (s : State) (t d : Nat) :
    (s.vesselCall t d).seq.table = s.seq.table ∧ (s.vesselCall t d).seq.phase = s.seq.phase
      ∧ (s.vesselCall t d).seq.serial = s.seq.serial ∧ (s.vesselCall t d).seq.tracking = s.seq.tracking
      ∧ (s.vesselCall t d).seq.interrupted = s.seq.interrupted
      ∧ (s.vesselCall t d).seq.request = s.seq.request ∧ (s.vesselCall t d).seq.recovery = s.seq.recovery
      ∧ (s.vesselCall t d).seq.dwell = s.seq.dwell ∧ (s.vesselCall t d).seq.limit = s.seq.limit := by
  and_intros <;> (unfold State.vesselCall; (repeat' split) <;> simp)
/-- What `State.vesselCall` leaves unchanged of the Channel Controller. -/
@[simp] theorem State.vesselCall_chan (s : State) (t d : Nat) :
    (s.vesselCall t d).chan.record = s.chan.record ∧ (s.vesselCall t d).chan.closing = s.chan.closing
      ∧ (s.vesselCall t d).chan.phaseSeen = s.chan.phaseSeen
      ∧ (s.vesselCall t d).chan.greenTimer = s.chan.greenTimer
      ∧ (s.vesselCall t d).chan.changeoverTimer = s.chan.changeoverTimer
      ∧ (s.vesselCall t d).chan.greenExpired = s.chan.greenExpired
      ∧ (s.vesselCall t d).chan.unexpectedPassages = s.chan.unexpectedPassages := by
  and_intros <;> (unfold State.vesselCall; (repeat' split) <;> simp)
/-- What `State.vesselCall` leaves unchanged of the Condition Evaluator. -/
@[simp] theorem State.vesselCall_cond (s : State) (t d : Nat) :
    (s.vesselCall t d).cond.table = s.cond.table := by
  unfold State.vesselCall; (repeat' split) <;> simp
/-- What `State.vesselCall` leaves unchanged of the Field Engine. -/
@[simp] theorem State.vesselCall_field (s : State) (t d : Nat) :
    (s.vesselCall t d).field.scanList = s.field.scanList ∧ (s.vesselCall t d).field.tx = s.field.tx
      ∧ (s.vesselCall t d).field.link = s.field.link ∧ (s.vesselCall t d).field.nodes = s.field.nodes
      ∧ (s.vesselCall t d).field.counts = s.field.counts
      ∧ (s.vesselCall t d).field.receiver = s.field.receiver ∧ (s.vesselCall t d).field.line = s.field.line
      ∧ (s.vesselCall t d).field.arrivals = s.field.arrivals
      ∧ (s.vesselCall t d).field.contention = s.field.contention
      ∧ (s.vesselCall t d).field.credit = s.field.credit
      ∧ (s.vesselCall t d).field.scanMode = s.field.scanMode ∧ (s.vesselCall t d).field.echo = s.field.echo
      ∧ (s.vesselCall t d).field.nextTag = s.field.nextTag ∧ (s.vesselCall t d).field.trimA = s.field.trimA
      ∧ (s.vesselCall t d).field.trimB = s.field.trimB ∧ (s.vesselCall t d).field.stopA = s.field.stopA
      ∧ (s.vesselCall t d).field.stopB = s.field.stopB ∧ (s.vesselCall t d).field.pointer = s.field.pointer
      ∧ (s.vesselCall t d).field.cycle = s.field.cycle ∧ (s.vesselCall t d).field.sweep = s.field.sweep
      ∧ (s.vesselCall t d).field.replyTimeout = s.field.replyTimeout
      ∧ (s.vesselCall t d).field.silentLimit = s.field.silentLimit := by
  and_intros <;> (unfold State.vesselCall; (repeat' split) <;> simp)
/-- What `State.vesselCall` leaves unchanged of the Span Supervisor. -/
@[simp] theorem State.vesselCall_span (s : State) (t d : Nat) :
    (s.vesselCall t d).span.record = s.span.record ∧ (s.vesselCall t d).span.correction = s.span.correction
      ∧ (s.vesselCall t d).span.level = s.span.level ∧ (s.vesselCall t d).span.lastSkew = s.span.lastSkew
      ∧ (s.vesselCall t d).span.lastHold = s.span.lastHold
      ∧ (s.vesselCall t d).span.holdRunning = s.span.holdRunning
      ∧ (s.vesselCall t d).span.previous = s.span.previous
      ∧ (s.vesselCall t d).span.lastTrim = s.span.lastTrim
      ∧ (s.vesselCall t d).span.levelChanges = s.span.levelChanges := by
  and_intros <;> (unfold State.vesselCall; (repeat' split) <;> simp)
/-- What `State.vesselCall` leaves unchanged of the mode and the chain. -/
@[simp] theorem State.vesselCall_unit (s : State) (t d : Nat) :
    (s.vesselCall t d).unit.mode = s.unit.mode ∧ (s.vesselCall t d).unit.limits = s.unit.limits
      ∧ (s.vesselCall t d).unit.estop = s.unit.estop ∧ (s.vesselCall t d).unit.key = s.unit.key
      ∧ (s.vesselCall t d).unit.locked = s.unit.locked
      ∧ (s.vesselCall t d).unit.validation = s.unit.validation
      ∧ (s.vesselCall t d).unit.maintenancePending = s.unit.maintenancePending := by
  and_intros <;> (unfold State.vesselCall; (repeat' split) <;> simp)
/-- What `State.vesselCall` leaves unchanged of the Point Image. -/
@[simp] theorem State.vesselCall_points (s : State) (t d : Nat) :
    (s.vesselCall t d).points.map = s.points.map ∧ (s.vesselCall t d).points.firstPair = s.points.firstPair
      ∧ (s.vesselCall t d).points.pairLoss = s.points.pairLoss := by
  and_intros <;> (unfold State.vesselCall; (repeat' split) <;> simp)

/-- The blocks `State.removeVessel` leaves unchanged. -/
@[simp] theorem State.removeVessel_frame (s : State) (t : Nat) :
    (s.removeVessel t).power = s.power ∧ (s.removeVessel t).now = s.now
      ∧ (s.removeVessel t).pending = s.pending := by
  and_intros <;> (simp [State.removeVessel])
/-- What `State.removeVessel` leaves unchanged of the Console Port. -/
@[simp] theorem State.removeVessel_console (s : State) (t : Nat) :
    (s.removeVessel t).console.ingress = s.console.ingress
      ∧ (s.removeVessel t).console.arrivals = s.console.arrivals
      ∧ (s.removeVessel t).console.restart = s.console.restart
      ∧ (s.removeVessel t).console.receiver = s.console.receiver
      ∧ (s.removeVessel t).console.line = s.console.line
      ∧ (s.removeVessel t).console.counts = s.console.counts
      ∧ (s.removeVessel t).console.sending = s.console.sending
      ∧ (s.removeVessel t).console.ingressOverflows = s.console.ingressOverflows := by
  and_intros <;> (simp [State.removeVessel])
/-- What `State.removeVessel` leaves unchanged of the Order Gate. -/
@[simp] theorem State.removeVessel_gate (s : State) (t : Nat) :
    (s.removeVessel t).gate.permits = s.gate.permits ∧ (s.removeVessel t).gate.orders = s.gate.orders
      ∧ (s.removeVessel t).gate.held = s.gate.held := by
  and_intros <;> (simp [State.removeVessel])
/-- What `State.removeVessel` leaves unchanged of the Crossing Sequencer. -/
@[simp] theorem State.removeVessel_seq (s : State) (t : Nat) :
    (s.removeVessel t).seq.table = s.seq.table ∧ (s.removeVessel t).seq.phase = s.seq.phase
      ∧ (s.removeVessel t).seq.serial = s.seq.serial ∧ (s.removeVessel t).seq.tracking = s.seq.tracking
      ∧ (s.removeVessel t).seq.interrupted = s.seq.interrupted
      ∧ (s.removeVessel t).seq.request = s.seq.request ∧ (s.removeVessel t).seq.recovery = s.seq.recovery
      ∧ (s.removeVessel t).seq.dwell = s.seq.dwell ∧ (s.removeVessel t).seq.limit = s.seq.limit := by
  and_intros <;> (simp [State.removeVessel])
/-- What `State.removeVessel` leaves unchanged of the Channel Controller. -/
@[simp] theorem State.removeVessel_chan (s : State) (t : Nat) :
    (s.removeVessel t).chan.record = s.chan.record ∧ (s.removeVessel t).chan.closing = s.chan.closing
      ∧ (s.removeVessel t).chan.phaseSeen = s.chan.phaseSeen
      ∧ (s.removeVessel t).chan.greenTimer = s.chan.greenTimer
      ∧ (s.removeVessel t).chan.changeoverTimer = s.chan.changeoverTimer
      ∧ (s.removeVessel t).chan.greenExpired = s.chan.greenExpired
      ∧ (s.removeVessel t).chan.ignoredCalls = s.chan.ignoredCalls
      ∧ (s.removeVessel t).chan.badDirections = s.chan.badDirections
      ∧ (s.removeVessel t).chan.unexpectedPassages = s.chan.unexpectedPassages := by
  and_intros <;> (simp [State.removeVessel])
/-- What `State.removeVessel` leaves unchanged of the Condition Evaluator. -/
@[simp] theorem State.removeVessel_cond (s : State) (t : Nat) :
    (s.removeVessel t).cond.table = s.cond.table := by
  simp [State.removeVessel]
/-- What `State.removeVessel` leaves unchanged of the Field Engine. -/
@[simp] theorem State.removeVessel_field (s : State) (t : Nat) :
    (s.removeVessel t).field.scanList = s.field.scanList ∧ (s.removeVessel t).field.tx = s.field.tx
      ∧ (s.removeVessel t).field.link = s.field.link ∧ (s.removeVessel t).field.nodes = s.field.nodes
      ∧ (s.removeVessel t).field.counts = s.field.counts
      ∧ (s.removeVessel t).field.receiver = s.field.receiver ∧ (s.removeVessel t).field.line = s.field.line
      ∧ (s.removeVessel t).field.arrivals = s.field.arrivals
      ∧ (s.removeVessel t).field.contention = s.field.contention
      ∧ (s.removeVessel t).field.credit = s.field.credit
      ∧ (s.removeVessel t).field.scanMode = s.field.scanMode ∧ (s.removeVessel t).field.echo = s.field.echo
      ∧ (s.removeVessel t).field.nextTag = s.field.nextTag ∧ (s.removeVessel t).field.trimA = s.field.trimA
      ∧ (s.removeVessel t).field.trimB = s.field.trimB ∧ (s.removeVessel t).field.stopA = s.field.stopA
      ∧ (s.removeVessel t).field.stopB = s.field.stopB ∧ (s.removeVessel t).field.pointer = s.field.pointer
      ∧ (s.removeVessel t).field.cycle = s.field.cycle ∧ (s.removeVessel t).field.sweep = s.field.sweep
      ∧ (s.removeVessel t).field.replyTimeout = s.field.replyTimeout
      ∧ (s.removeVessel t).field.silentLimit = s.field.silentLimit := by
  and_intros <;> (simp [State.removeVessel])
/-- What `State.removeVessel` leaves unchanged of the Span Supervisor. -/
@[simp] theorem State.removeVessel_span (s : State) (t : Nat) :
    (s.removeVessel t).span.record = s.span.record ∧ (s.removeVessel t).span.correction = s.span.correction
      ∧ (s.removeVessel t).span.level = s.span.level ∧ (s.removeVessel t).span.lastSkew = s.span.lastSkew
      ∧ (s.removeVessel t).span.lastHold = s.span.lastHold
      ∧ (s.removeVessel t).span.holdRunning = s.span.holdRunning
      ∧ (s.removeVessel t).span.previous = s.span.previous
      ∧ (s.removeVessel t).span.lastTrim = s.span.lastTrim
      ∧ (s.removeVessel t).span.levelChanges = s.span.levelChanges := by
  and_intros <;> (simp [State.removeVessel])
/-- What `State.removeVessel` leaves unchanged of the mode and the chain. -/
@[simp] theorem State.removeVessel_unit (s : State) (t : Nat) :
    (s.removeVessel t).unit.mode = s.unit.mode ∧ (s.removeVessel t).unit.limits = s.unit.limits
      ∧ (s.removeVessel t).unit.estop = s.unit.estop ∧ (s.removeVessel t).unit.key = s.unit.key
      ∧ (s.removeVessel t).unit.locked = s.unit.locked
      ∧ (s.removeVessel t).unit.validation = s.unit.validation
      ∧ (s.removeVessel t).unit.maintenancePending = s.unit.maintenancePending := by
  and_intros <;> (simp [State.removeVessel])
/-- What `State.removeVessel` leaves unchanged of the Point Image. -/
@[simp] theorem State.removeVessel_points (s : State) (t : Nat) :
    (s.removeVessel t).points.map = s.points.map ∧ (s.removeVessel t).points.firstPair = s.points.firstPair
      ∧ (s.removeVessel t).points.pairLoss = s.points.pairLoss := by
  and_intros <;> (simp [State.removeVessel])

/-- The blocks `State.vesselPassage` leaves unchanged. -/
@[simp] theorem State.vesselPassage_frame (s : State) (d : Direction) :
    (s.vesselPassage d).power = s.power ∧ (s.vesselPassage d).now = s.now
      ∧ (s.vesselPassage d).pending = s.pending := by
  and_intros <;> (unfold State.vesselPassage; split <;> simp)
/-- What `State.vesselPassage` leaves unchanged of the Console Port. -/
@[simp] theorem State.vesselPassage_console (s : State) (d : Direction) :
    (s.vesselPassage d).console.ingress = s.console.ingress
      ∧ (s.vesselPassage d).console.arrivals = s.console.arrivals
      ∧ (s.vesselPassage d).console.restart = s.console.restart
      ∧ (s.vesselPassage d).console.receiver = s.console.receiver
      ∧ (s.vesselPassage d).console.line = s.console.line
      ∧ (s.vesselPassage d).console.counts = s.console.counts
      ∧ (s.vesselPassage d).console.sending = s.console.sending
      ∧ (s.vesselPassage d).console.ingressOverflows = s.console.ingressOverflows := by
  and_intros <;> (unfold State.vesselPassage; split <;> simp)
/-- What `State.vesselPassage` leaves unchanged of the Order Gate. -/
@[simp] theorem State.vesselPassage_gate (s : State) (d : Direction) :
    (s.vesselPassage d).gate.permits = s.gate.permits ∧ (s.vesselPassage d).gate.orders = s.gate.orders
      ∧ (s.vesselPassage d).gate.held = s.gate.held := by
  and_intros <;> (unfold State.vesselPassage; split <;> simp)
/-- What `State.vesselPassage` leaves unchanged of the Crossing Sequencer. -/
@[simp] theorem State.vesselPassage_seq (s : State) (d : Direction) :
    (s.vesselPassage d).seq.table = s.seq.table ∧ (s.vesselPassage d).seq.phase = s.seq.phase
      ∧ (s.vesselPassage d).seq.serial = s.seq.serial ∧ (s.vesselPassage d).seq.tracking = s.seq.tracking
      ∧ (s.vesselPassage d).seq.interrupted = s.seq.interrupted
      ∧ (s.vesselPassage d).seq.request = s.seq.request ∧ (s.vesselPassage d).seq.recovery = s.seq.recovery
      ∧ (s.vesselPassage d).seq.dwell = s.seq.dwell ∧ (s.vesselPassage d).seq.limit = s.seq.limit := by
  and_intros <;> (unfold State.vesselPassage; split <;> simp)
/-- What `State.vesselPassage` leaves unchanged of the Channel Controller. -/
@[simp] theorem State.vesselPassage_chan (s : State) (d : Direction) :
    (s.vesselPassage d).chan.record = s.chan.record ∧ (s.vesselPassage d).chan.closing = s.chan.closing
      ∧ (s.vesselPassage d).chan.phaseSeen = s.chan.phaseSeen
      ∧ (s.vesselPassage d).chan.greenTimer = s.chan.greenTimer
      ∧ (s.vesselPassage d).chan.changeoverTimer = s.chan.changeoverTimer
      ∧ (s.vesselPassage d).chan.greenExpired = s.chan.greenExpired
      ∧ (s.vesselPassage d).chan.ignoredCalls = s.chan.ignoredCalls
      ∧ (s.vesselPassage d).chan.badDirections = s.chan.badDirections := by
  and_intros <;> (unfold State.vesselPassage; split <;> simp)
/-- What `State.vesselPassage` leaves unchanged of the Condition Evaluator. -/
@[simp] theorem State.vesselPassage_cond (s : State) (d : Direction) :
    (s.vesselPassage d).cond.table = s.cond.table := by
  unfold State.vesselPassage; split <;> simp
/-- What `State.vesselPassage` leaves unchanged of the Field Engine. -/
@[simp] theorem State.vesselPassage_field (s : State) (d : Direction) :
    (s.vesselPassage d).field.scanList = s.field.scanList ∧ (s.vesselPassage d).field.tx = s.field.tx
      ∧ (s.vesselPassage d).field.link = s.field.link ∧ (s.vesselPassage d).field.nodes = s.field.nodes
      ∧ (s.vesselPassage d).field.counts = s.field.counts
      ∧ (s.vesselPassage d).field.receiver = s.field.receiver
      ∧ (s.vesselPassage d).field.line = s.field.line
      ∧ (s.vesselPassage d).field.arrivals = s.field.arrivals
      ∧ (s.vesselPassage d).field.contention = s.field.contention
      ∧ (s.vesselPassage d).field.credit = s.field.credit
      ∧ (s.vesselPassage d).field.scanMode = s.field.scanMode
      ∧ (s.vesselPassage d).field.echo = s.field.echo ∧ (s.vesselPassage d).field.nextTag = s.field.nextTag
      ∧ (s.vesselPassage d).field.trimA = s.field.trimA ∧ (s.vesselPassage d).field.trimB = s.field.trimB
      ∧ (s.vesselPassage d).field.stopA = s.field.stopA ∧ (s.vesselPassage d).field.stopB = s.field.stopB
      ∧ (s.vesselPassage d).field.pointer = s.field.pointer
      ∧ (s.vesselPassage d).field.cycle = s.field.cycle ∧ (s.vesselPassage d).field.sweep = s.field.sweep
      ∧ (s.vesselPassage d).field.replyTimeout = s.field.replyTimeout
      ∧ (s.vesselPassage d).field.silentLimit = s.field.silentLimit := by
  and_intros <;> (unfold State.vesselPassage; split <;> simp)
/-- What `State.vesselPassage` leaves unchanged of the Span Supervisor. -/
@[simp] theorem State.vesselPassage_span (s : State) (d : Direction) :
    (s.vesselPassage d).span.record = s.span.record
      ∧ (s.vesselPassage d).span.correction = s.span.correction
      ∧ (s.vesselPassage d).span.level = s.span.level ∧ (s.vesselPassage d).span.lastSkew = s.span.lastSkew
      ∧ (s.vesselPassage d).span.lastHold = s.span.lastHold
      ∧ (s.vesselPassage d).span.holdRunning = s.span.holdRunning
      ∧ (s.vesselPassage d).span.previous = s.span.previous
      ∧ (s.vesselPassage d).span.lastTrim = s.span.lastTrim
      ∧ (s.vesselPassage d).span.levelChanges = s.span.levelChanges := by
  and_intros <;> (unfold State.vesselPassage; split <;> simp)
/-- What `State.vesselPassage` leaves unchanged of the mode and the chain. -/
@[simp] theorem State.vesselPassage_unit (s : State) (d : Direction) :
    (s.vesselPassage d).unit.mode = s.unit.mode ∧ (s.vesselPassage d).unit.limits = s.unit.limits
      ∧ (s.vesselPassage d).unit.estop = s.unit.estop ∧ (s.vesselPassage d).unit.key = s.unit.key
      ∧ (s.vesselPassage d).unit.locked = s.unit.locked
      ∧ (s.vesselPassage d).unit.validation = s.unit.validation
      ∧ (s.vesselPassage d).unit.maintenancePending = s.unit.maintenancePending := by
  and_intros <;> (unfold State.vesselPassage; split <;> simp)
/-- What `State.vesselPassage` leaves unchanged of the Point Image. -/
@[simp] theorem State.vesselPassage_points (s : State) (d : Direction) :
    (s.vesselPassage d).points.map = s.points.map
      ∧ (s.vesselPassage d).points.firstPair = s.points.firstPair
      ∧ (s.vesselPassage d).points.pairLoss = s.points.pairLoss := by
  and_intros <;> (unfold State.vesselPassage; split <;> simp)

/-- The blocks `State.passages` leaves unchanged. -/
@[simp] theorem State.passages_frame (s : State) (c : ChangeSet) :
    (s.passages c).power = s.power ∧ (s.passages c).now = s.now ∧ (s.passages c).pending = s.pending := by
  and_intros <;> (unfold State.passages; dsimp only; (repeat' split) <;> (try simp))
/-- What `State.passages` leaves unchanged of the Console Port. -/
@[simp] theorem State.passages_console (s : State) (c : ChangeSet) :
    (s.passages c).console.ingress = s.console.ingress
      ∧ (s.passages c).console.arrivals = s.console.arrivals
      ∧ (s.passages c).console.restart = s.console.restart
      ∧ (s.passages c).console.receiver = s.console.receiver ∧ (s.passages c).console.line = s.console.line
      ∧ (s.passages c).console.counts = s.console.counts
      ∧ (s.passages c).console.sending = s.console.sending
      ∧ (s.passages c).console.ingressOverflows = s.console.ingressOverflows := by
  and_intros <;> (unfold State.passages; dsimp only; (repeat' split) <;> (try simp))
/-- What `State.passages` leaves unchanged of the Order Gate. -/
@[simp] theorem State.passages_gate (s : State) (c : ChangeSet) :
    (s.passages c).gate.permits = s.gate.permits ∧ (s.passages c).gate.orders = s.gate.orders
      ∧ (s.passages c).gate.held = s.gate.held := by
  and_intros <;> (unfold State.passages; dsimp only; (repeat' split) <;> (try simp))
/-- What `State.passages` leaves unchanged of the Crossing Sequencer. -/
@[simp] theorem State.passages_seq (s : State) (c : ChangeSet) :
    (s.passages c).seq.table = s.seq.table ∧ (s.passages c).seq.phase = s.seq.phase
      ∧ (s.passages c).seq.serial = s.seq.serial ∧ (s.passages c).seq.tracking = s.seq.tracking
      ∧ (s.passages c).seq.interrupted = s.seq.interrupted ∧ (s.passages c).seq.request = s.seq.request
      ∧ (s.passages c).seq.recovery = s.seq.recovery ∧ (s.passages c).seq.dwell = s.seq.dwell
      ∧ (s.passages c).seq.limit = s.seq.limit := by
  and_intros <;> (unfold State.passages; dsimp only; (repeat' split) <;> (try simp))
/-- What `State.passages` leaves unchanged of the Channel Controller. -/
@[simp] theorem State.passages_chan (s : State) (c : ChangeSet) :
    (s.passages c).chan.record = s.chan.record ∧ (s.passages c).chan.closing = s.chan.closing
      ∧ (s.passages c).chan.phaseSeen = s.chan.phaseSeen
      ∧ (s.passages c).chan.greenTimer = s.chan.greenTimer
      ∧ (s.passages c).chan.changeoverTimer = s.chan.changeoverTimer
      ∧ (s.passages c).chan.greenExpired = s.chan.greenExpired
      ∧ (s.passages c).chan.ignoredCalls = s.chan.ignoredCalls
      ∧ (s.passages c).chan.badDirections = s.chan.badDirections := by
  and_intros <;> (unfold State.passages; dsimp only; (repeat' split) <;> (try simp))
/-- What `State.passages` leaves unchanged of the Condition Evaluator. -/
@[simp] theorem State.passages_cond (s : State) (c : ChangeSet) :
    (s.passages c).cond.table = s.cond.table := by
  unfold State.passages; dsimp only; (repeat' split) <;> (try simp)
/-- What `State.passages` leaves unchanged of the Field Engine. -/
@[simp] theorem State.passages_field (s : State) (c : ChangeSet) :
    (s.passages c).field.scanList = s.field.scanList ∧ (s.passages c).field.tx = s.field.tx
      ∧ (s.passages c).field.link = s.field.link ∧ (s.passages c).field.nodes = s.field.nodes
      ∧ (s.passages c).field.counts = s.field.counts ∧ (s.passages c).field.receiver = s.field.receiver
      ∧ (s.passages c).field.line = s.field.line ∧ (s.passages c).field.arrivals = s.field.arrivals
      ∧ (s.passages c).field.contention = s.field.contention ∧ (s.passages c).field.credit = s.field.credit
      ∧ (s.passages c).field.scanMode = s.field.scanMode ∧ (s.passages c).field.echo = s.field.echo
      ∧ (s.passages c).field.nextTag = s.field.nextTag ∧ (s.passages c).field.trimA = s.field.trimA
      ∧ (s.passages c).field.trimB = s.field.trimB ∧ (s.passages c).field.stopA = s.field.stopA
      ∧ (s.passages c).field.stopB = s.field.stopB ∧ (s.passages c).field.pointer = s.field.pointer
      ∧ (s.passages c).field.cycle = s.field.cycle ∧ (s.passages c).field.sweep = s.field.sweep
      ∧ (s.passages c).field.replyTimeout = s.field.replyTimeout
      ∧ (s.passages c).field.silentLimit = s.field.silentLimit := by
  and_intros <;> (unfold State.passages; dsimp only; (repeat' split) <;> (try simp))
/-- What `State.passages` leaves unchanged of the Span Supervisor. -/
@[simp] theorem State.passages_span (s : State) (c : ChangeSet) :
    (s.passages c).span.record = s.span.record ∧ (s.passages c).span.correction = s.span.correction
      ∧ (s.passages c).span.level = s.span.level ∧ (s.passages c).span.lastSkew = s.span.lastSkew
      ∧ (s.passages c).span.lastHold = s.span.lastHold
      ∧ (s.passages c).span.holdRunning = s.span.holdRunning
      ∧ (s.passages c).span.previous = s.span.previous ∧ (s.passages c).span.lastTrim = s.span.lastTrim
      ∧ (s.passages c).span.levelChanges = s.span.levelChanges := by
  and_intros <;> (unfold State.passages; dsimp only; (repeat' split) <;> (try simp))
/-- What `State.passages` leaves unchanged of the mode and the chain. -/
@[simp] theorem State.passages_unit (s : State) (c : ChangeSet) :
    (s.passages c).unit.mode = s.unit.mode ∧ (s.passages c).unit.limits = s.unit.limits
      ∧ (s.passages c).unit.estop = s.unit.estop ∧ (s.passages c).unit.key = s.unit.key
      ∧ (s.passages c).unit.locked = s.unit.locked ∧ (s.passages c).unit.validation = s.unit.validation
      ∧ (s.passages c).unit.maintenancePending = s.unit.maintenancePending := by
  and_intros <;> (unfold State.passages; dsimp only; (repeat' split) <;> (try simp))
/-- What `State.passages` leaves unchanged of the Point Image. -/
@[simp] theorem State.passages_points (s : State) (c : ChangeSet) :
    (s.passages c).points.map = s.points.map ∧ (s.passages c).points.firstPair = s.points.firstPair
      ∧ (s.passages c).points.pairLoss = s.points.pairLoss := by
  and_intros <;> (unfold State.passages; dsimp only; (repeat' split) <;> (try simp))

end Sys2Proof.Machine
end

