-- ==== Sys2Proof/Laws/FramesCrossing.lean ====
section
/-! SUPPORT. What each shared operation of the Crossing Sequencer and the mode and chain leaves
unchanged, field by field: the provers cite these lemmas instead of unfolding the operation. -/

namespace Sys2Proof.Machine

set_option linter.all false
set_option Elab.async false

/-- The blocks `State.modeBase` leaves unchanged. -/
@[simp] theorem State.modeBase_frame (s : State) (m : Mode) :
    (s.modeBase m).power = s.power ∧ (s.modeBase m).now = s.now ∧ (s.modeBase m).pending = s.pending
      ∧ (s.modeBase m).field = s.field ∧ (s.modeBase m).span = s.span := by
  and_intros <;> (simp [State.modeBase, ModeChain.settleChain])
/-- What `State.modeBase` leaves unchanged of the Console Port. -/
@[simp] theorem State.modeBase_console (s : State) (m : Mode) :
    (s.modeBase m).console.ingress = s.console.ingress
      ∧ (s.modeBase m).console.arrivals = s.console.arrivals
      ∧ (s.modeBase m).console.restart = s.console.restart
      ∧ (s.modeBase m).console.receiver = s.console.receiver ∧ (s.modeBase m).console.line = s.console.line
      ∧ (s.modeBase m).console.counts = s.console.counts
      ∧ (s.modeBase m).console.sending = s.console.sending
      ∧ (s.modeBase m).console.ingressOverflows = s.console.ingressOverflows := by
  and_intros <;> (simp [State.modeBase, ModeChain.settleChain])
/-- What `State.modeBase` leaves unchanged of the Order Gate. -/
@[simp] theorem State.modeBase_gate (s : State) (m : Mode) :
    (s.modeBase m).gate.permits = s.gate.permits ∧ (s.modeBase m).gate.orders = s.gate.orders
      ∧ (s.modeBase m).gate.held = s.gate.held ∧ (s.modeBase m).gate.own = s.gate.own
      ∧ (s.modeBase m).gate.standdowns = s.gate.standdowns := by
  and_intros <;> (simp [State.modeBase, ModeChain.settleChain])
/-- What `State.modeBase` leaves unchanged of the Crossing Sequencer. -/
@[simp] theorem State.modeBase_seq (s : State) (m : Mode) :
    (s.modeBase m).seq.table = s.seq.table ∧ (s.modeBase m).seq.phase = s.seq.phase
      ∧ (s.modeBase m).seq.standdowns = s.seq.standdowns ∧ (s.modeBase m).seq.serial = s.seq.serial
      ∧ (s.modeBase m).seq.tracking = s.seq.tracking ∧ (s.modeBase m).seq.interrupted = s.seq.interrupted
      ∧ (s.modeBase m).seq.request = s.seq.request ∧ (s.modeBase m).seq.recovery = s.seq.recovery
      ∧ (s.modeBase m).seq.dwell = s.seq.dwell ∧ (s.modeBase m).seq.limit = s.seq.limit := by
  and_intros <;> (simp [State.modeBase, ModeChain.settleChain])
/-- What `State.modeBase` leaves unchanged of the Channel Controller. -/
@[simp] theorem State.modeBase_chan (s : State) (m : Mode) :
    (s.modeBase m).chan.record = s.chan.record ∧ (s.modeBase m).chan.vessels = s.chan.vessels
      ∧ (s.modeBase m).chan.state = s.chan.state ∧ (s.modeBase m).chan.north = s.chan.north
      ∧ (s.modeBase m).chan.south = s.chan.south ∧ (s.modeBase m).chan.closing = s.chan.closing
      ∧ (s.modeBase m).chan.phaseSeen = s.chan.phaseSeen
      ∧ (s.modeBase m).chan.standdowns = s.chan.standdowns
      ∧ (s.modeBase m).chan.changeoverPending = s.chan.changeoverPending
      ∧ (s.modeBase m).chan.greenTimer = s.chan.greenTimer
      ∧ (s.modeBase m).chan.changeoverTimer = s.chan.changeoverTimer
      ∧ (s.modeBase m).chan.retryTimer = s.chan.retryTimer
      ∧ (s.modeBase m).chan.greenExpired = s.chan.greenExpired
      ∧ (s.modeBase m).chan.ignoredCalls = s.chan.ignoredCalls
      ∧ (s.modeBase m).chan.badDirections = s.chan.badDirections
      ∧ (s.modeBase m).chan.unexpectedPassages = s.chan.unexpectedPassages := by
  and_intros <;> (simp [State.modeBase, ModeChain.settleChain])
/-- What `State.modeBase` leaves unchanged of the Condition Evaluator. -/
@[simp] theorem State.modeBase_cond (s : State) (m : Mode) :
    (s.modeBase m).cond.table = s.cond.table ∧ (s.modeBase m).cond.counterChanges = s.cond.counterChanges := by
  and_intros <;> (simp [State.modeBase, ModeChain.settleChain])
/-- What `State.modeBase` leaves unchanged of the mode and the chain. -/
@[simp] theorem State.modeBase_unit (s : State) (m : Mode) :
    (s.modeBase m).unit.causes = s.unit.causes ∧ (s.modeBase m).unit.limits = s.unit.limits
      ∧ (s.modeBase m).unit.estop = s.unit.estop ∧ (s.modeBase m).unit.key = s.unit.key
      ∧ (s.modeBase m).unit.locked = s.unit.locked ∧ (s.modeBase m).unit.validation = s.unit.validation
      ∧ (s.modeBase m).unit.firstCause = s.unit.firstCause := by
  and_intros <;> (simp [State.modeBase, ModeChain.settleChain])
/-- What `State.modeBase` leaves unchanged of the Point Image. -/
@[simp] theorem State.modeBase_points (s : State) (m : Mode) :
    (s.modeBase m).points.map = s.points.map ∧ (s.modeBase m).points.firstPair = s.points.firstPair
      ∧ (s.modeBase m).points.pairLoss = s.points.pairLoss := by
  and_intros <;> (simp [State.modeBase, ModeChain.settleChain])
/-- What `State.modeBase` leaves unchanged of the Duty Counter Unit. -/
@[simp] theorem State.modeBase_duty (s : State) (m : Mode) :
    (s.modeBase m).duty.residency = s.duty.residency ∧ (s.modeBase m).duty.occupancy = s.duty.occupancy
      ∧ (s.modeBase m).duty.standing = s.duty.standing ∧ (s.modeBase m).duty.phase = s.duty.phase
      ∧ (s.modeBase m).duty.frozen = s.duty.frozen ∧ (s.modeBase m).duty.bands = s.duty.bands
      ∧ (s.modeBase m).duty.counters = s.duty.counters := by
  and_intros <;> (simp [State.modeBase, ModeChain.settleChain])

/-- The blocks `State.phaseBase` leaves unchanged. -/
@[simp] theorem State.phaseBase_frame (s : State) (p : Phase) (c : PhaseCause) :
    (s.phaseBase p c).power = s.power ∧ (s.phaseBase p c).now = s.now
      ∧ (s.phaseBase p c).pending = s.pending ∧ (s.phaseBase p c).field = s.field
      ∧ (s.phaseBase p c).span = s.span ∧ (s.phaseBase p c).unit = s.unit := by
  and_intros <;> (simp [State.phaseBase])
/-- What `State.phaseBase` leaves unchanged of the Console Port. -/
@[simp] theorem State.phaseBase_console (s : State) (p : Phase) (c : PhaseCause) :
    (s.phaseBase p c).console.ingress = s.console.ingress
      ∧ (s.phaseBase p c).console.arrivals = s.console.arrivals
      ∧ (s.phaseBase p c).console.restart = s.console.restart
      ∧ (s.phaseBase p c).console.receiver = s.console.receiver
      ∧ (s.phaseBase p c).console.line = s.console.line
      ∧ (s.phaseBase p c).console.counts = s.console.counts
      ∧ (s.phaseBase p c).console.sending = s.console.sending
      ∧ (s.phaseBase p c).console.ingressOverflows = s.console.ingressOverflows := by
  and_intros <;> (simp [State.phaseBase])
/-- What `State.phaseBase` leaves unchanged of the Order Gate. -/
@[simp] theorem State.phaseBase_gate (s : State) (p : Phase) (c : PhaseCause) :
    (s.phaseBase p c).gate.permits = s.gate.permits ∧ (s.phaseBase p c).gate.orders = s.gate.orders
      ∧ (s.phaseBase p c).gate.held = s.gate.held ∧ (s.phaseBase p c).gate.own = s.gate.own
      ∧ (s.phaseBase p c).gate.standdowns = s.gate.standdowns := by
  and_intros <;> (simp [State.phaseBase])
/-- What `State.phaseBase` leaves unchanged of the Crossing Sequencer. -/
@[simp] theorem State.phaseBase_seq (s : State) (p : Phase) (c : PhaseCause) :
    (s.phaseBase p c).seq.table = s.seq.table ∧ (s.phaseBase p c).seq.standdowns = s.seq.standdowns
      ∧ (s.phaseBase p c).seq.serial = s.seq.serial ∧ (s.phaseBase p c).seq.tracking = s.seq.tracking
      ∧ (s.phaseBase p c).seq.interrupted = s.seq.interrupted
      ∧ (s.phaseBase p c).seq.request = s.seq.request ∧ (s.phaseBase p c).seq.recovery = s.seq.recovery
      ∧ (s.phaseBase p c).seq.dwell = s.seq.dwell ∧ (s.phaseBase p c).seq.limit = s.seq.limit := by
  and_intros <;> (simp [State.phaseBase])
/-- What `State.phaseBase` leaves unchanged of the Channel Controller. -/
@[simp] theorem State.phaseBase_chan (s : State) (p : Phase) (c : PhaseCause) :
    (s.phaseBase p c).chan.record = s.chan.record ∧ (s.phaseBase p c).chan.vessels = s.chan.vessels
      ∧ (s.phaseBase p c).chan.state = s.chan.state ∧ (s.phaseBase p c).chan.north = s.chan.north
      ∧ (s.phaseBase p c).chan.south = s.chan.south ∧ (s.phaseBase p c).chan.closing = s.chan.closing
      ∧ (s.phaseBase p c).chan.phaseSeen = s.chan.phaseSeen
      ∧ (s.phaseBase p c).chan.standdowns = s.chan.standdowns
      ∧ (s.phaseBase p c).chan.changeoverPending = s.chan.changeoverPending
      ∧ (s.phaseBase p c).chan.greenTimer = s.chan.greenTimer
      ∧ (s.phaseBase p c).chan.changeoverTimer = s.chan.changeoverTimer
      ∧ (s.phaseBase p c).chan.retryTimer = s.chan.retryTimer
      ∧ (s.phaseBase p c).chan.greenExpired = s.chan.greenExpired
      ∧ (s.phaseBase p c).chan.ignoredCalls = s.chan.ignoredCalls
      ∧ (s.phaseBase p c).chan.badDirections = s.chan.badDirections
      ∧ (s.phaseBase p c).chan.unexpectedPassages = s.chan.unexpectedPassages := by
  and_intros <;> (simp [State.phaseBase])
/-- What `State.phaseBase` leaves unchanged of the Condition Evaluator. -/
@[simp] theorem State.phaseBase_cond (s : State) (p : Phase) (c : PhaseCause) :
    (s.phaseBase p c).cond.table = s.cond.table := by
  simp [State.phaseBase]
/-- What `State.phaseBase` leaves unchanged of the Point Image. -/
@[simp] theorem State.phaseBase_points (s : State) (p : Phase) (c : PhaseCause) :
    (s.phaseBase p c).points.map = s.points.map ∧ (s.phaseBase p c).points.firstPair = s.points.firstPair
      ∧ (s.phaseBase p c).points.pairLoss = s.points.pairLoss := by
  and_intros <;> (simp [State.phaseBase])

/-- The blocks `State.channelPhase` leaves unchanged. -/
@[simp] theorem State.channelPhase_frame (s : State) (p : Phase) :
    (s.channelPhase p).power = s.power ∧ (s.channelPhase p).now = s.now
      ∧ (s.channelPhase p).pending = s.pending := by
  and_intros <;> (unfold State.channelPhase; dsimp only; split <;> simp)
/-- What `State.channelPhase` leaves unchanged of the Console Port. -/
@[simp] theorem State.channelPhase_console (s : State) (p : Phase) :
    (s.channelPhase p).console.ingress = s.console.ingress
      ∧ (s.channelPhase p).console.arrivals = s.console.arrivals
      ∧ (s.channelPhase p).console.restart = s.console.restart
      ∧ (s.channelPhase p).console.receiver = s.console.receiver
      ∧ (s.channelPhase p).console.line = s.console.line
      ∧ (s.channelPhase p).console.counts = s.console.counts
      ∧ (s.channelPhase p).console.sending = s.console.sending
      ∧ (s.channelPhase p).console.ingressOverflows = s.console.ingressOverflows := by
  and_intros <;> (unfold State.channelPhase; dsimp only; split <;> simp)
/-- What `State.channelPhase` leaves unchanged of the Order Gate. -/
@[simp] theorem State.channelPhase_gate (s : State) (p : Phase) :
    (s.channelPhase p).gate.permits = s.gate.permits ∧ (s.channelPhase p).gate.orders = s.gate.orders
      ∧ (s.channelPhase p).gate.held = s.gate.held := by
  and_intros <;> (unfold State.channelPhase; dsimp only; split <;> simp)
/-- What `State.channelPhase` leaves unchanged of the Crossing Sequencer. -/
@[simp] theorem State.channelPhase_seq (s : State) (p : Phase) :
    (s.channelPhase p).seq.table = s.seq.table ∧ (s.channelPhase p).seq.phase = s.seq.phase
      ∧ (s.channelPhase p).seq.serial = s.seq.serial ∧ (s.channelPhase p).seq.tracking = s.seq.tracking
      ∧ (s.channelPhase p).seq.interrupted = s.seq.interrupted
      ∧ (s.channelPhase p).seq.request = s.seq.request ∧ (s.channelPhase p).seq.recovery = s.seq.recovery
      ∧ (s.channelPhase p).seq.dwell = s.seq.dwell ∧ (s.channelPhase p).seq.limit = s.seq.limit := by
  and_intros <;> (unfold State.channelPhase; dsimp only; split <;> simp)
/-- What `State.channelPhase` leaves unchanged of the Channel Controller. -/
@[simp] theorem State.channelPhase_chan (s : State) (p : Phase) :
    (s.channelPhase p).chan.record = s.chan.record
      ∧ (s.channelPhase p).chan.ignoredCalls = s.chan.ignoredCalls
      ∧ (s.channelPhase p).chan.badDirections = s.chan.badDirections
      ∧ (s.channelPhase p).chan.unexpectedPassages = s.chan.unexpectedPassages := by
  and_intros <;> (unfold State.channelPhase; dsimp only; split <;> simp)
/-- What `State.channelPhase` leaves unchanged of the Condition Evaluator. -/
@[simp] theorem State.channelPhase_cond (s : State) (p : Phase) :
    (s.channelPhase p).cond.table = s.cond.table := by
  unfold State.channelPhase; dsimp only; split <;> simp
/-- What `State.channelPhase` leaves unchanged of the Field Engine. -/
@[simp] theorem State.channelPhase_field (s : State) (p : Phase) :
    (s.channelPhase p).field.scanList = s.field.scanList ∧ (s.channelPhase p).field.tx = s.field.tx
      ∧ (s.channelPhase p).field.link = s.field.link ∧ (s.channelPhase p).field.nodes = s.field.nodes
      ∧ (s.channelPhase p).field.counts = s.field.counts
      ∧ (s.channelPhase p).field.receiver = s.field.receiver ∧ (s.channelPhase p).field.line = s.field.line
      ∧ (s.channelPhase p).field.arrivals = s.field.arrivals
      ∧ (s.channelPhase p).field.contention = s.field.contention
      ∧ (s.channelPhase p).field.credit = s.field.credit
      ∧ (s.channelPhase p).field.scanMode = s.field.scanMode ∧ (s.channelPhase p).field.echo = s.field.echo
      ∧ (s.channelPhase p).field.nextTag = s.field.nextTag ∧ (s.channelPhase p).field.trimA = s.field.trimA
      ∧ (s.channelPhase p).field.trimB = s.field.trimB ∧ (s.channelPhase p).field.stopA = s.field.stopA
      ∧ (s.channelPhase p).field.stopB = s.field.stopB ∧ (s.channelPhase p).field.pointer = s.field.pointer
      ∧ (s.channelPhase p).field.cycle = s.field.cycle ∧ (s.channelPhase p).field.sweep = s.field.sweep
      ∧ (s.channelPhase p).field.replyTimeout = s.field.replyTimeout
      ∧ (s.channelPhase p).field.silentLimit = s.field.silentLimit := by
  and_intros <;> (unfold State.channelPhase; dsimp only; split <;> simp)
/-- What `State.channelPhase` leaves unchanged of the Span Supervisor. -/
@[simp] theorem State.channelPhase_span (s : State) (p : Phase) :
    (s.channelPhase p).span.record = s.span.record ∧ (s.channelPhase p).span.correction = s.span.correction
      ∧ (s.channelPhase p).span.level = s.span.level ∧ (s.channelPhase p).span.lastSkew = s.span.lastSkew
      ∧ (s.channelPhase p).span.lastHold = s.span.lastHold
      ∧ (s.channelPhase p).span.holdRunning = s.span.holdRunning
      ∧ (s.channelPhase p).span.previous = s.span.previous
      ∧ (s.channelPhase p).span.lastTrim = s.span.lastTrim
      ∧ (s.channelPhase p).span.levelChanges = s.span.levelChanges := by
  and_intros <;> (unfold State.channelPhase; dsimp only; split <;> simp)
/-- What `State.channelPhase` leaves unchanged of the mode and the chain. -/
@[simp] theorem State.channelPhase_unit (s : State) (p : Phase) :
    (s.channelPhase p).unit.mode = s.unit.mode ∧ (s.channelPhase p).unit.limits = s.unit.limits
      ∧ (s.channelPhase p).unit.estop = s.unit.estop ∧ (s.channelPhase p).unit.key = s.unit.key
      ∧ (s.channelPhase p).unit.locked = s.unit.locked
      ∧ (s.channelPhase p).unit.validation = s.unit.validation
      ∧ (s.channelPhase p).unit.maintenancePending = s.unit.maintenancePending := by
  and_intros <;> (unfold State.channelPhase; dsimp only; split <;> simp)
/-- What `State.channelPhase` leaves unchanged of the Point Image. -/
@[simp] theorem State.channelPhase_points (s : State) (p : Phase) :
    (s.channelPhase p).points.map = s.points.map ∧ (s.channelPhase p).points.firstPair = s.points.firstPair
      ∧ (s.channelPhase p).points.pairLoss = s.points.pairLoss := by
  and_intros <;> (unfold State.channelPhase; dsimp only; split <;> simp)

/-- The blocks `State.sequencerInactive` leaves unchanged. -/
@[simp] theorem State.sequencerInactive_frame (s : State) :
    (s.sequencerInactive).power = s.power ∧ (s.sequencerInactive).now = s.now
      ∧ (s.sequencerInactive).pending = s.pending := by
  and_intros <;> (unfold State.sequencerInactive State.channelEvent; (try dsimp only [id]); (repeat' split) <;> (try simp))
/-- What `State.sequencerInactive` leaves unchanged of the Console Port. -/
@[simp] theorem State.sequencerInactive_console (s : State) :
    (s.sequencerInactive).console.ingress = s.console.ingress
      ∧ (s.sequencerInactive).console.arrivals = s.console.arrivals
      ∧ (s.sequencerInactive).console.restart = s.console.restart
      ∧ (s.sequencerInactive).console.receiver = s.console.receiver
      ∧ (s.sequencerInactive).console.line = s.console.line
      ∧ (s.sequencerInactive).console.counts = s.console.counts
      ∧ (s.sequencerInactive).console.sending = s.console.sending
      ∧ (s.sequencerInactive).console.ingressOverflows = s.console.ingressOverflows := by
  and_intros <;> (unfold State.sequencerInactive State.channelEvent; (try dsimp only [id]); (repeat' split) <;> (try simp))
/-- What `State.sequencerInactive` leaves unchanged of the Order Gate. -/
@[simp] theorem State.sequencerInactive_gate (s : State) :
    (s.sequencerInactive).gate.permits = s.gate.permits ∧ (s.sequencerInactive).gate.orders = s.gate.orders
      ∧ (s.sequencerInactive).gate.held = s.gate.held := by
  and_intros <;> (unfold State.sequencerInactive State.channelEvent; (try dsimp only [id]); (repeat' split) <;> (try simp))
/-- What `State.sequencerInactive` leaves unchanged of the Crossing Sequencer. -/
@[simp] theorem State.sequencerInactive_seq (s : State) :
    (s.sequencerInactive).seq.table = s.seq.table ∧ (s.sequencerInactive).seq.serial = s.seq.serial := by
  and_intros <;> (unfold State.sequencerInactive State.channelEvent; (try dsimp only [id]); (repeat' split) <;> (try simp))
/-- What `State.sequencerInactive` leaves unchanged of the Channel Controller. -/
@[simp] theorem State.sequencerInactive_chan (s : State) :
    (s.sequencerInactive).chan.record = s.chan.record
      ∧ (s.sequencerInactive).chan.ignoredCalls = s.chan.ignoredCalls
      ∧ (s.sequencerInactive).chan.badDirections = s.chan.badDirections
      ∧ (s.sequencerInactive).chan.unexpectedPassages = s.chan.unexpectedPassages := by
  and_intros <;> (unfold State.sequencerInactive State.channelEvent; (try dsimp only [id]); (repeat' split) <;> (try simp))
/-- What `State.sequencerInactive` leaves unchanged of the Condition Evaluator. -/
@[simp] theorem State.sequencerInactive_cond (s : State) :
    (s.sequencerInactive).cond.table = s.cond.table := by
  unfold State.sequencerInactive State.channelEvent; (try dsimp only [id]); (repeat' split) <;> (try simp)
/-- What `State.sequencerInactive` leaves unchanged of the Field Engine. -/
@[simp] theorem State.sequencerInactive_field (s : State) :
    (s.sequencerInactive).field.scanList = s.field.scanList ∧ (s.sequencerInactive).field.tx = s.field.tx
      ∧ (s.sequencerInactive).field.link = s.field.link ∧ (s.sequencerInactive).field.nodes = s.field.nodes
      ∧ (s.sequencerInactive).field.counts = s.field.counts
      ∧ (s.sequencerInactive).field.receiver = s.field.receiver
      ∧ (s.sequencerInactive).field.line = s.field.line
      ∧ (s.sequencerInactive).field.arrivals = s.field.arrivals
      ∧ (s.sequencerInactive).field.contention = s.field.contention
      ∧ (s.sequencerInactive).field.credit = s.field.credit
      ∧ (s.sequencerInactive).field.scanMode = s.field.scanMode
      ∧ (s.sequencerInactive).field.echo = s.field.echo
      ∧ (s.sequencerInactive).field.nextTag = s.field.nextTag
      ∧ (s.sequencerInactive).field.trimA = s.field.trimA
      ∧ (s.sequencerInactive).field.trimB = s.field.trimB
      ∧ (s.sequencerInactive).field.stopA = s.field.stopA
      ∧ (s.sequencerInactive).field.stopB = s.field.stopB
      ∧ (s.sequencerInactive).field.pointer = s.field.pointer
      ∧ (s.sequencerInactive).field.cycle = s.field.cycle
      ∧ (s.sequencerInactive).field.sweep = s.field.sweep
      ∧ (s.sequencerInactive).field.replyTimeout = s.field.replyTimeout
      ∧ (s.sequencerInactive).field.silentLimit = s.field.silentLimit := by
  and_intros <;> (unfold State.sequencerInactive State.channelEvent; (try dsimp only [id]); (repeat' split) <;> (try simp))
/-- What `State.sequencerInactive` leaves unchanged of the Span Supervisor. -/
@[simp] theorem State.sequencerInactive_span (s : State) :
    (s.sequencerInactive).span.record = s.span.record
      ∧ (s.sequencerInactive).span.correction = s.span.correction
      ∧ (s.sequencerInactive).span.level = s.span.level
      ∧ (s.sequencerInactive).span.lastSkew = s.span.lastSkew
      ∧ (s.sequencerInactive).span.lastHold = s.span.lastHold
      ∧ (s.sequencerInactive).span.holdRunning = s.span.holdRunning
      ∧ (s.sequencerInactive).span.previous = s.span.previous
      ∧ (s.sequencerInactive).span.lastTrim = s.span.lastTrim
      ∧ (s.sequencerInactive).span.levelChanges = s.span.levelChanges := by
  and_intros <;> (unfold State.sequencerInactive State.channelEvent; (try dsimp only [id]); (repeat' split) <;> (try simp))
/-- What `State.sequencerInactive` leaves unchanged of the mode and the chain. -/
@[simp] theorem State.sequencerInactive_unit (s : State) :
    (s.sequencerInactive).unit.mode = s.unit.mode ∧ (s.sequencerInactive).unit.limits = s.unit.limits
      ∧ (s.sequencerInactive).unit.estop = s.unit.estop ∧ (s.sequencerInactive).unit.key = s.unit.key
      ∧ (s.sequencerInactive).unit.locked = s.unit.locked
      ∧ (s.sequencerInactive).unit.validation = s.unit.validation
      ∧ (s.sequencerInactive).unit.maintenancePending = s.unit.maintenancePending := by
  and_intros <;> (unfold State.sequencerInactive State.channelEvent; (try dsimp only [id]); (repeat' split) <;> (try simp))
/-- What `State.sequencerInactive` leaves unchanged of the Point Image. -/
@[simp] theorem State.sequencerInactive_points (s : State) :
    (s.sequencerInactive).points.map = s.points.map
      ∧ (s.sequencerInactive).points.firstPair = s.points.firstPair
      ∧ (s.sequencerInactive).points.pairLoss = s.points.pairLoss := by
  and_intros <;> (unfold State.sequencerInactive State.channelEvent; (try dsimp only [id]); (repeat' split) <;> (try simp))

/-- The blocks `State.enterMaintenance` leaves unchanged. -/
@[simp] theorem State.enterMaintenance_frame (s : State) :
    (s.enterMaintenance).power = s.power ∧ (s.enterMaintenance).now = s.now
      ∧ (s.enterMaintenance).pending = s.pending := by
  and_intros <;> (unfold State.enterMaintenance State.channelEvent; (try dsimp only [id]); (repeat' split) <;> (try simp))
/-- What `State.enterMaintenance` leaves unchanged of the Console Port. -/
@[simp] theorem State.enterMaintenance_console (s : State) :
    (s.enterMaintenance).console.ingress = s.console.ingress
      ∧ (s.enterMaintenance).console.arrivals = s.console.arrivals
      ∧ (s.enterMaintenance).console.restart = s.console.restart
      ∧ (s.enterMaintenance).console.receiver = s.console.receiver
      ∧ (s.enterMaintenance).console.line = s.console.line
      ∧ (s.enterMaintenance).console.counts = s.console.counts
      ∧ (s.enterMaintenance).console.sending = s.console.sending
      ∧ (s.enterMaintenance).console.ingressOverflows = s.console.ingressOverflows := by
  and_intros <;> (unfold State.enterMaintenance State.channelEvent; (try dsimp only [id]); (repeat' split) <;> (try simp))
/-- What `State.enterMaintenance` leaves unchanged of the Order Gate. -/
@[simp] theorem State.enterMaintenance_gate (s : State) :
    (s.enterMaintenance).gate.permits = s.gate.permits ∧ (s.enterMaintenance).gate.orders = s.gate.orders
      ∧ (s.enterMaintenance).gate.held = s.gate.held := by
  and_intros <;> (unfold State.enterMaintenance State.channelEvent; (try dsimp only [id]); (repeat' split) <;> (try simp))
/-- What `State.enterMaintenance` leaves unchanged of the Crossing Sequencer. -/
@[simp] theorem State.enterMaintenance_seq (s : State) :
    (s.enterMaintenance).seq.table = s.seq.table ∧ (s.enterMaintenance).seq.serial = s.seq.serial := by
  and_intros <;> (unfold State.enterMaintenance State.channelEvent; (try dsimp only [id]); (repeat' split) <;> (try simp))
/-- What `State.enterMaintenance` leaves unchanged of the Channel Controller. -/
@[simp] theorem State.enterMaintenance_chan (s : State) :
    (s.enterMaintenance).chan.record = s.chan.record
      ∧ (s.enterMaintenance).chan.ignoredCalls = s.chan.ignoredCalls
      ∧ (s.enterMaintenance).chan.badDirections = s.chan.badDirections
      ∧ (s.enterMaintenance).chan.unexpectedPassages = s.chan.unexpectedPassages := by
  and_intros <;> (unfold State.enterMaintenance State.channelEvent; (try dsimp only [id]); (repeat' split) <;> (try simp))
/-- What `State.enterMaintenance` leaves unchanged of the Condition Evaluator. -/
@[simp] theorem State.enterMaintenance_cond (s : State) :
    (s.enterMaintenance).cond.table = s.cond.table := by
  unfold State.enterMaintenance State.channelEvent; (try dsimp only [id]); (repeat' split) <;> (try simp)
/-- What `State.enterMaintenance` leaves unchanged of the Field Engine. -/
@[simp] theorem State.enterMaintenance_field (s : State) :
    (s.enterMaintenance).field.scanList = s.field.scanList ∧ (s.enterMaintenance).field.tx = s.field.tx
      ∧ (s.enterMaintenance).field.link = s.field.link ∧ (s.enterMaintenance).field.nodes = s.field.nodes
      ∧ (s.enterMaintenance).field.counts = s.field.counts
      ∧ (s.enterMaintenance).field.receiver = s.field.receiver
      ∧ (s.enterMaintenance).field.line = s.field.line
      ∧ (s.enterMaintenance).field.arrivals = s.field.arrivals
      ∧ (s.enterMaintenance).field.contention = s.field.contention
      ∧ (s.enterMaintenance).field.credit = s.field.credit
      ∧ (s.enterMaintenance).field.scanMode = s.field.scanMode
      ∧ (s.enterMaintenance).field.echo = s.field.echo
      ∧ (s.enterMaintenance).field.nextTag = s.field.nextTag
      ∧ (s.enterMaintenance).field.trimA = s.field.trimA ∧ (s.enterMaintenance).field.trimB = s.field.trimB
      ∧ (s.enterMaintenance).field.stopA = s.field.stopA ∧ (s.enterMaintenance).field.stopB = s.field.stopB
      ∧ (s.enterMaintenance).field.pointer = s.field.pointer
      ∧ (s.enterMaintenance).field.cycle = s.field.cycle ∧ (s.enterMaintenance).field.sweep = s.field.sweep
      ∧ (s.enterMaintenance).field.replyTimeout = s.field.replyTimeout
      ∧ (s.enterMaintenance).field.silentLimit = s.field.silentLimit := by
  and_intros <;> (unfold State.enterMaintenance State.channelEvent; (try dsimp only [id]); (repeat' split) <;> (try simp))
/-- What `State.enterMaintenance` leaves unchanged of the Span Supervisor. -/
@[simp] theorem State.enterMaintenance_span (s : State) :
    (s.enterMaintenance).span.record = s.span.record
      ∧ (s.enterMaintenance).span.correction = s.span.correction
      ∧ (s.enterMaintenance).span.level = s.span.level
      ∧ (s.enterMaintenance).span.lastSkew = s.span.lastSkew
      ∧ (s.enterMaintenance).span.lastHold = s.span.lastHold
      ∧ (s.enterMaintenance).span.holdRunning = s.span.holdRunning
      ∧ (s.enterMaintenance).span.previous = s.span.previous
      ∧ (s.enterMaintenance).span.lastTrim = s.span.lastTrim
      ∧ (s.enterMaintenance).span.levelChanges = s.span.levelChanges := by
  and_intros <;> (unfold State.enterMaintenance State.channelEvent; (try dsimp only [id]); (repeat' split) <;> (try simp))
/-- What `State.enterMaintenance` leaves unchanged of the mode and the chain. -/
@[simp] theorem State.enterMaintenance_unit (s : State) :
    (s.enterMaintenance).unit.limits = s.unit.limits ∧ (s.enterMaintenance).unit.estop = s.unit.estop
      ∧ (s.enterMaintenance).unit.key = s.unit.key ∧ (s.enterMaintenance).unit.locked = s.unit.locked
      ∧ (s.enterMaintenance).unit.validation = s.unit.validation := by
  and_intros <;> (unfold State.enterMaintenance State.channelEvent; (try dsimp only [id]); (repeat' split) <;> (try simp))
/-- What `State.enterMaintenance` leaves unchanged of the Point Image. -/
@[simp] theorem State.enterMaintenance_points (s : State) :
    (s.enterMaintenance).points.map = s.points.map
      ∧ (s.enterMaintenance).points.firstPair = s.points.firstPair
      ∧ (s.enterMaintenance).points.pairLoss = s.points.pairLoss := by
  and_intros <;> (unfold State.enterMaintenance State.channelEvent; (try dsimp only [id]); (repeat' split) <;> (try simp))

/-- The blocks `State.phaseHandMode` leaves unchanged. -/
@[simp] theorem State.phaseHandMode_frame (s : State) (p : Phase) :
    (s.phaseHandMode p).power = s.power ∧ (s.phaseHandMode p).now = s.now
      ∧ (s.phaseHandMode p).pending = s.pending := by
  and_intros <;> (unfold State.phaseHandMode; split <;> (try simp))
/-- What `State.phaseHandMode` leaves unchanged of the Console Port. -/
@[simp] theorem State.phaseHandMode_console (s : State) (p : Phase) :
    (s.phaseHandMode p).console.ingress = s.console.ingress
      ∧ (s.phaseHandMode p).console.arrivals = s.console.arrivals
      ∧ (s.phaseHandMode p).console.restart = s.console.restart
      ∧ (s.phaseHandMode p).console.receiver = s.console.receiver
      ∧ (s.phaseHandMode p).console.line = s.console.line
      ∧ (s.phaseHandMode p).console.counts = s.console.counts
      ∧ (s.phaseHandMode p).console.sending = s.console.sending
      ∧ (s.phaseHandMode p).console.ingressOverflows = s.console.ingressOverflows := by
  and_intros <;> (unfold State.phaseHandMode; split <;> (try simp))
/-- What `State.phaseHandMode` leaves unchanged of the Order Gate. -/
@[simp] theorem State.phaseHandMode_gate (s : State) (p : Phase) :
    (s.phaseHandMode p).gate.permits = s.gate.permits ∧ (s.phaseHandMode p).gate.orders = s.gate.orders
      ∧ (s.phaseHandMode p).gate.held = s.gate.held := by
  and_intros <;> (unfold State.phaseHandMode; split <;> (try simp))
/-- What `State.phaseHandMode` leaves unchanged of the Crossing Sequencer. -/
@[simp] theorem State.phaseHandMode_seq (s : State) (p : Phase) :
    (s.phaseHandMode p).seq.table = s.seq.table ∧ (s.phaseHandMode p).seq.serial = s.seq.serial := by
  and_intros <;> (unfold State.phaseHandMode; split <;> (try simp))
/-- What `State.phaseHandMode` leaves unchanged of the Channel Controller. -/
@[simp] theorem State.phaseHandMode_chan (s : State) (p : Phase) :
    (s.phaseHandMode p).chan.record = s.chan.record
      ∧ (s.phaseHandMode p).chan.ignoredCalls = s.chan.ignoredCalls
      ∧ (s.phaseHandMode p).chan.badDirections = s.chan.badDirections
      ∧ (s.phaseHandMode p).chan.unexpectedPassages = s.chan.unexpectedPassages := by
  and_intros <;> (unfold State.phaseHandMode; split <;> (try simp))
/-- What `State.phaseHandMode` leaves unchanged of the Condition Evaluator. -/
@[simp] theorem State.phaseHandMode_cond (s : State) (p : Phase) :
    (s.phaseHandMode p).cond.table = s.cond.table := by
  unfold State.phaseHandMode; split <;> (try simp)
/-- What `State.phaseHandMode` leaves unchanged of the Field Engine. -/
@[simp] theorem State.phaseHandMode_field (s : State) (p : Phase) :
    (s.phaseHandMode p).field.scanList = s.field.scanList ∧ (s.phaseHandMode p).field.tx = s.field.tx
      ∧ (s.phaseHandMode p).field.link = s.field.link ∧ (s.phaseHandMode p).field.nodes = s.field.nodes
      ∧ (s.phaseHandMode p).field.counts = s.field.counts
      ∧ (s.phaseHandMode p).field.receiver = s.field.receiver
      ∧ (s.phaseHandMode p).field.line = s.field.line
      ∧ (s.phaseHandMode p).field.arrivals = s.field.arrivals
      ∧ (s.phaseHandMode p).field.contention = s.field.contention
      ∧ (s.phaseHandMode p).field.credit = s.field.credit
      ∧ (s.phaseHandMode p).field.scanMode = s.field.scanMode
      ∧ (s.phaseHandMode p).field.echo = s.field.echo ∧ (s.phaseHandMode p).field.nextTag = s.field.nextTag
      ∧ (s.phaseHandMode p).field.trimA = s.field.trimA ∧ (s.phaseHandMode p).field.trimB = s.field.trimB
      ∧ (s.phaseHandMode p).field.stopA = s.field.stopA ∧ (s.phaseHandMode p).field.stopB = s.field.stopB
      ∧ (s.phaseHandMode p).field.pointer = s.field.pointer
      ∧ (s.phaseHandMode p).field.cycle = s.field.cycle ∧ (s.phaseHandMode p).field.sweep = s.field.sweep
      ∧ (s.phaseHandMode p).field.replyTimeout = s.field.replyTimeout
      ∧ (s.phaseHandMode p).field.silentLimit = s.field.silentLimit := by
  and_intros <;> (unfold State.phaseHandMode; split <;> (try simp))
/-- What `State.phaseHandMode` leaves unchanged of the Span Supervisor. -/
@[simp] theorem State.phaseHandMode_span (s : State) (p : Phase) :
    (s.phaseHandMode p).span.record = s.span.record
      ∧ (s.phaseHandMode p).span.correction = s.span.correction
      ∧ (s.phaseHandMode p).span.level = s.span.level ∧ (s.phaseHandMode p).span.lastSkew = s.span.lastSkew
      ∧ (s.phaseHandMode p).span.lastHold = s.span.lastHold
      ∧ (s.phaseHandMode p).span.holdRunning = s.span.holdRunning
      ∧ (s.phaseHandMode p).span.previous = s.span.previous
      ∧ (s.phaseHandMode p).span.lastTrim = s.span.lastTrim
      ∧ (s.phaseHandMode p).span.levelChanges = s.span.levelChanges := by
  and_intros <;> (unfold State.phaseHandMode; split <;> (try simp))
/-- What `State.phaseHandMode` leaves unchanged of the mode and the chain. -/
@[simp] theorem State.phaseHandMode_unit (s : State) (p : Phase) :
    (s.phaseHandMode p).unit.limits = s.unit.limits ∧ (s.phaseHandMode p).unit.estop = s.unit.estop
      ∧ (s.phaseHandMode p).unit.key = s.unit.key ∧ (s.phaseHandMode p).unit.locked = s.unit.locked
      ∧ (s.phaseHandMode p).unit.validation = s.unit.validation := by
  and_intros <;> (unfold State.phaseHandMode; split <;> (try simp))
/-- What `State.phaseHandMode` leaves unchanged of the Point Image. -/
@[simp] theorem State.phaseHandMode_points (s : State) (p : Phase) :
    (s.phaseHandMode p).points.map = s.points.map
      ∧ (s.phaseHandMode p).points.firstPair = s.points.firstPair
      ∧ (s.phaseHandMode p).points.pairLoss = s.points.pairLoss := by
  and_intros <;> (unfold State.phaseHandMode; split <;> (try simp))

/-- The blocks `State.haltPhase` leaves unchanged. -/
@[simp] theorem State.haltPhase_frame (s : State) (c : PhaseCause) :
    (s.haltPhase c).power = s.power ∧ (s.haltPhase c).now = s.now ∧ (s.haltPhase c).pending = s.pending := by
  and_intros <;> (unfold State.haltPhase State.channelEvent; (try dsimp only [id]); (repeat' split) <;> (try simp))
/-- What `State.haltPhase` leaves unchanged of the Console Port. -/
@[simp] theorem State.haltPhase_console (s : State) (c : PhaseCause) :
    (s.haltPhase c).console.ingress = s.console.ingress
      ∧ (s.haltPhase c).console.arrivals = s.console.arrivals
      ∧ (s.haltPhase c).console.restart = s.console.restart
      ∧ (s.haltPhase c).console.receiver = s.console.receiver
      ∧ (s.haltPhase c).console.line = s.console.line ∧ (s.haltPhase c).console.counts = s.console.counts
      ∧ (s.haltPhase c).console.sending = s.console.sending
      ∧ (s.haltPhase c).console.ingressOverflows = s.console.ingressOverflows := by
  and_intros <;> (unfold State.haltPhase State.channelEvent; (try dsimp only [id]); (repeat' split) <;> (try simp))
/-- What `State.haltPhase` leaves unchanged of the Order Gate. -/
@[simp] theorem State.haltPhase_gate (s : State) (c : PhaseCause) :
    (s.haltPhase c).gate.permits = s.gate.permits ∧ (s.haltPhase c).gate.orders = s.gate.orders
      ∧ (s.haltPhase c).gate.held = s.gate.held := by
  and_intros <;> (unfold State.haltPhase State.channelEvent; (try dsimp only [id]); (repeat' split) <;> (try simp))
/-- What `State.haltPhase` leaves unchanged of the Crossing Sequencer. -/
@[simp] theorem State.haltPhase_seq (s : State) (c : PhaseCause) :
    (s.haltPhase c).seq.table = s.seq.table ∧ (s.haltPhase c).seq.serial = s.seq.serial := by
  and_intros <;> (unfold State.haltPhase State.channelEvent; (try dsimp only [id]); (repeat' split) <;> (try simp))
/-- What `State.haltPhase` leaves unchanged of the Channel Controller. -/
@[simp] theorem State.haltPhase_chan (s : State) (c : PhaseCause) :
    (s.haltPhase c).chan.record = s.chan.record
      ∧ (s.haltPhase c).chan.ignoredCalls = s.chan.ignoredCalls
      ∧ (s.haltPhase c).chan.badDirections = s.chan.badDirections
      ∧ (s.haltPhase c).chan.unexpectedPassages = s.chan.unexpectedPassages := by
  and_intros <;> (unfold State.haltPhase State.channelEvent; (try dsimp only [id]); (repeat' split) <;> (try simp))
/-- What `State.haltPhase` leaves unchanged of the Condition Evaluator. -/
@[simp] theorem State.haltPhase_cond (s : State) (c : PhaseCause) :
    (s.haltPhase c).cond.table = s.cond.table := by
  unfold State.haltPhase State.channelEvent; (try dsimp only [id]); (repeat' split) <;> (try simp)
/-- What `State.haltPhase` leaves unchanged of the Field Engine. -/
@[simp] theorem State.haltPhase_field (s : State) (c : PhaseCause) :
    (s.haltPhase c).field.scanList = s.field.scanList ∧ (s.haltPhase c).field.tx = s.field.tx
      ∧ (s.haltPhase c).field.link = s.field.link ∧ (s.haltPhase c).field.nodes = s.field.nodes
      ∧ (s.haltPhase c).field.counts = s.field.counts ∧ (s.haltPhase c).field.receiver = s.field.receiver
      ∧ (s.haltPhase c).field.line = s.field.line ∧ (s.haltPhase c).field.arrivals = s.field.arrivals
      ∧ (s.haltPhase c).field.contention = s.field.contention
      ∧ (s.haltPhase c).field.credit = s.field.credit ∧ (s.haltPhase c).field.scanMode = s.field.scanMode
      ∧ (s.haltPhase c).field.echo = s.field.echo ∧ (s.haltPhase c).field.nextTag = s.field.nextTag
      ∧ (s.haltPhase c).field.trimA = s.field.trimA ∧ (s.haltPhase c).field.trimB = s.field.trimB
      ∧ (s.haltPhase c).field.stopA = s.field.stopA ∧ (s.haltPhase c).field.stopB = s.field.stopB
      ∧ (s.haltPhase c).field.pointer = s.field.pointer ∧ (s.haltPhase c).field.cycle = s.field.cycle
      ∧ (s.haltPhase c).field.sweep = s.field.sweep
      ∧ (s.haltPhase c).field.replyTimeout = s.field.replyTimeout
      ∧ (s.haltPhase c).field.silentLimit = s.field.silentLimit := by
  and_intros <;> (unfold State.haltPhase State.channelEvent; (try dsimp only [id]); (repeat' split) <;> (try simp))
/-- What `State.haltPhase` leaves unchanged of the Span Supervisor. -/
@[simp] theorem State.haltPhase_span (s : State) (c : PhaseCause) :
    (s.haltPhase c).span.record = s.span.record ∧ (s.haltPhase c).span.correction = s.span.correction
      ∧ (s.haltPhase c).span.level = s.span.level ∧ (s.haltPhase c).span.lastSkew = s.span.lastSkew
      ∧ (s.haltPhase c).span.lastHold = s.span.lastHold
      ∧ (s.haltPhase c).span.holdRunning = s.span.holdRunning
      ∧ (s.haltPhase c).span.previous = s.span.previous ∧ (s.haltPhase c).span.lastTrim = s.span.lastTrim
      ∧ (s.haltPhase c).span.levelChanges = s.span.levelChanges := by
  and_intros <;> (unfold State.haltPhase State.channelEvent; (try dsimp only [id]); (repeat' split) <;> (try simp))
/-- What `State.haltPhase` leaves unchanged of the mode and the chain. -/
@[simp] theorem State.haltPhase_unit (s : State) (c : PhaseCause) :
    (s.haltPhase c).unit.limits = s.unit.limits ∧ (s.haltPhase c).unit.estop = s.unit.estop
      ∧ (s.haltPhase c).unit.key = s.unit.key ∧ (s.haltPhase c).unit.locked = s.unit.locked
      ∧ (s.haltPhase c).unit.validation = s.unit.validation := by
  and_intros <;> (unfold State.haltPhase State.channelEvent; (try dsimp only [id]); (repeat' split) <;> (try simp))
/-- What `State.haltPhase` leaves unchanged of the Point Image. -/
@[simp] theorem State.haltPhase_points (s : State) (c : PhaseCause) :
    (s.haltPhase c).points.map = s.points.map ∧ (s.haltPhase c).points.firstPair = s.points.firstPair
      ∧ (s.haltPhase c).points.pairLoss = s.points.pairLoss := by
  and_intros <;> (unfold State.haltPhase State.channelEvent; (try dsimp only [id]); (repeat' split) <;> (try simp))

/-- The blocks `State.phaseFault` leaves unchanged. -/
@[simp] theorem State.phaseFault_frame (s : State) (c : PhaseCause) :
    (s.phaseFault c).power = s.power ∧ (s.phaseFault c).now = s.now ∧ (s.phaseFault c).pending = s.pending := by
  and_intros <;> (unfold State.phaseFault; split <;> (try simp))
/-- What `State.phaseFault` leaves unchanged of the Console Port. -/
@[simp] theorem State.phaseFault_console (s : State) (c : PhaseCause) :
    (s.phaseFault c).console.ingress = s.console.ingress
      ∧ (s.phaseFault c).console.arrivals = s.console.arrivals
      ∧ (s.phaseFault c).console.restart = s.console.restart
      ∧ (s.phaseFault c).console.receiver = s.console.receiver
      ∧ (s.phaseFault c).console.line = s.console.line ∧ (s.phaseFault c).console.counts = s.console.counts
      ∧ (s.phaseFault c).console.sending = s.console.sending
      ∧ (s.phaseFault c).console.ingressOverflows = s.console.ingressOverflows := by
  and_intros <;> (unfold State.phaseFault; split <;> (try simp))
/-- What `State.phaseFault` leaves unchanged of the Order Gate. -/
@[simp] theorem State.phaseFault_gate (s : State) (c : PhaseCause) :
    (s.phaseFault c).gate.permits = s.gate.permits ∧ (s.phaseFault c).gate.orders = s.gate.orders
      ∧ (s.phaseFault c).gate.held = s.gate.held := by
  and_intros <;> (unfold State.phaseFault; split <;> (try simp))
/-- What `State.phaseFault` leaves unchanged of the Crossing Sequencer. -/
@[simp] theorem State.phaseFault_seq (s : State) (c : PhaseCause) :
    (s.phaseFault c).seq.table = s.seq.table ∧ (s.phaseFault c).seq.serial = s.seq.serial := by
  and_intros <;> (unfold State.phaseFault; split <;> (try simp))
/-- What `State.phaseFault` leaves unchanged of the Channel Controller. -/
@[simp] theorem State.phaseFault_chan (s : State) (c : PhaseCause) :
    (s.phaseFault c).chan.record = s.chan.record
      ∧ (s.phaseFault c).chan.ignoredCalls = s.chan.ignoredCalls
      ∧ (s.phaseFault c).chan.badDirections = s.chan.badDirections
      ∧ (s.phaseFault c).chan.unexpectedPassages = s.chan.unexpectedPassages := by
  and_intros <;> (unfold State.phaseFault; split <;> (try simp))
/-- What `State.phaseFault` leaves unchanged of the Condition Evaluator. -/
@[simp] theorem State.phaseFault_cond (s : State) (c : PhaseCause) :
    (s.phaseFault c).cond.table = s.cond.table := by
  unfold State.phaseFault; split <;> (try simp)
/-- What `State.phaseFault` leaves unchanged of the Field Engine. -/
@[simp] theorem State.phaseFault_field (s : State) (c : PhaseCause) :
    (s.phaseFault c).field.scanList = s.field.scanList ∧ (s.phaseFault c).field.tx = s.field.tx
      ∧ (s.phaseFault c).field.link = s.field.link ∧ (s.phaseFault c).field.nodes = s.field.nodes
      ∧ (s.phaseFault c).field.counts = s.field.counts ∧ (s.phaseFault c).field.receiver = s.field.receiver
      ∧ (s.phaseFault c).field.line = s.field.line ∧ (s.phaseFault c).field.arrivals = s.field.arrivals
      ∧ (s.phaseFault c).field.contention = s.field.contention
      ∧ (s.phaseFault c).field.credit = s.field.credit ∧ (s.phaseFault c).field.scanMode = s.field.scanMode
      ∧ (s.phaseFault c).field.echo = s.field.echo ∧ (s.phaseFault c).field.nextTag = s.field.nextTag
      ∧ (s.phaseFault c).field.trimA = s.field.trimA ∧ (s.phaseFault c).field.trimB = s.field.trimB
      ∧ (s.phaseFault c).field.stopA = s.field.stopA ∧ (s.phaseFault c).field.stopB = s.field.stopB
      ∧ (s.phaseFault c).field.pointer = s.field.pointer ∧ (s.phaseFault c).field.cycle = s.field.cycle
      ∧ (s.phaseFault c).field.sweep = s.field.sweep
      ∧ (s.phaseFault c).field.replyTimeout = s.field.replyTimeout
      ∧ (s.phaseFault c).field.silentLimit = s.field.silentLimit := by
  and_intros <;> (unfold State.phaseFault; split <;> (try simp))
/-- What `State.phaseFault` leaves unchanged of the Span Supervisor. -/
@[simp] theorem State.phaseFault_span (s : State) (c : PhaseCause) :
    (s.phaseFault c).span.record = s.span.record ∧ (s.phaseFault c).span.correction = s.span.correction
      ∧ (s.phaseFault c).span.level = s.span.level ∧ (s.phaseFault c).span.lastSkew = s.span.lastSkew
      ∧ (s.phaseFault c).span.lastHold = s.span.lastHold
      ∧ (s.phaseFault c).span.holdRunning = s.span.holdRunning
      ∧ (s.phaseFault c).span.previous = s.span.previous ∧ (s.phaseFault c).span.lastTrim = s.span.lastTrim
      ∧ (s.phaseFault c).span.levelChanges = s.span.levelChanges := by
  and_intros <;> (unfold State.phaseFault; split <;> (try simp))
/-- What `State.phaseFault` leaves unchanged of the mode and the chain. -/
@[simp] theorem State.phaseFault_unit (s : State) (c : PhaseCause) :
    (s.phaseFault c).unit.limits = s.unit.limits ∧ (s.phaseFault c).unit.estop = s.unit.estop
      ∧ (s.phaseFault c).unit.key = s.unit.key ∧ (s.phaseFault c).unit.locked = s.unit.locked
      ∧ (s.phaseFault c).unit.validation = s.unit.validation := by
  and_intros <;> (unfold State.phaseFault; split <;> (try simp))
/-- What `State.phaseFault` leaves unchanged of the Point Image. -/
@[simp] theorem State.phaseFault_points (s : State) (c : PhaseCause) :
    (s.phaseFault c).points.map = s.points.map ∧ (s.phaseFault c).points.firstPair = s.points.firstPair
      ∧ (s.phaseFault c).points.pairLoss = s.points.pairLoss := by
  and_intros <;> (unfold State.phaseFault; split <;> (try simp))

/-- The blocks `State.beginEntry` leaves unchanged. -/
@[simp] theorem State.beginEntry_frame (s : State) (p : Phase) :
    (s.beginEntry p).power = s.power ∧ (s.beginEntry p).now = s.now ∧ (s.beginEntry p).pending = s.pending
      ∧ (s.beginEntry p).console = s.console ∧ (s.beginEntry p).field = s.field
      ∧ (s.beginEntry p).points = s.points ∧ (s.beginEntry p).cond = s.cond ∧ (s.beginEntry p).gate = s.gate
      ∧ (s.beginEntry p).span = s.span ∧ (s.beginEntry p).chan = s.chan ∧ (s.beginEntry p).duty = s.duty
      ∧ (s.beginEntry p).unit = s.unit := by
  and_intros <;> (simp [State.beginEntry])
/-- What `State.beginEntry` leaves unchanged of the Crossing Sequencer. -/
@[simp] theorem State.beginEntry_seq (s : State) (p : Phase) :
    (s.beginEntry p).seq.table = s.seq.table ∧ (s.beginEntry p).seq.phase = s.seq.phase
      ∧ (s.beginEntry p).seq.standdowns = s.seq.standdowns ∧ (s.beginEntry p).seq.sets = s.seq.sets := by
  and_intros <;> (simp [State.beginEntry])

/-- The blocks `State.track` leaves unchanged. -/
@[simp] theorem State.track_frame (s : State) (i : Nat) (p : Place) :
    (s.track i p).power = s.power ∧ (s.track i p).now = s.now ∧ (s.track i p).pending = s.pending
      ∧ (s.track i p).console = s.console ∧ (s.track i p).field = s.field ∧ (s.track i p).points = s.points
      ∧ (s.track i p).cond = s.cond ∧ (s.track i p).gate = s.gate ∧ (s.track i p).span = s.span
      ∧ (s.track i p).chan = s.chan ∧ (s.track i p).duty = s.duty ∧ (s.track i p).unit = s.unit := by
  and_intros <;> (simp [State.track])
/-- What `State.track` leaves unchanged of the Crossing Sequencer. -/
@[simp] theorem State.track_seq (s : State) (i : Nat) (p : Place) :
    (s.track i p).seq.table = s.seq.table ∧ (s.track i p).seq.phase = s.seq.phase
      ∧ (s.track i p).seq.standdowns = s.seq.standdowns ∧ (s.track i p).seq.serial = s.seq.serial
      ∧ (s.track i p).seq.sets = s.seq.sets ∧ (s.track i p).seq.interrupted = s.seq.interrupted
      ∧ (s.track i p).seq.request = s.seq.request ∧ (s.track i p).seq.recovery = s.seq.recovery
      ∧ (s.track i p).seq.dwell = s.seq.dwell ∧ (s.track i p).seq.limit = s.seq.limit := by
  and_intros <;> (simp [State.track])

/-- The blocks `offerEntries` leaves unchanged. -/
@[simp] theorem offerEntries_frame (serial : BitVec 16) (i : Nat) (os : List EntryOrder) (s : State) :
    (offerEntries serial i os s).power = s.power ∧ (offerEntries serial i os s).now = s.now
      ∧ (offerEntries serial i os s).pending = s.pending := by
  and_intros <;> (induction os generalizing i s with | nil => rfl | cons o os ih => (rw [offerEntries_cons]; (try dsimp only); split <;> simp [ih]))
/-- What `offerEntries` leaves unchanged of the Console Port. -/
@[simp] theorem offerEntries_console (serial : BitVec 16) (i : Nat) (os : List EntryOrder) (s : State) :
    (offerEntries serial i os s).console.ingress = s.console.ingress
      ∧ (offerEntries serial i os s).console.arrivals = s.console.arrivals
      ∧ (offerEntries serial i os s).console.restart = s.console.restart
      ∧ (offerEntries serial i os s).console.receiver = s.console.receiver
      ∧ (offerEntries serial i os s).console.line = s.console.line
      ∧ (offerEntries serial i os s).console.counts = s.console.counts
      ∧ (offerEntries serial i os s).console.sending = s.console.sending
      ∧ (offerEntries serial i os s).console.ingressOverflows = s.console.ingressOverflows := by
  and_intros <;> (induction os generalizing i s with | nil => rfl | cons o os ih => (rw [offerEntries_cons]; (try dsimp only); split <;> simp [ih]))
/-- What `offerEntries` leaves unchanged of the Order Gate. -/
@[simp] theorem offerEntries_gate (serial : BitVec 16) (i : Nat) (os : List EntryOrder) (s : State) :
    (offerEntries serial i os s).gate.permits = s.gate.permits
      ∧ (offerEntries serial i os s).gate.orders = s.gate.orders
      ∧ (offerEntries serial i os s).gate.held = s.gate.held := by
  and_intros <;> (induction os generalizing i s with | nil => rfl | cons o os ih => (rw [offerEntries_cons]; (try dsimp only); split <;> simp [ih]))
/-- What `offerEntries` leaves unchanged of the Crossing Sequencer. -/
@[simp] theorem offerEntries_seq (serial : BitVec 16) (i : Nat) (os : List EntryOrder) (s : State) :
    (offerEntries serial i os s).seq.table = s.seq.table
      ∧ (offerEntries serial i os s).seq.serial = s.seq.serial := by
  and_intros <;> (induction os generalizing i s with | nil => rfl | cons o os ih => (rw [offerEntries_cons]; (try dsimp only); split <;> simp [ih]))
/-- What `offerEntries` leaves unchanged of the Channel Controller. -/
@[simp] theorem offerEntries_chan (serial : BitVec 16) (i : Nat) (os : List EntryOrder) (s : State) :
    (offerEntries serial i os s).chan.record = s.chan.record
      ∧ (offerEntries serial i os s).chan.ignoredCalls = s.chan.ignoredCalls
      ∧ (offerEntries serial i os s).chan.badDirections = s.chan.badDirections
      ∧ (offerEntries serial i os s).chan.unexpectedPassages = s.chan.unexpectedPassages := by
  and_intros <;> (induction os generalizing i s with | nil => rfl | cons o os ih => (rw [offerEntries_cons]; (try dsimp only); split <;> simp [ih]))
/-- What `offerEntries` leaves unchanged of the Condition Evaluator. -/
@[simp] theorem offerEntries_cond (serial : BitVec 16) (i : Nat) (os : List EntryOrder) (s : State) :
    (offerEntries serial i os s).cond.table = s.cond.table := by
  induction os generalizing i s with | nil => rfl | cons o os ih => (rw [offerEntries_cons]; (try dsimp only); split <;> simp [ih])
/-- What `offerEntries` leaves unchanged of the Field Engine. -/
@[simp] theorem offerEntries_field (serial : BitVec 16) (i : Nat) (os : List EntryOrder) (s : State) :
    (offerEntries serial i os s).field.scanList = s.field.scanList
      ∧ (offerEntries serial i os s).field.tx = s.field.tx
      ∧ (offerEntries serial i os s).field.link = s.field.link
      ∧ (offerEntries serial i os s).field.nodes = s.field.nodes
      ∧ (offerEntries serial i os s).field.counts = s.field.counts
      ∧ (offerEntries serial i os s).field.receiver = s.field.receiver
      ∧ (offerEntries serial i os s).field.line = s.field.line
      ∧ (offerEntries serial i os s).field.arrivals = s.field.arrivals
      ∧ (offerEntries serial i os s).field.contention = s.field.contention
      ∧ (offerEntries serial i os s).field.credit = s.field.credit
      ∧ (offerEntries serial i os s).field.scanMode = s.field.scanMode
      ∧ (offerEntries serial i os s).field.echo = s.field.echo
      ∧ (offerEntries serial i os s).field.nextTag = s.field.nextTag
      ∧ (offerEntries serial i os s).field.trimA = s.field.trimA
      ∧ (offerEntries serial i os s).field.trimB = s.field.trimB
      ∧ (offerEntries serial i os s).field.stopA = s.field.stopA
      ∧ (offerEntries serial i os s).field.stopB = s.field.stopB
      ∧ (offerEntries serial i os s).field.pointer = s.field.pointer
      ∧ (offerEntries serial i os s).field.cycle = s.field.cycle
      ∧ (offerEntries serial i os s).field.sweep = s.field.sweep
      ∧ (offerEntries serial i os s).field.replyTimeout = s.field.replyTimeout
      ∧ (offerEntries serial i os s).field.silentLimit = s.field.silentLimit := by
  and_intros <;> (induction os generalizing i s with | nil => rfl | cons o os ih => (rw [offerEntries_cons]; (try dsimp only); split <;> simp [ih]))
/-- What `offerEntries` leaves unchanged of the Span Supervisor. -/
@[simp] theorem offerEntries_span (serial : BitVec 16) (i : Nat) (os : List EntryOrder) (s : State) :
    (offerEntries serial i os s).span.record = s.span.record
      ∧ (offerEntries serial i os s).span.correction = s.span.correction
      ∧ (offerEntries serial i os s).span.level = s.span.level
      ∧ (offerEntries serial i os s).span.lastSkew = s.span.lastSkew
      ∧ (offerEntries serial i os s).span.lastHold = s.span.lastHold
      ∧ (offerEntries serial i os s).span.holdRunning = s.span.holdRunning
      ∧ (offerEntries serial i os s).span.previous = s.span.previous
      ∧ (offerEntries serial i os s).span.lastTrim = s.span.lastTrim
      ∧ (offerEntries serial i os s).span.levelChanges = s.span.levelChanges := by
  and_intros <;> (induction os generalizing i s with | nil => rfl | cons o os ih => (rw [offerEntries_cons]; (try dsimp only); split <;> simp [ih]))
/-- What `offerEntries` leaves unchanged of the mode and the chain. -/
@[simp] theorem offerEntries_unit (serial : BitVec 16) (i : Nat) (os : List EntryOrder) (s : State) :
    (offerEntries serial i os s).unit.limits = s.unit.limits
      ∧ (offerEntries serial i os s).unit.estop = s.unit.estop
      ∧ (offerEntries serial i os s).unit.key = s.unit.key
      ∧ (offerEntries serial i os s).unit.locked = s.unit.locked
      ∧ (offerEntries serial i os s).unit.validation = s.unit.validation := by
  and_intros <;> (induction os generalizing i s with | nil => rfl | cons o os ih => (rw [offerEntries_cons]; (try dsimp only); split <;> simp [ih]))
/-- What `offerEntries` leaves unchanged of the Point Image. -/
@[simp] theorem offerEntries_points (serial : BitVec 16) (i : Nat) (os : List EntryOrder) (s : State) :
    (offerEntries serial i os s).points.map = s.points.map
      ∧ (offerEntries serial i os s).points.firstPair = s.points.firstPair
      ∧ (offerEntries serial i os s).points.pairLoss = s.points.pairLoss := by
  and_intros <;> (induction os generalizing i s with | nil => rfl | cons o os ih => (rw [offerEntries_cons]; (try dsimp only); split <;> simp [ih]))

/-- The blocks `State.offerPhase` leaves unchanged. -/
@[simp] theorem State.offerPhase_frame (s : State) (p : Phase) :
    (s.offerPhase p).power = s.power ∧ (s.offerPhase p).now = s.now ∧ (s.offerPhase p).pending = s.pending := by
  and_intros <;> (unfold State.offerPhase; split <;> (try simp))
/-- What `State.offerPhase` leaves unchanged of the Console Port. -/
@[simp] theorem State.offerPhase_console (s : State) (p : Phase) :
    (s.offerPhase p).console.ingress = s.console.ingress
      ∧ (s.offerPhase p).console.arrivals = s.console.arrivals
      ∧ (s.offerPhase p).console.restart = s.console.restart
      ∧ (s.offerPhase p).console.receiver = s.console.receiver
      ∧ (s.offerPhase p).console.line = s.console.line ∧ (s.offerPhase p).console.counts = s.console.counts
      ∧ (s.offerPhase p).console.sending = s.console.sending
      ∧ (s.offerPhase p).console.ingressOverflows = s.console.ingressOverflows := by
  and_intros <;> (unfold State.offerPhase; split <;> (try simp))
/-- What `State.offerPhase` leaves unchanged of the Order Gate. -/
@[simp] theorem State.offerPhase_gate (s : State) (p : Phase) :
    (s.offerPhase p).gate.permits = s.gate.permits ∧ (s.offerPhase p).gate.orders = s.gate.orders
      ∧ (s.offerPhase p).gate.held = s.gate.held := by
  and_intros <;> (unfold State.offerPhase; split <;> (try simp))
/-- What `State.offerPhase` leaves unchanged of the Crossing Sequencer. -/
@[simp] theorem State.offerPhase_seq (s : State) (p : Phase) :
    (s.offerPhase p).seq.table = s.seq.table ∧ (s.offerPhase p).seq.serial = s.seq.serial := by
  and_intros <;> (unfold State.offerPhase; split <;> (try simp))
/-- What `State.offerPhase` leaves unchanged of the Channel Controller. -/
@[simp] theorem State.offerPhase_chan (s : State) (p : Phase) :
    (s.offerPhase p).chan.record = s.chan.record
      ∧ (s.offerPhase p).chan.ignoredCalls = s.chan.ignoredCalls
      ∧ (s.offerPhase p).chan.badDirections = s.chan.badDirections
      ∧ (s.offerPhase p).chan.unexpectedPassages = s.chan.unexpectedPassages := by
  and_intros <;> (unfold State.offerPhase; split <;> (try simp))
/-- What `State.offerPhase` leaves unchanged of the Condition Evaluator. -/
@[simp] theorem State.offerPhase_cond (s : State) (p : Phase) :
    (s.offerPhase p).cond.table = s.cond.table := by
  unfold State.offerPhase; split <;> (try simp)
/-- What `State.offerPhase` leaves unchanged of the Field Engine. -/
@[simp] theorem State.offerPhase_field (s : State) (p : Phase) :
    (s.offerPhase p).field.scanList = s.field.scanList ∧ (s.offerPhase p).field.tx = s.field.tx
      ∧ (s.offerPhase p).field.link = s.field.link ∧ (s.offerPhase p).field.nodes = s.field.nodes
      ∧ (s.offerPhase p).field.counts = s.field.counts ∧ (s.offerPhase p).field.receiver = s.field.receiver
      ∧ (s.offerPhase p).field.line = s.field.line ∧ (s.offerPhase p).field.arrivals = s.field.arrivals
      ∧ (s.offerPhase p).field.contention = s.field.contention
      ∧ (s.offerPhase p).field.credit = s.field.credit ∧ (s.offerPhase p).field.scanMode = s.field.scanMode
      ∧ (s.offerPhase p).field.echo = s.field.echo ∧ (s.offerPhase p).field.nextTag = s.field.nextTag
      ∧ (s.offerPhase p).field.trimA = s.field.trimA ∧ (s.offerPhase p).field.trimB = s.field.trimB
      ∧ (s.offerPhase p).field.stopA = s.field.stopA ∧ (s.offerPhase p).field.stopB = s.field.stopB
      ∧ (s.offerPhase p).field.pointer = s.field.pointer ∧ (s.offerPhase p).field.cycle = s.field.cycle
      ∧ (s.offerPhase p).field.sweep = s.field.sweep
      ∧ (s.offerPhase p).field.replyTimeout = s.field.replyTimeout
      ∧ (s.offerPhase p).field.silentLimit = s.field.silentLimit := by
  and_intros <;> (unfold State.offerPhase; split <;> (try simp))
/-- What `State.offerPhase` leaves unchanged of the Span Supervisor. -/
@[simp] theorem State.offerPhase_span (s : State) (p : Phase) :
    (s.offerPhase p).span.record = s.span.record ∧ (s.offerPhase p).span.correction = s.span.correction
      ∧ (s.offerPhase p).span.level = s.span.level ∧ (s.offerPhase p).span.lastSkew = s.span.lastSkew
      ∧ (s.offerPhase p).span.lastHold = s.span.lastHold
      ∧ (s.offerPhase p).span.holdRunning = s.span.holdRunning
      ∧ (s.offerPhase p).span.previous = s.span.previous ∧ (s.offerPhase p).span.lastTrim = s.span.lastTrim
      ∧ (s.offerPhase p).span.levelChanges = s.span.levelChanges := by
  and_intros <;> (unfold State.offerPhase; split <;> (try simp))
/-- What `State.offerPhase` leaves unchanged of the mode and the chain. -/
@[simp] theorem State.offerPhase_unit (s : State) (p : Phase) :
    (s.offerPhase p).unit.limits = s.unit.limits ∧ (s.offerPhase p).unit.estop = s.unit.estop
      ∧ (s.offerPhase p).unit.key = s.unit.key ∧ (s.offerPhase p).unit.locked = s.unit.locked
      ∧ (s.offerPhase p).unit.validation = s.unit.validation := by
  and_intros <;> (unfold State.offerPhase; split <;> (try simp))
/-- What `State.offerPhase` leaves unchanged of the Point Image. -/
@[simp] theorem State.offerPhase_points (s : State) (p : Phase) :
    (s.offerPhase p).points.map = s.points.map ∧ (s.offerPhase p).points.firstPair = s.points.firstPair
      ∧ (s.offerPhase p).points.pairLoss = s.points.pairLoss := by
  and_intros <;> (unfold State.offerPhase; split <;> (try simp))

/-- The blocks `enterPhase` leaves unchanged. -/
@[simp] theorem enterPhase_frame (k : Nat) (p : Phase) (c : PhaseCause) (s : State) :
    (enterPhase k p c s).power = s.power ∧ (enterPhase k p c s).now = s.now
      ∧ (enterPhase k p c s).pending = s.pending := by
  induction k generalizing p c s with
  | zero => simp [enterPhase]
  | succ k ih =>
    have ha : ∀ s : State,
        (State.advanceWith (enterPhase k) s).power = s.power
          ∧ (State.advanceWith (enterPhase k) s).now = s.now
          ∧ (State.advanceWith (enterPhase k) s).pending = s.pending := by
      intro s; unfold State.advanceWith; split <;> simp [ih]
    unfold enterPhase State.channelEvent; (try dsimp only); (repeat' split) <;> simp [ha]
/-- What `enterPhase` leaves unchanged of the Console Port. -/
@[simp] theorem enterPhase_console (k : Nat) (p : Phase) (c : PhaseCause) (s : State) :
    (enterPhase k p c s).console.ingress = s.console.ingress
      ∧ (enterPhase k p c s).console.arrivals = s.console.arrivals
      ∧ (enterPhase k p c s).console.restart = s.console.restart
      ∧ (enterPhase k p c s).console.receiver = s.console.receiver
      ∧ (enterPhase k p c s).console.line = s.console.line
      ∧ (enterPhase k p c s).console.counts = s.console.counts
      ∧ (enterPhase k p c s).console.sending = s.console.sending
      ∧ (enterPhase k p c s).console.ingressOverflows = s.console.ingressOverflows := by
  induction k generalizing p c s with
  | zero => simp [enterPhase]
  | succ k ih =>
    have ha : ∀ s : State,
        (State.advanceWith (enterPhase k) s).console.ingress = s.console.ingress
          ∧ (State.advanceWith (enterPhase k) s).console.arrivals = s.console.arrivals
          ∧ (State.advanceWith (enterPhase k) s).console.restart = s.console.restart
          ∧ (State.advanceWith (enterPhase k) s).console.receiver = s.console.receiver
          ∧ (State.advanceWith (enterPhase k) s).console.line = s.console.line
          ∧ (State.advanceWith (enterPhase k) s).console.counts = s.console.counts
          ∧ (State.advanceWith (enterPhase k) s).console.sending = s.console.sending
          ∧ (State.advanceWith (enterPhase k) s).console.ingressOverflows = s.console.ingressOverflows := by
      intro s; unfold State.advanceWith; split <;> simp [ih]
    unfold enterPhase State.channelEvent; (try dsimp only); (repeat' split) <;> simp [ha]
/-- What `enterPhase` leaves unchanged of the Order Gate. -/
@[simp] theorem enterPhase_gate (k : Nat) (p : Phase) (c : PhaseCause) (s : State) :
    (enterPhase k p c s).gate.permits = s.gate.permits ∧ (enterPhase k p c s).gate.orders = s.gate.orders
      ∧ (enterPhase k p c s).gate.held = s.gate.held := by
  induction k generalizing p c s with
  | zero => simp [enterPhase]
  | succ k ih =>
    have ha : ∀ s : State,
        (State.advanceWith (enterPhase k) s).gate.permits = s.gate.permits
          ∧ (State.advanceWith (enterPhase k) s).gate.orders = s.gate.orders
          ∧ (State.advanceWith (enterPhase k) s).gate.held = s.gate.held := by
      intro s; unfold State.advanceWith; split <;> simp [ih]
    unfold enterPhase State.channelEvent; (try dsimp only); (repeat' split) <;> simp [ha]
/-- What `enterPhase` leaves unchanged of the Crossing Sequencer. -/
@[simp] theorem enterPhase_seq (k : Nat) (p : Phase) (c : PhaseCause) (s : State) :
    (enterPhase k p c s).seq.table = s.seq.table := by
  induction k generalizing p c s with
  | zero => rfl
  | succ k ih =>
    have ha : ∀ s : State,
        (State.advanceWith (enterPhase k) s).seq.table = s.seq.table := by
      intro s; unfold State.advanceWith; split <;> simp [ih]
    unfold enterPhase State.channelEvent; (try dsimp only); (repeat' split) <;> simp [ha]
/-- What `enterPhase` leaves unchanged of the Channel Controller. -/
@[simp] theorem enterPhase_chan (k : Nat) (p : Phase) (c : PhaseCause) (s : State) :
    (enterPhase k p c s).chan.record = s.chan.record
      ∧ (enterPhase k p c s).chan.ignoredCalls = s.chan.ignoredCalls
      ∧ (enterPhase k p c s).chan.badDirections = s.chan.badDirections
      ∧ (enterPhase k p c s).chan.unexpectedPassages = s.chan.unexpectedPassages := by
  induction k generalizing p c s with
  | zero => simp [enterPhase]
  | succ k ih =>
    have ha : ∀ s : State,
        (State.advanceWith (enterPhase k) s).chan.record = s.chan.record
          ∧ (State.advanceWith (enterPhase k) s).chan.ignoredCalls = s.chan.ignoredCalls
          ∧ (State.advanceWith (enterPhase k) s).chan.badDirections = s.chan.badDirections
          ∧ (State.advanceWith (enterPhase k) s).chan.unexpectedPassages = s.chan.unexpectedPassages := by
      intro s; unfold State.advanceWith; split <;> simp [ih]
    unfold enterPhase State.channelEvent; (try dsimp only); (repeat' split) <;> simp [ha]
/-- What `enterPhase` leaves unchanged of the Condition Evaluator. -/
@[simp] theorem enterPhase_cond (k : Nat) (p : Phase) (c : PhaseCause) (s : State) :
    (enterPhase k p c s).cond.table = s.cond.table := by
  induction k generalizing p c s with
  | zero => rfl
  | succ k ih =>
    have ha : ∀ s : State,
        (State.advanceWith (enterPhase k) s).cond.table = s.cond.table := by
      intro s; unfold State.advanceWith; split <;> simp [ih]
    unfold enterPhase State.channelEvent; (try dsimp only); (repeat' split) <;> simp [ha]
/-- What `enterPhase` leaves unchanged of the Field Engine. -/
@[simp] theorem enterPhase_field (k : Nat) (p : Phase) (c : PhaseCause) (s : State) :
    (enterPhase k p c s).field.scanList = s.field.scanList ∧ (enterPhase k p c s).field.tx = s.field.tx
      ∧ (enterPhase k p c s).field.link = s.field.link ∧ (enterPhase k p c s).field.nodes = s.field.nodes
      ∧ (enterPhase k p c s).field.counts = s.field.counts
      ∧ (enterPhase k p c s).field.receiver = s.field.receiver
      ∧ (enterPhase k p c s).field.line = s.field.line
      ∧ (enterPhase k p c s).field.arrivals = s.field.arrivals
      ∧ (enterPhase k p c s).field.contention = s.field.contention
      ∧ (enterPhase k p c s).field.credit = s.field.credit
      ∧ (enterPhase k p c s).field.scanMode = s.field.scanMode
      ∧ (enterPhase k p c s).field.echo = s.field.echo
      ∧ (enterPhase k p c s).field.nextTag = s.field.nextTag
      ∧ (enterPhase k p c s).field.trimA = s.field.trimA ∧ (enterPhase k p c s).field.trimB = s.field.trimB
      ∧ (enterPhase k p c s).field.stopA = s.field.stopA ∧ (enterPhase k p c s).field.stopB = s.field.stopB
      ∧ (enterPhase k p c s).field.pointer = s.field.pointer
      ∧ (enterPhase k p c s).field.cycle = s.field.cycle ∧ (enterPhase k p c s).field.sweep = s.field.sweep
      ∧ (enterPhase k p c s).field.replyTimeout = s.field.replyTimeout
      ∧ (enterPhase k p c s).field.silentLimit = s.field.silentLimit := by
  induction k generalizing p c s with
  | zero => simp [enterPhase]
  | succ k ih =>
    have ha : ∀ s : State,
        (State.advanceWith (enterPhase k) s).field.scanList = s.field.scanList
          ∧ (State.advanceWith (enterPhase k) s).field.tx = s.field.tx
          ∧ (State.advanceWith (enterPhase k) s).field.link = s.field.link
          ∧ (State.advanceWith (enterPhase k) s).field.nodes = s.field.nodes
          ∧ (State.advanceWith (enterPhase k) s).field.counts = s.field.counts
          ∧ (State.advanceWith (enterPhase k) s).field.receiver = s.field.receiver
          ∧ (State.advanceWith (enterPhase k) s).field.line = s.field.line
          ∧ (State.advanceWith (enterPhase k) s).field.arrivals = s.field.arrivals
          ∧ (State.advanceWith (enterPhase k) s).field.contention = s.field.contention
          ∧ (State.advanceWith (enterPhase k) s).field.credit = s.field.credit
          ∧ (State.advanceWith (enterPhase k) s).field.scanMode = s.field.scanMode
          ∧ (State.advanceWith (enterPhase k) s).field.echo = s.field.echo
          ∧ (State.advanceWith (enterPhase k) s).field.nextTag = s.field.nextTag
          ∧ (State.advanceWith (enterPhase k) s).field.trimA = s.field.trimA
          ∧ (State.advanceWith (enterPhase k) s).field.trimB = s.field.trimB
          ∧ (State.advanceWith (enterPhase k) s).field.stopA = s.field.stopA
          ∧ (State.advanceWith (enterPhase k) s).field.stopB = s.field.stopB
          ∧ (State.advanceWith (enterPhase k) s).field.pointer = s.field.pointer
          ∧ (State.advanceWith (enterPhase k) s).field.cycle = s.field.cycle
          ∧ (State.advanceWith (enterPhase k) s).field.sweep = s.field.sweep
          ∧ (State.advanceWith (enterPhase k) s).field.replyTimeout = s.field.replyTimeout
          ∧ (State.advanceWith (enterPhase k) s).field.silentLimit = s.field.silentLimit := by
      intro s; unfold State.advanceWith; split <;> simp [ih]
    unfold enterPhase State.channelEvent; (try dsimp only); (repeat' split) <;> simp [ha]
/-- What `enterPhase` leaves unchanged of the Span Supervisor. -/
@[simp] theorem enterPhase_span (k : Nat) (p : Phase) (c : PhaseCause) (s : State) :
    (enterPhase k p c s).span.record = s.span.record
      ∧ (enterPhase k p c s).span.correction = s.span.correction
      ∧ (enterPhase k p c s).span.level = s.span.level
      ∧ (enterPhase k p c s).span.lastSkew = s.span.lastSkew
      ∧ (enterPhase k p c s).span.lastHold = s.span.lastHold
      ∧ (enterPhase k p c s).span.holdRunning = s.span.holdRunning
      ∧ (enterPhase k p c s).span.previous = s.span.previous
      ∧ (enterPhase k p c s).span.lastTrim = s.span.lastTrim
      ∧ (enterPhase k p c s).span.levelChanges = s.span.levelChanges := by
  induction k generalizing p c s with
  | zero => simp [enterPhase]
  | succ k ih =>
    have ha : ∀ s : State,
        (State.advanceWith (enterPhase k) s).span.record = s.span.record
          ∧ (State.advanceWith (enterPhase k) s).span.correction = s.span.correction
          ∧ (State.advanceWith (enterPhase k) s).span.level = s.span.level
          ∧ (State.advanceWith (enterPhase k) s).span.lastSkew = s.span.lastSkew
          ∧ (State.advanceWith (enterPhase k) s).span.lastHold = s.span.lastHold
          ∧ (State.advanceWith (enterPhase k) s).span.holdRunning = s.span.holdRunning
          ∧ (State.advanceWith (enterPhase k) s).span.previous = s.span.previous
          ∧ (State.advanceWith (enterPhase k) s).span.lastTrim = s.span.lastTrim
          ∧ (State.advanceWith (enterPhase k) s).span.levelChanges = s.span.levelChanges := by
      intro s; unfold State.advanceWith; split <;> simp [ih]
    unfold enterPhase State.channelEvent; (try dsimp only); (repeat' split) <;> simp [ha]
/-- What `enterPhase` leaves unchanged of the mode and the chain. -/
@[simp] theorem enterPhase_unit (k : Nat) (p : Phase) (c : PhaseCause) (s : State) :
    (enterPhase k p c s).unit.limits = s.unit.limits ∧ (enterPhase k p c s).unit.estop = s.unit.estop
      ∧ (enterPhase k p c s).unit.key = s.unit.key ∧ (enterPhase k p c s).unit.locked = s.unit.locked
      ∧ (enterPhase k p c s).unit.validation = s.unit.validation := by
  induction k generalizing p c s with
  | zero => simp [enterPhase]
  | succ k ih =>
    have ha : ∀ s : State,
        (State.advanceWith (enterPhase k) s).unit.limits = s.unit.limits
          ∧ (State.advanceWith (enterPhase k) s).unit.estop = s.unit.estop
          ∧ (State.advanceWith (enterPhase k) s).unit.key = s.unit.key
          ∧ (State.advanceWith (enterPhase k) s).unit.locked = s.unit.locked
          ∧ (State.advanceWith (enterPhase k) s).unit.validation = s.unit.validation := by
      intro s; unfold State.advanceWith; split <;> simp [ih]
    unfold enterPhase State.channelEvent; (try dsimp only); (repeat' split) <;> simp [ha]
/-- What `enterPhase` leaves unchanged of the Point Image. -/
@[simp] theorem enterPhase_points (k : Nat) (p : Phase) (c : PhaseCause) (s : State) :
    (enterPhase k p c s).points.map = s.points.map
      ∧ (enterPhase k p c s).points.firstPair = s.points.firstPair
      ∧ (enterPhase k p c s).points.pairLoss = s.points.pairLoss := by
  induction k generalizing p c s with
  | zero => simp [enterPhase]
  | succ k ih =>
    have ha : ∀ s : State,
        (State.advanceWith (enterPhase k) s).points.map = s.points.map
          ∧ (State.advanceWith (enterPhase k) s).points.firstPair = s.points.firstPair
          ∧ (State.advanceWith (enterPhase k) s).points.pairLoss = s.points.pairLoss := by
      intro s; unfold State.advanceWith; split <;> simp [ih]
    unfold enterPhase State.channelEvent; (try dsimp only); (repeat' split) <;> simp [ha]

/-- The blocks `State.enter` leaves unchanged. -/
@[simp] theorem State.enter_frame (s : State) (p : Phase) (c : PhaseCause) :
    (s.enter p c).power = s.power ∧ (s.enter p c).now = s.now ∧ (s.enter p c).pending = s.pending := by
  and_intros <;> (simp [State.enter])
/-- What `State.enter` leaves unchanged of the Console Port. -/
@[simp] theorem State.enter_console (s : State) (p : Phase) (c : PhaseCause) :
    (s.enter p c).console.ingress = s.console.ingress ∧ (s.enter p c).console.arrivals = s.console.arrivals
      ∧ (s.enter p c).console.restart = s.console.restart
      ∧ (s.enter p c).console.receiver = s.console.receiver ∧ (s.enter p c).console.line = s.console.line
      ∧ (s.enter p c).console.counts = s.console.counts ∧ (s.enter p c).console.sending = s.console.sending
      ∧ (s.enter p c).console.ingressOverflows = s.console.ingressOverflows := by
  and_intros <;> (simp [State.enter])
/-- What `State.enter` leaves unchanged of the Order Gate. -/
@[simp] theorem State.enter_gate (s : State) (p : Phase) (c : PhaseCause) :
    (s.enter p c).gate.permits = s.gate.permits ∧ (s.enter p c).gate.orders = s.gate.orders
      ∧ (s.enter p c).gate.held = s.gate.held := by
  and_intros <;> (simp [State.enter])
/-- What `State.enter` leaves unchanged of the Crossing Sequencer. -/
@[simp] theorem State.enter_seq (s : State) (p : Phase) (c : PhaseCause) :
    (s.enter p c).seq.table = s.seq.table := by
  simp [State.enter]
/-- What `State.enter` leaves unchanged of the Channel Controller. -/
@[simp] theorem State.enter_chan (s : State) (p : Phase) (c : PhaseCause) :
    (s.enter p c).chan.record = s.chan.record
      ∧ (s.enter p c).chan.ignoredCalls = s.chan.ignoredCalls
      ∧ (s.enter p c).chan.badDirections = s.chan.badDirections
      ∧ (s.enter p c).chan.unexpectedPassages = s.chan.unexpectedPassages := by
  and_intros <;> (simp [State.enter])
/-- What `State.enter` leaves unchanged of the Condition Evaluator. -/
@[simp] theorem State.enter_cond (s : State) (p : Phase) (c : PhaseCause) :
    (s.enter p c).cond.table = s.cond.table := by
  simp [State.enter]
/-- What `State.enter` leaves unchanged of the Field Engine. -/
@[simp] theorem State.enter_field (s : State) (p : Phase) (c : PhaseCause) :
    (s.enter p c).field.scanList = s.field.scanList ∧ (s.enter p c).field.tx = s.field.tx
      ∧ (s.enter p c).field.link = s.field.link ∧ (s.enter p c).field.nodes = s.field.nodes
      ∧ (s.enter p c).field.counts = s.field.counts ∧ (s.enter p c).field.receiver = s.field.receiver
      ∧ (s.enter p c).field.line = s.field.line ∧ (s.enter p c).field.arrivals = s.field.arrivals
      ∧ (s.enter p c).field.contention = s.field.contention ∧ (s.enter p c).field.credit = s.field.credit
      ∧ (s.enter p c).field.scanMode = s.field.scanMode ∧ (s.enter p c).field.echo = s.field.echo
      ∧ (s.enter p c).field.nextTag = s.field.nextTag ∧ (s.enter p c).field.trimA = s.field.trimA
      ∧ (s.enter p c).field.trimB = s.field.trimB ∧ (s.enter p c).field.stopA = s.field.stopA
      ∧ (s.enter p c).field.stopB = s.field.stopB ∧ (s.enter p c).field.pointer = s.field.pointer
      ∧ (s.enter p c).field.cycle = s.field.cycle ∧ (s.enter p c).field.sweep = s.field.sweep
      ∧ (s.enter p c).field.replyTimeout = s.field.replyTimeout
      ∧ (s.enter p c).field.silentLimit = s.field.silentLimit := by
  and_intros <;> (simp [State.enter])
/-- What `State.enter` leaves unchanged of the Span Supervisor. -/
@[simp] theorem State.enter_span (s : State) (p : Phase) (c : PhaseCause) :
    (s.enter p c).span.record = s.span.record ∧ (s.enter p c).span.correction = s.span.correction
      ∧ (s.enter p c).span.level = s.span.level ∧ (s.enter p c).span.lastSkew = s.span.lastSkew
      ∧ (s.enter p c).span.lastHold = s.span.lastHold ∧ (s.enter p c).span.holdRunning = s.span.holdRunning
      ∧ (s.enter p c).span.previous = s.span.previous ∧ (s.enter p c).span.lastTrim = s.span.lastTrim
      ∧ (s.enter p c).span.levelChanges = s.span.levelChanges := by
  and_intros <;> (simp [State.enter])
/-- What `State.enter` leaves unchanged of the mode and the chain. -/
@[simp] theorem State.enter_unit (s : State) (p : Phase) (c : PhaseCause) :
    (s.enter p c).unit.limits = s.unit.limits ∧ (s.enter p c).unit.estop = s.unit.estop
      ∧ (s.enter p c).unit.key = s.unit.key ∧ (s.enter p c).unit.locked = s.unit.locked
      ∧ (s.enter p c).unit.validation = s.unit.validation := by
  and_intros <;> (simp [State.enter])
/-- What `State.enter` leaves unchanged of the Point Image. -/
@[simp] theorem State.enter_points (s : State) (p : Phase) (c : PhaseCause) :
    (s.enter p c).points.map = s.points.map ∧ (s.enter p c).points.firstPair = s.points.firstPair
      ∧ (s.enter p c).points.pairLoss = s.points.pairLoss := by
  and_intros <;> (simp [State.enter])

/-- The blocks `State.advanceTest` leaves unchanged. -/
@[simp] theorem State.advanceTest_frame (s : State) :
    (s.advanceTest).power = s.power ∧ (s.advanceTest).now = s.now ∧ (s.advanceTest).pending = s.pending := by
  and_intros <;> (unfold State.advanceTest State.advanceWith; split <;> (try simp))
/-- What `State.advanceTest` leaves unchanged of the Console Port. -/
@[simp] theorem State.advanceTest_console (s : State) :
    (s.advanceTest).console.ingress = s.console.ingress
      ∧ (s.advanceTest).console.arrivals = s.console.arrivals
      ∧ (s.advanceTest).console.restart = s.console.restart
      ∧ (s.advanceTest).console.receiver = s.console.receiver
      ∧ (s.advanceTest).console.line = s.console.line ∧ (s.advanceTest).console.counts = s.console.counts
      ∧ (s.advanceTest).console.sending = s.console.sending
      ∧ (s.advanceTest).console.ingressOverflows = s.console.ingressOverflows := by
  and_intros <;> (unfold State.advanceTest State.advanceWith; split <;> (try simp))
/-- What `State.advanceTest` leaves unchanged of the Order Gate. -/
@[simp] theorem State.advanceTest_gate (s : State) :
    (s.advanceTest).gate.permits = s.gate.permits ∧ (s.advanceTest).gate.orders = s.gate.orders
      ∧ (s.advanceTest).gate.held = s.gate.held := by
  and_intros <;> (unfold State.advanceTest State.advanceWith; split <;> (try simp))
/-- What `State.advanceTest` leaves unchanged of the Crossing Sequencer. -/
@[simp] theorem State.advanceTest_seq (s : State) :
    (s.advanceTest).seq.table = s.seq.table := by
  unfold State.advanceTest State.advanceWith; split <;> (try simp)
/-- What `State.advanceTest` leaves unchanged of the Channel Controller. -/
@[simp] theorem State.advanceTest_chan (s : State) :
    (s.advanceTest).chan.record = s.chan.record
      ∧ (s.advanceTest).chan.ignoredCalls = s.chan.ignoredCalls
      ∧ (s.advanceTest).chan.badDirections = s.chan.badDirections
      ∧ (s.advanceTest).chan.unexpectedPassages = s.chan.unexpectedPassages := by
  and_intros <;> (unfold State.advanceTest State.advanceWith; split <;> (try simp))
/-- What `State.advanceTest` leaves unchanged of the Condition Evaluator. -/
@[simp] theorem State.advanceTest_cond (s : State) :
    (s.advanceTest).cond.table = s.cond.table := by
  unfold State.advanceTest State.advanceWith; split <;> (try simp)
/-- What `State.advanceTest` leaves unchanged of the Field Engine. -/
@[simp] theorem State.advanceTest_field (s : State) :
    (s.advanceTest).field.scanList = s.field.scanList ∧ (s.advanceTest).field.tx = s.field.tx
      ∧ (s.advanceTest).field.link = s.field.link ∧ (s.advanceTest).field.nodes = s.field.nodes
      ∧ (s.advanceTest).field.counts = s.field.counts ∧ (s.advanceTest).field.receiver = s.field.receiver
      ∧ (s.advanceTest).field.line = s.field.line ∧ (s.advanceTest).field.arrivals = s.field.arrivals
      ∧ (s.advanceTest).field.contention = s.field.contention
      ∧ (s.advanceTest).field.credit = s.field.credit ∧ (s.advanceTest).field.scanMode = s.field.scanMode
      ∧ (s.advanceTest).field.echo = s.field.echo ∧ (s.advanceTest).field.nextTag = s.field.nextTag
      ∧ (s.advanceTest).field.trimA = s.field.trimA ∧ (s.advanceTest).field.trimB = s.field.trimB
      ∧ (s.advanceTest).field.stopA = s.field.stopA ∧ (s.advanceTest).field.stopB = s.field.stopB
      ∧ (s.advanceTest).field.pointer = s.field.pointer ∧ (s.advanceTest).field.cycle = s.field.cycle
      ∧ (s.advanceTest).field.sweep = s.field.sweep
      ∧ (s.advanceTest).field.replyTimeout = s.field.replyTimeout
      ∧ (s.advanceTest).field.silentLimit = s.field.silentLimit := by
  and_intros <;> (unfold State.advanceTest State.advanceWith; split <;> (try simp))
/-- What `State.advanceTest` leaves unchanged of the Span Supervisor. -/
@[simp] theorem State.advanceTest_span (s : State) :
    (s.advanceTest).span.record = s.span.record ∧ (s.advanceTest).span.correction = s.span.correction
      ∧ (s.advanceTest).span.level = s.span.level ∧ (s.advanceTest).span.lastSkew = s.span.lastSkew
      ∧ (s.advanceTest).span.lastHold = s.span.lastHold
      ∧ (s.advanceTest).span.holdRunning = s.span.holdRunning
      ∧ (s.advanceTest).span.previous = s.span.previous ∧ (s.advanceTest).span.lastTrim = s.span.lastTrim
      ∧ (s.advanceTest).span.levelChanges = s.span.levelChanges := by
  and_intros <;> (unfold State.advanceTest State.advanceWith; split <;> (try simp))
/-- What `State.advanceTest` leaves unchanged of the mode and the chain. -/
@[simp] theorem State.advanceTest_unit (s : State) :
    (s.advanceTest).unit.limits = s.unit.limits ∧ (s.advanceTest).unit.estop = s.unit.estop
      ∧ (s.advanceTest).unit.key = s.unit.key ∧ (s.advanceTest).unit.locked = s.unit.locked
      ∧ (s.advanceTest).unit.validation = s.unit.validation := by
  and_intros <;> (unfold State.advanceTest State.advanceWith; split <;> (try simp))
/-- What `State.advanceTest` leaves unchanged of the Point Image. -/
@[simp] theorem State.advanceTest_points (s : State) :
    (s.advanceTest).points.map = s.points.map ∧ (s.advanceTest).points.firstPair = s.points.firstPair
      ∧ (s.advanceTest).points.pairLoss = s.points.pairLoss := by
  and_intros <;> (unfold State.advanceTest State.advanceWith; split <;> (try simp))

/-- The blocks `State.entryResult` leaves unchanged. -/
@[simp] theorem State.entryResult_frame (s : State) (x : BitVec 16) (i : Nat) (r : Result) :
    (s.entryResult x i r).power = s.power ∧ (s.entryResult x i r).now = s.now
      ∧ (s.entryResult x i r).pending = s.pending := by
  and_intros <;> (unfold State.entryResult; (repeat' split) <;> (try simp))
/-- What `State.entryResult` leaves unchanged of the Console Port. -/
@[simp] theorem State.entryResult_console (s : State) (x : BitVec 16) (i : Nat) (r : Result) :
    (s.entryResult x i r).console.ingress = s.console.ingress
      ∧ (s.entryResult x i r).console.arrivals = s.console.arrivals
      ∧ (s.entryResult x i r).console.restart = s.console.restart
      ∧ (s.entryResult x i r).console.receiver = s.console.receiver
      ∧ (s.entryResult x i r).console.line = s.console.line
      ∧ (s.entryResult x i r).console.counts = s.console.counts
      ∧ (s.entryResult x i r).console.sending = s.console.sending
      ∧ (s.entryResult x i r).console.ingressOverflows = s.console.ingressOverflows := by
  and_intros <;> (unfold State.entryResult; (repeat' split) <;> (try simp))
/-- What `State.entryResult` leaves unchanged of the Order Gate. -/
@[simp] theorem State.entryResult_gate (s : State) (x : BitVec 16) (i : Nat) (r : Result) :
    (s.entryResult x i r).gate.permits = s.gate.permits ∧ (s.entryResult x i r).gate.orders = s.gate.orders
      ∧ (s.entryResult x i r).gate.held = s.gate.held := by
  and_intros <;> (unfold State.entryResult; (repeat' split) <;> (try simp))
/-- What `State.entryResult` leaves unchanged of the Crossing Sequencer. -/
@[simp] theorem State.entryResult_seq (s : State) (x : BitVec 16) (i : Nat) (r : Result) :
    (s.entryResult x i r).seq.table = s.seq.table := by
  unfold State.entryResult; (repeat' split) <;> (try simp)
/-- What `State.entryResult` leaves unchanged of the Channel Controller. -/
@[simp] theorem State.entryResult_chan (s : State) (x : BitVec 16) (i : Nat) (r : Result) :
    (s.entryResult x i r).chan.record = s.chan.record
      ∧ (s.entryResult x i r).chan.ignoredCalls = s.chan.ignoredCalls
      ∧ (s.entryResult x i r).chan.badDirections = s.chan.badDirections
      ∧ (s.entryResult x i r).chan.unexpectedPassages = s.chan.unexpectedPassages := by
  and_intros <;> (unfold State.entryResult; (repeat' split) <;> (try simp))
/-- What `State.entryResult` leaves unchanged of the Condition Evaluator. -/
@[simp] theorem State.entryResult_cond (s : State) (x : BitVec 16) (i : Nat) (r : Result) :
    (s.entryResult x i r).cond.table = s.cond.table := by
  unfold State.entryResult; (repeat' split) <;> (try simp)
/-- What `State.entryResult` leaves unchanged of the Field Engine. -/
@[simp] theorem State.entryResult_field (s : State) (x : BitVec 16) (i : Nat) (r : Result) :
    (s.entryResult x i r).field.scanList = s.field.scanList ∧ (s.entryResult x i r).field.tx = s.field.tx
      ∧ (s.entryResult x i r).field.link = s.field.link ∧ (s.entryResult x i r).field.nodes = s.field.nodes
      ∧ (s.entryResult x i r).field.counts = s.field.counts
      ∧ (s.entryResult x i r).field.receiver = s.field.receiver
      ∧ (s.entryResult x i r).field.line = s.field.line
      ∧ (s.entryResult x i r).field.arrivals = s.field.arrivals
      ∧ (s.entryResult x i r).field.contention = s.field.contention
      ∧ (s.entryResult x i r).field.credit = s.field.credit
      ∧ (s.entryResult x i r).field.scanMode = s.field.scanMode
      ∧ (s.entryResult x i r).field.echo = s.field.echo
      ∧ (s.entryResult x i r).field.nextTag = s.field.nextTag
      ∧ (s.entryResult x i r).field.trimA = s.field.trimA
      ∧ (s.entryResult x i r).field.trimB = s.field.trimB
      ∧ (s.entryResult x i r).field.stopA = s.field.stopA
      ∧ (s.entryResult x i r).field.stopB = s.field.stopB
      ∧ (s.entryResult x i r).field.pointer = s.field.pointer
      ∧ (s.entryResult x i r).field.cycle = s.field.cycle
      ∧ (s.entryResult x i r).field.sweep = s.field.sweep
      ∧ (s.entryResult x i r).field.replyTimeout = s.field.replyTimeout
      ∧ (s.entryResult x i r).field.silentLimit = s.field.silentLimit := by
  and_intros <;> (unfold State.entryResult; (repeat' split) <;> (try simp))
/-- What `State.entryResult` leaves unchanged of the Span Supervisor. -/
@[simp] theorem State.entryResult_span (s : State) (x : BitVec 16) (i : Nat) (r : Result) :
    (s.entryResult x i r).span.record = s.span.record
      ∧ (s.entryResult x i r).span.correction = s.span.correction
      ∧ (s.entryResult x i r).span.level = s.span.level
      ∧ (s.entryResult x i r).span.lastSkew = s.span.lastSkew
      ∧ (s.entryResult x i r).span.lastHold = s.span.lastHold
      ∧ (s.entryResult x i r).span.holdRunning = s.span.holdRunning
      ∧ (s.entryResult x i r).span.previous = s.span.previous
      ∧ (s.entryResult x i r).span.lastTrim = s.span.lastTrim
      ∧ (s.entryResult x i r).span.levelChanges = s.span.levelChanges := by
  and_intros <;> (unfold State.entryResult; (repeat' split) <;> (try simp))
/-- What `State.entryResult` leaves unchanged of the mode and the chain. -/
@[simp] theorem State.entryResult_unit (s : State) (x : BitVec 16) (i : Nat) (r : Result) :
    (s.entryResult x i r).unit.limits = s.unit.limits ∧ (s.entryResult x i r).unit.estop = s.unit.estop
      ∧ (s.entryResult x i r).unit.key = s.unit.key ∧ (s.entryResult x i r).unit.locked = s.unit.locked
      ∧ (s.entryResult x i r).unit.validation = s.unit.validation := by
  and_intros <;> (unfold State.entryResult; (repeat' split) <;> (try simp))
/-- What `State.entryResult` leaves unchanged of the Point Image. -/
@[simp] theorem State.entryResult_points (s : State) (x : BitVec 16) (i : Nat) (r : Result) :
    (s.entryResult x i r).points.map = s.points.map
      ∧ (s.entryResult x i r).points.firstPair = s.points.firstPair
      ∧ (s.entryResult x i r).points.pairLoss = s.points.pairLoss := by
  and_intros <;> (unfold State.entryResult; (repeat' split) <;> (try simp))

end Sys2Proof.Machine
end

