-- ==== Sys2Proof/Laws/FramesSupervisor.lean ====
section
/-! SUPPORT. What each shared operation of the Span Supervisor leaves
unchanged, field by field: the provers cite these lemmas instead of unfolding the operation. -/

namespace Sys2Proof.Machine

set_option linter.all false
set_option Elab.async false

/-- The blocks `State.placeStop` leaves unchanged. -/
@[simp] theorem State.placeStop_frame (s : State) (t : Tower) :
    (s.placeStop t).power = s.power ∧ (s.placeStop t).now = s.now ∧ (s.placeStop t).pending = s.pending
      ∧ (s.placeStop t).console = s.console ∧ (s.placeStop t).points = s.points
      ∧ (s.placeStop t).cond = s.cond ∧ (s.placeStop t).gate = s.gate ∧ (s.placeStop t).span = s.span
      ∧ (s.placeStop t).seq = s.seq ∧ (s.placeStop t).chan = s.chan ∧ (s.placeStop t).duty = s.duty
      ∧ (s.placeStop t).unit = s.unit := by
  and_intros <;> (unfold State.placeStop; split <;> cases t <;> (try simp [Field.setStop]))
/-- What `State.placeStop` leaves unchanged of the Field Engine. -/
@[simp] theorem State.placeStop_field (s : State) (t : Tower) :
    (s.placeStop t).field.scanList = s.field.scanList ∧ (s.placeStop t).field.tx = s.field.tx
      ∧ (s.placeStop t).field.link = s.field.link ∧ (s.placeStop t).field.nodes = s.field.nodes
      ∧ (s.placeStop t).field.allStop = s.field.allStop ∧ (s.placeStop t).field.counts = s.field.counts
      ∧ (s.placeStop t).field.receiver = s.field.receiver ∧ (s.placeStop t).field.line = s.field.line
      ∧ (s.placeStop t).field.arrivals = s.field.arrivals
      ∧ (s.placeStop t).field.contention = s.field.contention
      ∧ (s.placeStop t).field.credit = s.field.credit ∧ (s.placeStop t).field.scanMode = s.field.scanMode
      ∧ (s.placeStop t).field.echo = s.field.echo ∧ (s.placeStop t).field.nextTag = s.field.nextTag
      ∧ (s.placeStop t).field.trimA = s.field.trimA ∧ (s.placeStop t).field.trimB = s.field.trimB
      ∧ (s.placeStop t).field.pointer = s.field.pointer ∧ (s.placeStop t).field.cycle = s.field.cycle
      ∧ (s.placeStop t).field.sweep = s.field.sweep
      ∧ (s.placeStop t).field.replyTimeout = s.field.replyTimeout
      ∧ (s.placeStop t).field.silentLimit = s.field.silentLimit := by
  and_intros <;> (unfold State.placeStop; split <;> cases t <;> (try simp [Field.setStop]))

/-- The blocks `State.beginStopping` leaves unchanged. -/
@[simp] theorem State.beginStopping_frame (s : State) (k : StopKind) :
    (s.beginStopping k).power = s.power ∧ (s.beginStopping k).now = s.now
      ∧ (s.beginStopping k).pending = s.pending ∧ (s.beginStopping k).unit = s.unit := by
  and_intros <;> (unfold State.beginStopping; (try dsimp only); (try simp))
/-- What `State.beginStopping` leaves unchanged of the Console Port. -/
@[simp] theorem State.beginStopping_console (s : State) (k : StopKind) :
    (s.beginStopping k).console.ingress = s.console.ingress
      ∧ (s.beginStopping k).console.arrivals = s.console.arrivals
      ∧ (s.beginStopping k).console.restart = s.console.restart
      ∧ (s.beginStopping k).console.receiver = s.console.receiver
      ∧ (s.beginStopping k).console.line = s.console.line
      ∧ (s.beginStopping k).console.counts = s.console.counts
      ∧ (s.beginStopping k).console.sending = s.console.sending
      ∧ (s.beginStopping k).console.ingressOverflows = s.console.ingressOverflows := by
  and_intros <;> (unfold State.beginStopping; (try dsimp only); (try simp))
/-- What `State.beginStopping` leaves unchanged of the Order Gate. -/
@[simp] theorem State.beginStopping_gate (s : State) (k : StopKind) :
    (s.beginStopping k).gate.permits = s.gate.permits ∧ (s.beginStopping k).gate.orders = s.gate.orders
      ∧ (s.beginStopping k).gate.held = s.gate.held ∧ (s.beginStopping k).gate.own = s.gate.own
      ∧ (s.beginStopping k).gate.standdowns = s.gate.standdowns := by
  and_intros <;> (unfold State.beginStopping; (try dsimp only); (try simp))
/-- What `State.beginStopping` leaves unchanged of the Crossing Sequencer. -/
@[simp] theorem State.beginStopping_seq (s : State) (k : StopKind) :
    (s.beginStopping k).seq.table = s.seq.table ∧ (s.beginStopping k).seq.phase = s.seq.phase
      ∧ (s.beginStopping k).seq.standdowns = s.seq.standdowns
      ∧ (s.beginStopping k).seq.serial = s.seq.serial ∧ (s.beginStopping k).seq.tracking = s.seq.tracking
      ∧ (s.beginStopping k).seq.interrupted = s.seq.interrupted
      ∧ (s.beginStopping k).seq.request = s.seq.request ∧ (s.beginStopping k).seq.recovery = s.seq.recovery
      ∧ (s.beginStopping k).seq.dwell = s.seq.dwell ∧ (s.beginStopping k).seq.limit = s.seq.limit := by
  and_intros <;> (unfold State.beginStopping; (try dsimp only); (try simp))
/-- What `State.beginStopping` leaves unchanged of the Channel Controller. -/
@[simp] theorem State.beginStopping_chan (s : State) (k : StopKind) :
    (s.beginStopping k).chan.record = s.chan.record ∧ (s.beginStopping k).chan.vessels = s.chan.vessels
      ∧ (s.beginStopping k).chan.state = s.chan.state ∧ (s.beginStopping k).chan.north = s.chan.north
      ∧ (s.beginStopping k).chan.south = s.chan.south ∧ (s.beginStopping k).chan.closing = s.chan.closing
      ∧ (s.beginStopping k).chan.phaseSeen = s.chan.phaseSeen
      ∧ (s.beginStopping k).chan.standdowns = s.chan.standdowns
      ∧ (s.beginStopping k).chan.changeoverPending = s.chan.changeoverPending
      ∧ (s.beginStopping k).chan.greenTimer = s.chan.greenTimer
      ∧ (s.beginStopping k).chan.changeoverTimer = s.chan.changeoverTimer
      ∧ (s.beginStopping k).chan.retryTimer = s.chan.retryTimer
      ∧ (s.beginStopping k).chan.greenExpired = s.chan.greenExpired
      ∧ (s.beginStopping k).chan.ignoredCalls = s.chan.ignoredCalls
      ∧ (s.beginStopping k).chan.badDirections = s.chan.badDirections
      ∧ (s.beginStopping k).chan.unexpectedPassages = s.chan.unexpectedPassages := by
  and_intros <;> (unfold State.beginStopping; (try dsimp only); (try simp))
/-- What `State.beginStopping` leaves unchanged of the Condition Evaluator. -/
@[simp] theorem State.beginStopping_cond (s : State) (k : StopKind) :
    (s.beginStopping k).cond.table = s.cond.table
      ∧ (s.beginStopping k).cond.counterChanges = s.cond.counterChanges := by
  and_intros <;> (unfold State.beginStopping; (try dsimp only); (try simp))
/-- What `State.beginStopping` leaves unchanged of the Field Engine. -/
@[simp] theorem State.beginStopping_field (s : State) (k : StopKind) :
    (s.beginStopping k).field.scanList = s.field.scanList ∧ (s.beginStopping k).field.tx = s.field.tx
      ∧ (s.beginStopping k).field.link = s.field.link ∧ (s.beginStopping k).field.nodes = s.field.nodes
      ∧ (s.beginStopping k).field.allStop = s.field.allStop
      ∧ (s.beginStopping k).field.counts = s.field.counts
      ∧ (s.beginStopping k).field.receiver = s.field.receiver
      ∧ (s.beginStopping k).field.line = s.field.line
      ∧ (s.beginStopping k).field.arrivals = s.field.arrivals
      ∧ (s.beginStopping k).field.contention = s.field.contention
      ∧ (s.beginStopping k).field.credit = s.field.credit
      ∧ (s.beginStopping k).field.scanMode = s.field.scanMode
      ∧ (s.beginStopping k).field.echo = s.field.echo ∧ (s.beginStopping k).field.nextTag = s.field.nextTag
      ∧ (s.beginStopping k).field.pointer = s.field.pointer
      ∧ (s.beginStopping k).field.cycle = s.field.cycle ∧ (s.beginStopping k).field.sweep = s.field.sweep
      ∧ (s.beginStopping k).field.replyTimeout = s.field.replyTimeout
      ∧ (s.beginStopping k).field.silentLimit = s.field.silentLimit := by
  and_intros <;> (unfold State.beginStopping; (try dsimp only); (try simp))
/-- What `State.beginStopping` leaves unchanged of the Span Supervisor. -/
@[simp] theorem State.beginStopping_span (s : State) (k : StopKind) :
    (s.beginStopping k).span.record = s.span.record
      ∧ (s.beginStopping k).span.correction = s.span.correction
      ∧ (s.beginStopping k).span.level = s.span.level ∧ (s.beginStopping k).span.lastSkew = s.span.lastSkew
      ∧ (s.beginStopping k).span.lastHold = s.span.lastHold
      ∧ (s.beginStopping k).span.holdRunning = s.span.holdRunning
      ∧ (s.beginStopping k).span.towerA = s.span.towerA ∧ (s.beginStopping k).span.towerB = s.span.towerB
      ∧ (s.beginStopping k).span.previous = s.span.previous
      ∧ (s.beginStopping k).span.lastTrim = s.span.lastTrim
      ∧ (s.beginStopping k).span.levelChanges = s.span.levelChanges := by
  and_intros <;> (unfold State.beginStopping; (try dsimp only); (try simp))
/-- What `State.beginStopping` leaves unchanged of the Point Image. -/
@[simp] theorem State.beginStopping_points (s : State) (k : StopKind) :
    (s.beginStopping k).points.map = s.points.map
      ∧ (s.beginStopping k).points.firstPair = s.points.firstPair
      ∧ (s.beginStopping k).points.pairLoss = s.points.pairLoss := by
  and_intros <;> (unfold State.beginStopping; (try dsimp only); (try simp))
/-- What `State.beginStopping` leaves unchanged of the Duty Counter Unit. -/
@[simp] theorem State.beginStopping_duty (s : State) (k : StopKind) :
    (s.beginStopping k).duty.residency = s.duty.residency
      ∧ (s.beginStopping k).duty.occupancy = s.duty.occupancy
      ∧ (s.beginStopping k).duty.standing = s.duty.standing ∧ (s.beginStopping k).duty.phase = s.duty.phase
      ∧ (s.beginStopping k).duty.frozen = s.duty.frozen ∧ (s.beginStopping k).duty.bands = s.duty.bands
      ∧ (s.beginStopping k).duty.counters = s.duty.counters := by
  and_intros <;> (unfold State.beginStopping; (try dsimp only); (try simp))

/-- The blocks `State.sequencerMotionStop` leaves unchanged. -/
@[simp] theorem State.sequencerMotionStop_frame (s : State) :
    (s.sequencerMotionStop).power = s.power ∧ (s.sequencerMotionStop).now = s.now
      ∧ (s.sequencerMotionStop).pending = s.pending := by
  and_intros <;> (unfold State.sequencerMotionStop; split <;> (try simp))
/-- What `State.sequencerMotionStop` leaves unchanged of the Console Port. -/
@[simp] theorem State.sequencerMotionStop_console (s : State) :
    (s.sequencerMotionStop).console.ingress = s.console.ingress
      ∧ (s.sequencerMotionStop).console.arrivals = s.console.arrivals
      ∧ (s.sequencerMotionStop).console.restart = s.console.restart
      ∧ (s.sequencerMotionStop).console.receiver = s.console.receiver
      ∧ (s.sequencerMotionStop).console.line = s.console.line
      ∧ (s.sequencerMotionStop).console.counts = s.console.counts
      ∧ (s.sequencerMotionStop).console.sending = s.console.sending
      ∧ (s.sequencerMotionStop).console.ingressOverflows = s.console.ingressOverflows := by
  and_intros <;> (unfold State.sequencerMotionStop; split <;> (try simp))
/-- What `State.sequencerMotionStop` leaves unchanged of the Order Gate. -/
@[simp] theorem State.sequencerMotionStop_gate (s : State) :
    (s.sequencerMotionStop).gate.permits = s.gate.permits
      ∧ (s.sequencerMotionStop).gate.orders = s.gate.orders
      ∧ (s.sequencerMotionStop).gate.held = s.gate.held := by
  and_intros <;> (unfold State.sequencerMotionStop; split <;> (try simp))
/-- What `State.sequencerMotionStop` leaves unchanged of the Crossing Sequencer. -/
@[simp] theorem State.sequencerMotionStop_seq (s : State) :
    (s.sequencerMotionStop).seq.table = s.seq.table ∧ (s.sequencerMotionStop).seq.serial = s.seq.serial := by
  and_intros <;> (unfold State.sequencerMotionStop; split <;> (try simp))
/-- What `State.sequencerMotionStop` leaves unchanged of the Channel Controller. -/
@[simp] theorem State.sequencerMotionStop_chan (s : State) :
    (s.sequencerMotionStop).chan.record = s.chan.record
      ∧ (s.sequencerMotionStop).chan.ignoredCalls = s.chan.ignoredCalls
      ∧ (s.sequencerMotionStop).chan.badDirections = s.chan.badDirections
      ∧ (s.sequencerMotionStop).chan.unexpectedPassages = s.chan.unexpectedPassages := by
  and_intros <;> (unfold State.sequencerMotionStop; split <;> (try simp))
/-- What `State.sequencerMotionStop` leaves unchanged of the Condition Evaluator. -/
@[simp] theorem State.sequencerMotionStop_cond (s : State) :
    (s.sequencerMotionStop).cond.table = s.cond.table := by
  unfold State.sequencerMotionStop; split <;> (try simp)
/-- What `State.sequencerMotionStop` leaves unchanged of the Field Engine. -/
@[simp] theorem State.sequencerMotionStop_field (s : State) :
    (s.sequencerMotionStop).field.scanList = s.field.scanList
      ∧ (s.sequencerMotionStop).field.tx = s.field.tx ∧ (s.sequencerMotionStop).field.link = s.field.link
      ∧ (s.sequencerMotionStop).field.nodes = s.field.nodes
      ∧ (s.sequencerMotionStop).field.counts = s.field.counts
      ∧ (s.sequencerMotionStop).field.receiver = s.field.receiver
      ∧ (s.sequencerMotionStop).field.line = s.field.line
      ∧ (s.sequencerMotionStop).field.arrivals = s.field.arrivals
      ∧ (s.sequencerMotionStop).field.contention = s.field.contention
      ∧ (s.sequencerMotionStop).field.credit = s.field.credit
      ∧ (s.sequencerMotionStop).field.scanMode = s.field.scanMode
      ∧ (s.sequencerMotionStop).field.echo = s.field.echo
      ∧ (s.sequencerMotionStop).field.nextTag = s.field.nextTag
      ∧ (s.sequencerMotionStop).field.trimA = s.field.trimA
      ∧ (s.sequencerMotionStop).field.trimB = s.field.trimB
      ∧ (s.sequencerMotionStop).field.stopA = s.field.stopA
      ∧ (s.sequencerMotionStop).field.stopB = s.field.stopB
      ∧ (s.sequencerMotionStop).field.pointer = s.field.pointer
      ∧ (s.sequencerMotionStop).field.cycle = s.field.cycle
      ∧ (s.sequencerMotionStop).field.sweep = s.field.sweep
      ∧ (s.sequencerMotionStop).field.replyTimeout = s.field.replyTimeout
      ∧ (s.sequencerMotionStop).field.silentLimit = s.field.silentLimit := by
  and_intros <;> (unfold State.sequencerMotionStop; split <;> (try simp))
/-- What `State.sequencerMotionStop` leaves unchanged of the Span Supervisor. -/
@[simp] theorem State.sequencerMotionStop_span (s : State) :
    (s.sequencerMotionStop).span.record = s.span.record
      ∧ (s.sequencerMotionStop).span.correction = s.span.correction
      ∧ (s.sequencerMotionStop).span.level = s.span.level
      ∧ (s.sequencerMotionStop).span.lastSkew = s.span.lastSkew
      ∧ (s.sequencerMotionStop).span.lastHold = s.span.lastHold
      ∧ (s.sequencerMotionStop).span.holdRunning = s.span.holdRunning
      ∧ (s.sequencerMotionStop).span.previous = s.span.previous
      ∧ (s.sequencerMotionStop).span.lastTrim = s.span.lastTrim
      ∧ (s.sequencerMotionStop).span.levelChanges = s.span.levelChanges := by
  and_intros <;> (unfold State.sequencerMotionStop; split <;> (try simp))
/-- What `State.sequencerMotionStop` leaves unchanged of the mode and the chain. -/
@[simp] theorem State.sequencerMotionStop_unit (s : State) :
    (s.sequencerMotionStop).unit.limits = s.unit.limits ∧ (s.sequencerMotionStop).unit.estop = s.unit.estop
      ∧ (s.sequencerMotionStop).unit.key = s.unit.key ∧ (s.sequencerMotionStop).unit.locked = s.unit.locked
      ∧ (s.sequencerMotionStop).unit.validation = s.unit.validation := by
  and_intros <;> (unfold State.sequencerMotionStop; split <;> (try simp))
/-- What `State.sequencerMotionStop` leaves unchanged of the Point Image. -/
@[simp] theorem State.sequencerMotionStop_points (s : State) :
    (s.sequencerMotionStop).points.map = s.points.map
      ∧ (s.sequencerMotionStop).points.firstPair = s.points.firstPair
      ∧ (s.sequencerMotionStop).points.pairLoss = s.points.pairLoss := by
  and_intros <;> (unfold State.sequencerMotionStop; split <;> (try simp))

/-- The blocks `State.motionStop` leaves unchanged. -/
@[simp] theorem State.motionStop_frame (s : State) (c : MotionCause) :
    (s.motionStop c).power = s.power ∧ (s.motionStop c).now = s.now ∧ (s.motionStop c).pending = s.pending := by
  and_intros <;> (unfold State.motionStop; split <;> (try simp))
/-- What `State.motionStop` leaves unchanged of the Console Port. -/
@[simp] theorem State.motionStop_console (s : State) (c : MotionCause) :
    (s.motionStop c).console.ingress = s.console.ingress
      ∧ (s.motionStop c).console.arrivals = s.console.arrivals
      ∧ (s.motionStop c).console.restart = s.console.restart
      ∧ (s.motionStop c).console.receiver = s.console.receiver
      ∧ (s.motionStop c).console.line = s.console.line ∧ (s.motionStop c).console.counts = s.console.counts
      ∧ (s.motionStop c).console.sending = s.console.sending
      ∧ (s.motionStop c).console.ingressOverflows = s.console.ingressOverflows := by
  and_intros <;> (unfold State.motionStop; split <;> (try simp))
/-- What `State.motionStop` leaves unchanged of the Order Gate. -/
@[simp] theorem State.motionStop_gate (s : State) (c : MotionCause) :
    (s.motionStop c).gate.permits = s.gate.permits ∧ (s.motionStop c).gate.orders = s.gate.orders
      ∧ (s.motionStop c).gate.held = s.gate.held := by
  and_intros <;> (unfold State.motionStop; split <;> (try simp))
/-- What `State.motionStop` leaves unchanged of the Crossing Sequencer. -/
@[simp] theorem State.motionStop_seq (s : State) (c : MotionCause) :
    (s.motionStop c).seq.table = s.seq.table ∧ (s.motionStop c).seq.serial = s.seq.serial := by
  and_intros <;> (unfold State.motionStop; split <;> (try simp))
/-- What `State.motionStop` leaves unchanged of the Channel Controller. -/
@[simp] theorem State.motionStop_chan (s : State) (c : MotionCause) :
    (s.motionStop c).chan.record = s.chan.record
      ∧ (s.motionStop c).chan.ignoredCalls = s.chan.ignoredCalls
      ∧ (s.motionStop c).chan.badDirections = s.chan.badDirections
      ∧ (s.motionStop c).chan.unexpectedPassages = s.chan.unexpectedPassages := by
  and_intros <;> (unfold State.motionStop; split <;> (try simp))
/-- What `State.motionStop` leaves unchanged of the Condition Evaluator. -/
@[simp] theorem State.motionStop_cond (s : State) (c : MotionCause) :
    (s.motionStop c).cond.table = s.cond.table := by
  unfold State.motionStop; split <;> (try simp)
/-- What `State.motionStop` leaves unchanged of the Field Engine. -/
@[simp] theorem State.motionStop_field (s : State) (c : MotionCause) :
    (s.motionStop c).field.scanList = s.field.scanList ∧ (s.motionStop c).field.tx = s.field.tx
      ∧ (s.motionStop c).field.link = s.field.link ∧ (s.motionStop c).field.nodes = s.field.nodes
      ∧ (s.motionStop c).field.counts = s.field.counts ∧ (s.motionStop c).field.receiver = s.field.receiver
      ∧ (s.motionStop c).field.line = s.field.line ∧ (s.motionStop c).field.arrivals = s.field.arrivals
      ∧ (s.motionStop c).field.contention = s.field.contention
      ∧ (s.motionStop c).field.credit = s.field.credit ∧ (s.motionStop c).field.scanMode = s.field.scanMode
      ∧ (s.motionStop c).field.echo = s.field.echo ∧ (s.motionStop c).field.nextTag = s.field.nextTag
      ∧ (s.motionStop c).field.pointer = s.field.pointer ∧ (s.motionStop c).field.cycle = s.field.cycle
      ∧ (s.motionStop c).field.sweep = s.field.sweep
      ∧ (s.motionStop c).field.replyTimeout = s.field.replyTimeout
      ∧ (s.motionStop c).field.silentLimit = s.field.silentLimit := by
  and_intros <;> (unfold State.motionStop; split <;> (try simp))
/-- What `State.motionStop` leaves unchanged of the Span Supervisor. -/
@[simp] theorem State.motionStop_span (s : State) (c : MotionCause) :
    (s.motionStop c).span.record = s.span.record ∧ (s.motionStop c).span.correction = s.span.correction
      ∧ (s.motionStop c).span.level = s.span.level ∧ (s.motionStop c).span.lastSkew = s.span.lastSkew
      ∧ (s.motionStop c).span.lastHold = s.span.lastHold
      ∧ (s.motionStop c).span.holdRunning = s.span.holdRunning
      ∧ (s.motionStop c).span.previous = s.span.previous ∧ (s.motionStop c).span.lastTrim = s.span.lastTrim
      ∧ (s.motionStop c).span.levelChanges = s.span.levelChanges := by
  and_intros <;> (unfold State.motionStop; split <;> (try simp))
/-- What `State.motionStop` leaves unchanged of the mode and the chain. -/
@[simp] theorem State.motionStop_unit (s : State) (c : MotionCause) :
    (s.motionStop c).unit.limits = s.unit.limits ∧ (s.motionStop c).unit.estop = s.unit.estop
      ∧ (s.motionStop c).unit.key = s.unit.key ∧ (s.motionStop c).unit.locked = s.unit.locked
      ∧ (s.motionStop c).unit.validation = s.unit.validation := by
  and_intros <;> (unfold State.motionStop; split <;> (try simp))
/-- What `State.motionStop` leaves unchanged of the Point Image. -/
@[simp] theorem State.motionStop_points (s : State) (c : MotionCause) :
    (s.motionStop c).points.map = s.points.map ∧ (s.motionStop c).points.firstPair = s.points.firstPair
      ∧ (s.motionStop c).points.pairLoss = s.points.pairLoss := by
  and_intros <;> (unfold State.motionStop; split <;> (try simp))

/-- The blocks `State.levelStage` leaves unchanged. -/
@[simp] theorem State.levelStage_frame (s : State) (l : LimitRecord) (k : Int) :
    (s.levelStage l k).power = s.power ∧ (s.levelStage l k).now = s.now
      ∧ (s.levelStage l k).pending = s.pending ∧ (s.levelStage l k).field = s.field
      ∧ (s.levelStage l k).unit = s.unit := by
  and_intros <;> (unfold State.levelStage; (try dsimp only); (repeat' split) <;> (try simp))
/-- What `State.levelStage` leaves unchanged of the Console Port. -/
@[simp] theorem State.levelStage_console (s : State) (l : LimitRecord) (k : Int) :
    (s.levelStage l k).console.ingress = s.console.ingress
      ∧ (s.levelStage l k).console.arrivals = s.console.arrivals
      ∧ (s.levelStage l k).console.restart = s.console.restart
      ∧ (s.levelStage l k).console.receiver = s.console.receiver
      ∧ (s.levelStage l k).console.line = s.console.line
      ∧ (s.levelStage l k).console.counts = s.console.counts
      ∧ (s.levelStage l k).console.sending = s.console.sending
      ∧ (s.levelStage l k).console.ingressOverflows = s.console.ingressOverflows := by
  and_intros <;> (unfold State.levelStage; (try dsimp only); (repeat' split) <;> (try simp))
/-- What `State.levelStage` leaves unchanged of the Order Gate. -/
@[simp] theorem State.levelStage_gate (s : State) (l : LimitRecord) (k : Int) :
    (s.levelStage l k).gate.permits = s.gate.permits ∧ (s.levelStage l k).gate.orders = s.gate.orders
      ∧ (s.levelStage l k).gate.held = s.gate.held ∧ (s.levelStage l k).gate.own = s.gate.own
      ∧ (s.levelStage l k).gate.standdowns = s.gate.standdowns := by
  and_intros <;> (unfold State.levelStage; (try dsimp only); (repeat' split) <;> (try simp))
/-- What `State.levelStage` leaves unchanged of the Crossing Sequencer. -/
@[simp] theorem State.levelStage_seq (s : State) (l : LimitRecord) (k : Int) :
    (s.levelStage l k).seq.table = s.seq.table ∧ (s.levelStage l k).seq.phase = s.seq.phase
      ∧ (s.levelStage l k).seq.standdowns = s.seq.standdowns ∧ (s.levelStage l k).seq.serial = s.seq.serial
      ∧ (s.levelStage l k).seq.tracking = s.seq.tracking
      ∧ (s.levelStage l k).seq.interrupted = s.seq.interrupted
      ∧ (s.levelStage l k).seq.request = s.seq.request ∧ (s.levelStage l k).seq.recovery = s.seq.recovery
      ∧ (s.levelStage l k).seq.dwell = s.seq.dwell ∧ (s.levelStage l k).seq.limit = s.seq.limit := by
  and_intros <;> (unfold State.levelStage; (try dsimp only); (repeat' split) <;> (try simp))
/-- What `State.levelStage` leaves unchanged of the Channel Controller. -/
@[simp] theorem State.levelStage_chan (s : State) (l : LimitRecord) (k : Int) :
    (s.levelStage l k).chan.record = s.chan.record ∧ (s.levelStage l k).chan.vessels = s.chan.vessels
      ∧ (s.levelStage l k).chan.state = s.chan.state ∧ (s.levelStage l k).chan.north = s.chan.north
      ∧ (s.levelStage l k).chan.south = s.chan.south ∧ (s.levelStage l k).chan.closing = s.chan.closing
      ∧ (s.levelStage l k).chan.phaseSeen = s.chan.phaseSeen
      ∧ (s.levelStage l k).chan.standdowns = s.chan.standdowns
      ∧ (s.levelStage l k).chan.changeoverPending = s.chan.changeoverPending
      ∧ (s.levelStage l k).chan.greenTimer = s.chan.greenTimer
      ∧ (s.levelStage l k).chan.changeoverTimer = s.chan.changeoverTimer
      ∧ (s.levelStage l k).chan.retryTimer = s.chan.retryTimer
      ∧ (s.levelStage l k).chan.greenExpired = s.chan.greenExpired
      ∧ (s.levelStage l k).chan.ignoredCalls = s.chan.ignoredCalls
      ∧ (s.levelStage l k).chan.badDirections = s.chan.badDirections
      ∧ (s.levelStage l k).chan.unexpectedPassages = s.chan.unexpectedPassages := by
  and_intros <;> (unfold State.levelStage; (try dsimp only); (repeat' split) <;> (try simp))
/-- What `State.levelStage` leaves unchanged of the Condition Evaluator. -/
@[simp] theorem State.levelStage_cond (s : State) (l : LimitRecord) (k : Int) :
    (s.levelStage l k).cond.table = s.cond.table
      ∧ (s.levelStage l k).cond.counterChanges = s.cond.counterChanges := by
  and_intros <;> (unfold State.levelStage; (try dsimp only); (repeat' split) <;> (try simp))
/-- What `State.levelStage` leaves unchanged of the Span Supervisor. -/
@[simp] theorem State.levelStage_span (s : State) (l : LimitRecord) (k : Int) :
    (s.levelStage l k).span.record = s.span.record ∧ (s.levelStage l k).span.motion = s.span.motion
      ∧ (s.levelStage l k).span.correction = s.span.correction
      ∧ (s.levelStage l k).span.lastSkew = s.span.lastSkew
      ∧ (s.levelStage l k).span.lastHold = s.span.lastHold
      ∧ (s.levelStage l k).span.holdRunning = s.span.holdRunning
      ∧ (s.levelStage l k).span.startWindow = s.span.startWindow
      ∧ (s.levelStage l k).span.stopTimer = s.span.stopTimer
      ∧ (s.levelStage l k).span.towerA = s.span.towerA ∧ (s.levelStage l k).span.towerB = s.span.towerB
      ∧ (s.levelStage l k).span.previous = s.span.previous
      ∧ (s.levelStage l k).span.lastTrim = s.span.lastTrim
      ∧ (s.levelStage l k).span.stopKind = s.span.stopKind := by
  and_intros <;> (unfold State.levelStage; (try dsimp only); (repeat' split) <;> (try simp))
/-- What `State.levelStage` leaves unchanged of the Point Image. -/
@[simp] theorem State.levelStage_points (s : State) (l : LimitRecord) (k : Int) :
    (s.levelStage l k).points.map = s.points.map ∧ (s.levelStage l k).points.firstPair = s.points.firstPair
      ∧ (s.levelStage l k).points.pairLoss = s.points.pairLoss := by
  and_intros <;> (unfold State.levelStage; (try dsimp only); (repeat' split) <;> (try simp))
/-- What `State.levelStage` leaves unchanged of the Duty Counter Unit. -/
@[simp] theorem State.levelStage_duty (s : State) (l : LimitRecord) (k : Int) :
    (s.levelStage l k).duty.residency = s.duty.residency
      ∧ (s.levelStage l k).duty.occupancy = s.duty.occupancy
      ∧ (s.levelStage l k).duty.standing = s.duty.standing ∧ (s.levelStage l k).duty.phase = s.duty.phase
      ∧ (s.levelStage l k).duty.frozen = s.duty.frozen ∧ (s.levelStage l k).duty.bands = s.duty.bands
      ∧ (s.levelStage l k).duty.counters = s.duty.counters := by
  and_intros <;> (unfold State.levelStage; (try dsimp only); (repeat' split) <;> (try simp))

/-- The blocks `State.correctionStage` leaves unchanged. -/
@[simp] theorem State.correctionStage_frame (s : State) (l : LimitRecord) (k : Int) :
    (s.correctionStage l k).power = s.power ∧ (s.correctionStage l k).now = s.now
      ∧ (s.correctionStage l k).pending = s.pending ∧ (s.correctionStage l k).field = s.field
      ∧ (s.correctionStage l k).unit = s.unit := by
  and_intros <;> (unfold State.correctionStage; (try dsimp only); (repeat' split) <;> (try simp))
/-- What `State.correctionStage` leaves unchanged of the Console Port. -/
@[simp] theorem State.correctionStage_console (s : State) (l : LimitRecord) (k : Int) :
    (s.correctionStage l k).console.ingress = s.console.ingress
      ∧ (s.correctionStage l k).console.arrivals = s.console.arrivals
      ∧ (s.correctionStage l k).console.restart = s.console.restart
      ∧ (s.correctionStage l k).console.receiver = s.console.receiver
      ∧ (s.correctionStage l k).console.line = s.console.line
      ∧ (s.correctionStage l k).console.counts = s.console.counts
      ∧ (s.correctionStage l k).console.sending = s.console.sending
      ∧ (s.correctionStage l k).console.ingressOverflows = s.console.ingressOverflows := by
  and_intros <;> (unfold State.correctionStage; (try dsimp only); (repeat' split) <;> (try simp))
/-- What `State.correctionStage` leaves unchanged of the Order Gate. -/
@[simp] theorem State.correctionStage_gate (s : State) (l : LimitRecord) (k : Int) :
    (s.correctionStage l k).gate.permits = s.gate.permits
      ∧ (s.correctionStage l k).gate.orders = s.gate.orders
      ∧ (s.correctionStage l k).gate.held = s.gate.held ∧ (s.correctionStage l k).gate.own = s.gate.own
      ∧ (s.correctionStage l k).gate.standdowns = s.gate.standdowns := by
  and_intros <;> (unfold State.correctionStage; (try dsimp only); (repeat' split) <;> (try simp))
/-- What `State.correctionStage` leaves unchanged of the Crossing Sequencer. -/
@[simp] theorem State.correctionStage_seq (s : State) (l : LimitRecord) (k : Int) :
    (s.correctionStage l k).seq.table = s.seq.table ∧ (s.correctionStage l k).seq.phase = s.seq.phase
      ∧ (s.correctionStage l k).seq.standdowns = s.seq.standdowns
      ∧ (s.correctionStage l k).seq.serial = s.seq.serial
      ∧ (s.correctionStage l k).seq.tracking = s.seq.tracking
      ∧ (s.correctionStage l k).seq.interrupted = s.seq.interrupted
      ∧ (s.correctionStage l k).seq.request = s.seq.request
      ∧ (s.correctionStage l k).seq.recovery = s.seq.recovery
      ∧ (s.correctionStage l k).seq.dwell = s.seq.dwell ∧ (s.correctionStage l k).seq.limit = s.seq.limit := by
  and_intros <;> (unfold State.correctionStage; (try dsimp only); (repeat' split) <;> (try simp))
/-- What `State.correctionStage` leaves unchanged of the Channel Controller. -/
@[simp] theorem State.correctionStage_chan (s : State) (l : LimitRecord) (k : Int) :
    (s.correctionStage l k).chan.record = s.chan.record
      ∧ (s.correctionStage l k).chan.vessels = s.chan.vessels
      ∧ (s.correctionStage l k).chan.state = s.chan.state
      ∧ (s.correctionStage l k).chan.north = s.chan.north
      ∧ (s.correctionStage l k).chan.south = s.chan.south
      ∧ (s.correctionStage l k).chan.closing = s.chan.closing
      ∧ (s.correctionStage l k).chan.phaseSeen = s.chan.phaseSeen
      ∧ (s.correctionStage l k).chan.standdowns = s.chan.standdowns
      ∧ (s.correctionStage l k).chan.changeoverPending = s.chan.changeoverPending
      ∧ (s.correctionStage l k).chan.greenTimer = s.chan.greenTimer
      ∧ (s.correctionStage l k).chan.changeoverTimer = s.chan.changeoverTimer
      ∧ (s.correctionStage l k).chan.retryTimer = s.chan.retryTimer
      ∧ (s.correctionStage l k).chan.greenExpired = s.chan.greenExpired
      ∧ (s.correctionStage l k).chan.ignoredCalls = s.chan.ignoredCalls
      ∧ (s.correctionStage l k).chan.badDirections = s.chan.badDirections
      ∧ (s.correctionStage l k).chan.unexpectedPassages = s.chan.unexpectedPassages := by
  and_intros <;> (unfold State.correctionStage; (try dsimp only); (repeat' split) <;> (try simp))
/-- What `State.correctionStage` leaves unchanged of the Condition Evaluator. -/
@[simp] theorem State.correctionStage_cond (s : State) (l : LimitRecord) (k : Int) :
    (s.correctionStage l k).cond.table = s.cond.table
      ∧ (s.correctionStage l k).cond.counterChanges = s.cond.counterChanges := by
  and_intros <;> (unfold State.correctionStage; (try dsimp only); (repeat' split) <;> (try simp))
/-- What `State.correctionStage` leaves unchanged of the Span Supervisor. -/
@[simp] theorem State.correctionStage_span (s : State) (l : LimitRecord) (k : Int) :
    (s.correctionStage l k).span.record = s.span.record
      ∧ (s.correctionStage l k).span.motion = s.span.motion
      ∧ (s.correctionStage l k).span.level = s.span.level
      ∧ (s.correctionStage l k).span.lastSkew = s.span.lastSkew
      ∧ (s.correctionStage l k).span.lastHold = s.span.lastHold
      ∧ (s.correctionStage l k).span.holdRunning = s.span.holdRunning
      ∧ (s.correctionStage l k).span.startWindow = s.span.startWindow
      ∧ (s.correctionStage l k).span.stopTimer = s.span.stopTimer
      ∧ (s.correctionStage l k).span.towerA = s.span.towerA
      ∧ (s.correctionStage l k).span.towerB = s.span.towerB
      ∧ (s.correctionStage l k).span.previous = s.span.previous
      ∧ (s.correctionStage l k).span.lastTrim = s.span.lastTrim
      ∧ (s.correctionStage l k).span.stopKind = s.span.stopKind
      ∧ (s.correctionStage l k).span.levelChanges = s.span.levelChanges := by
  and_intros <;> (unfold State.correctionStage; (try dsimp only); (repeat' split) <;> (try simp))
/-- What `State.correctionStage` leaves unchanged of the Point Image. -/
@[simp] theorem State.correctionStage_points (s : State) (l : LimitRecord) (k : Int) :
    (s.correctionStage l k).points.map = s.points.map
      ∧ (s.correctionStage l k).points.firstPair = s.points.firstPair
      ∧ (s.correctionStage l k).points.pairLoss = s.points.pairLoss := by
  and_intros <;> (unfold State.correctionStage; (try dsimp only); (repeat' split) <;> (try simp))
/-- What `State.correctionStage` leaves unchanged of the Duty Counter Unit. -/
@[simp] theorem State.correctionStage_duty (s : State) (l : LimitRecord) (k : Int) :
    (s.correctionStage l k).duty.residency = s.duty.residency
      ∧ (s.correctionStage l k).duty.occupancy = s.duty.occupancy
      ∧ (s.correctionStage l k).duty.standing = s.duty.standing
      ∧ (s.correctionStage l k).duty.phase = s.duty.phase
      ∧ (s.correctionStage l k).duty.frozen = s.duty.frozen
      ∧ (s.correctionStage l k).duty.bands = s.duty.bands
      ∧ (s.correctionStage l k).duty.counters = s.duty.counters := by
  and_intros <;> (unfold State.correctionStage; (try dsimp only); (repeat' split) <;> (try simp))

/-- The blocks `State.bandStage` leaves unchanged. -/
@[simp] theorem State.bandStage_frame (s : State) (r : SpanRecord) (v : Int) :
    (s.bandStage r v).power = s.power ∧ (s.bandStage r v).now = s.now
      ∧ (s.bandStage r v).pending = s.pending ∧ (s.bandStage r v).console = s.console
      ∧ (s.bandStage r v).field = s.field ∧ (s.bandStage r v).points = s.points
      ∧ (s.bandStage r v).cond = s.cond ∧ (s.bandStage r v).gate = s.gate ∧ (s.bandStage r v).span = s.span
      ∧ (s.bandStage r v).seq = s.seq ∧ (s.bandStage r v).chan = s.chan ∧ (s.bandStage r v).unit = s.unit := by
  and_intros <;> (unfold State.bandStage Duty.band; (repeat' split) <;> (try simp))
/-- What `State.bandStage` leaves unchanged of the Duty Counter Unit. -/
@[simp] theorem State.bandStage_duty (s : State) (r : SpanRecord) (v : Int) :
    (s.bandStage r v).duty.residency = s.duty.residency
      ∧ (s.bandStage r v).duty.occupancy = s.duty.occupancy
      ∧ (s.bandStage r v).duty.standing = s.duty.standing ∧ (s.bandStage r v).duty.phase = s.duty.phase
      ∧ (s.bandStage r v).duty.frozen = s.duty.frozen ∧ (s.bandStage r v).duty.sets = s.duty.sets
      ∧ (s.bandStage r v).duty.counters = s.duty.counters := by
  and_intros <;> (unfold State.bandStage Duty.band; (repeat' split) <;> (try simp))

/-- The blocks `State.overspeedStage` leaves unchanged. -/
@[simp] theorem State.overspeedStage_frame (s : State) (l : LimitRecord) (m v : Int) :
    (s.overspeedStage l m v).power = s.power ∧ (s.overspeedStage l m v).now = s.now
      ∧ (s.overspeedStage l m v).pending = s.pending := by
  and_intros <;> (unfold State.overspeedStage; (try dsimp only); (repeat' split) <;> (try simp))
/-- What `State.overspeedStage` leaves unchanged of the Console Port. -/
@[simp] theorem State.overspeedStage_console (s : State) (l : LimitRecord) (m v : Int) :
    (s.overspeedStage l m v).console.ingress = s.console.ingress
      ∧ (s.overspeedStage l m v).console.arrivals = s.console.arrivals
      ∧ (s.overspeedStage l m v).console.restart = s.console.restart
      ∧ (s.overspeedStage l m v).console.receiver = s.console.receiver
      ∧ (s.overspeedStage l m v).console.line = s.console.line
      ∧ (s.overspeedStage l m v).console.counts = s.console.counts
      ∧ (s.overspeedStage l m v).console.sending = s.console.sending
      ∧ (s.overspeedStage l m v).console.ingressOverflows = s.console.ingressOverflows := by
  and_intros <;> (unfold State.overspeedStage; (try dsimp only); (repeat' split) <;> (try simp))
/-- What `State.overspeedStage` leaves unchanged of the Order Gate. -/
@[simp] theorem State.overspeedStage_gate (s : State) (l : LimitRecord) (m v : Int) :
    (s.overspeedStage l m v).gate.permits = s.gate.permits
      ∧ (s.overspeedStage l m v).gate.orders = s.gate.orders
      ∧ (s.overspeedStage l m v).gate.held = s.gate.held := by
  and_intros <;> (unfold State.overspeedStage; (try dsimp only); (repeat' split) <;> (try simp))
/-- What `State.overspeedStage` leaves unchanged of the Crossing Sequencer. -/
@[simp] theorem State.overspeedStage_seq (s : State) (l : LimitRecord) (m v : Int) :
    (s.overspeedStage l m v).seq.table = s.seq.table ∧ (s.overspeedStage l m v).seq.serial = s.seq.serial := by
  and_intros <;> (unfold State.overspeedStage; (try dsimp only); (repeat' split) <;> (try simp))
/-- What `State.overspeedStage` leaves unchanged of the Channel Controller. -/
@[simp] theorem State.overspeedStage_chan (s : State) (l : LimitRecord) (m v : Int) :
    (s.overspeedStage l m v).chan.record = s.chan.record
      ∧ (s.overspeedStage l m v).chan.ignoredCalls = s.chan.ignoredCalls
      ∧ (s.overspeedStage l m v).chan.badDirections = s.chan.badDirections
      ∧ (s.overspeedStage l m v).chan.unexpectedPassages = s.chan.unexpectedPassages := by
  and_intros <;> (unfold State.overspeedStage; (try dsimp only); (repeat' split) <;> (try simp))
/-- What `State.overspeedStage` leaves unchanged of the Condition Evaluator. -/
@[simp] theorem State.overspeedStage_cond (s : State) (l : LimitRecord) (m v : Int) :
    (s.overspeedStage l m v).cond.table = s.cond.table := by
  unfold State.overspeedStage; (try dsimp only); (repeat' split) <;> (try simp)
/-- What `State.overspeedStage` leaves unchanged of the Field Engine. -/
@[simp] theorem State.overspeedStage_field (s : State) (l : LimitRecord) (m v : Int) :
    (s.overspeedStage l m v).field.scanList = s.field.scanList
      ∧ (s.overspeedStage l m v).field.tx = s.field.tx ∧ (s.overspeedStage l m v).field.link = s.field.link
      ∧ (s.overspeedStage l m v).field.nodes = s.field.nodes
      ∧ (s.overspeedStage l m v).field.counts = s.field.counts
      ∧ (s.overspeedStage l m v).field.receiver = s.field.receiver
      ∧ (s.overspeedStage l m v).field.line = s.field.line
      ∧ (s.overspeedStage l m v).field.arrivals = s.field.arrivals
      ∧ (s.overspeedStage l m v).field.contention = s.field.contention
      ∧ (s.overspeedStage l m v).field.credit = s.field.credit
      ∧ (s.overspeedStage l m v).field.scanMode = s.field.scanMode
      ∧ (s.overspeedStage l m v).field.echo = s.field.echo
      ∧ (s.overspeedStage l m v).field.nextTag = s.field.nextTag
      ∧ (s.overspeedStage l m v).field.pointer = s.field.pointer
      ∧ (s.overspeedStage l m v).field.cycle = s.field.cycle
      ∧ (s.overspeedStage l m v).field.sweep = s.field.sweep
      ∧ (s.overspeedStage l m v).field.replyTimeout = s.field.replyTimeout
      ∧ (s.overspeedStage l m v).field.silentLimit = s.field.silentLimit := by
  and_intros <;> (unfold State.overspeedStage; (try dsimp only); (repeat' split) <;> (try simp))
/-- What `State.overspeedStage` leaves unchanged of the Span Supervisor. -/
@[simp] theorem State.overspeedStage_span (s : State) (l : LimitRecord) (m v : Int) :
    (s.overspeedStage l m v).span.record = s.span.record
      ∧ (s.overspeedStage l m v).span.correction = s.span.correction
      ∧ (s.overspeedStage l m v).span.level = s.span.level
      ∧ (s.overspeedStage l m v).span.lastSkew = s.span.lastSkew
      ∧ (s.overspeedStage l m v).span.lastHold = s.span.lastHold
      ∧ (s.overspeedStage l m v).span.holdRunning = s.span.holdRunning
      ∧ (s.overspeedStage l m v).span.previous = s.span.previous
      ∧ (s.overspeedStage l m v).span.lastTrim = s.span.lastTrim
      ∧ (s.overspeedStage l m v).span.levelChanges = s.span.levelChanges := by
  and_intros <;> (unfold State.overspeedStage; (try dsimp only); (repeat' split) <;> (try simp))
/-- What `State.overspeedStage` leaves unchanged of the mode and the chain. -/
@[simp] theorem State.overspeedStage_unit (s : State) (l : LimitRecord) (m v : Int) :
    (s.overspeedStage l m v).unit.limits = s.unit.limits
      ∧ (s.overspeedStage l m v).unit.estop = s.unit.estop ∧ (s.overspeedStage l m v).unit.key = s.unit.key
      ∧ (s.overspeedStage l m v).unit.locked = s.unit.locked
      ∧ (s.overspeedStage l m v).unit.validation = s.unit.validation := by
  and_intros <;> (unfold State.overspeedStage; (try dsimp only); (repeat' split) <;> (try simp))
/-- What `State.overspeedStage` leaves unchanged of the Point Image. -/
@[simp] theorem State.overspeedStage_points (s : State) (l : LimitRecord) (m v : Int) :
    (s.overspeedStage l m v).points.map = s.points.map
      ∧ (s.overspeedStage l m v).points.firstPair = s.points.firstPair
      ∧ (s.overspeedStage l m v).points.pairLoss = s.points.pairLoss := by
  and_intros <;> (unfold State.overspeedStage; (try dsimp only); (repeat' split) <;> (try simp))

/-- The blocks `State.arrivalStage` leaves unchanged. -/
@[simp] theorem State.arrivalStage_frame (s : State) (r : SpanRecord) (m : Int) :
    (s.arrivalStage r m).power = s.power ∧ (s.arrivalStage r m).now = s.now
      ∧ (s.arrivalStage r m).pending = s.pending ∧ (s.arrivalStage r m).unit = s.unit := by
  and_intros <;> (unfold State.arrivalStage; split <;> (try simp))
/-- What `State.arrivalStage` leaves unchanged of the Console Port. -/
@[simp] theorem State.arrivalStage_console (s : State) (r : SpanRecord) (m : Int) :
    (s.arrivalStage r m).console.ingress = s.console.ingress
      ∧ (s.arrivalStage r m).console.arrivals = s.console.arrivals
      ∧ (s.arrivalStage r m).console.restart = s.console.restart
      ∧ (s.arrivalStage r m).console.receiver = s.console.receiver
      ∧ (s.arrivalStage r m).console.line = s.console.line
      ∧ (s.arrivalStage r m).console.counts = s.console.counts
      ∧ (s.arrivalStage r m).console.sending = s.console.sending
      ∧ (s.arrivalStage r m).console.ingressOverflows = s.console.ingressOverflows := by
  and_intros <;> (unfold State.arrivalStage; split <;> (try simp))
/-- What `State.arrivalStage` leaves unchanged of the Order Gate. -/
@[simp] theorem State.arrivalStage_gate (s : State) (r : SpanRecord) (m : Int) :
    (s.arrivalStage r m).gate.permits = s.gate.permits ∧ (s.arrivalStage r m).gate.orders = s.gate.orders
      ∧ (s.arrivalStage r m).gate.held = s.gate.held ∧ (s.arrivalStage r m).gate.own = s.gate.own
      ∧ (s.arrivalStage r m).gate.standdowns = s.gate.standdowns := by
  and_intros <;> (unfold State.arrivalStage; split <;> (try simp))
/-- What `State.arrivalStage` leaves unchanged of the Crossing Sequencer. -/
@[simp] theorem State.arrivalStage_seq (s : State) (r : SpanRecord) (m : Int) :
    (s.arrivalStage r m).seq.table = s.seq.table ∧ (s.arrivalStage r m).seq.phase = s.seq.phase
      ∧ (s.arrivalStage r m).seq.standdowns = s.seq.standdowns
      ∧ (s.arrivalStage r m).seq.serial = s.seq.serial ∧ (s.arrivalStage r m).seq.tracking = s.seq.tracking
      ∧ (s.arrivalStage r m).seq.interrupted = s.seq.interrupted
      ∧ (s.arrivalStage r m).seq.request = s.seq.request
      ∧ (s.arrivalStage r m).seq.recovery = s.seq.recovery ∧ (s.arrivalStage r m).seq.dwell = s.seq.dwell
      ∧ (s.arrivalStage r m).seq.limit = s.seq.limit := by
  and_intros <;> (unfold State.arrivalStage; split <;> (try simp))
/-- What `State.arrivalStage` leaves unchanged of the Channel Controller. -/
@[simp] theorem State.arrivalStage_chan (s : State) (r : SpanRecord) (m : Int) :
    (s.arrivalStage r m).chan.record = s.chan.record ∧ (s.arrivalStage r m).chan.vessels = s.chan.vessels
      ∧ (s.arrivalStage r m).chan.state = s.chan.state ∧ (s.arrivalStage r m).chan.north = s.chan.north
      ∧ (s.arrivalStage r m).chan.south = s.chan.south ∧ (s.arrivalStage r m).chan.closing = s.chan.closing
      ∧ (s.arrivalStage r m).chan.phaseSeen = s.chan.phaseSeen
      ∧ (s.arrivalStage r m).chan.standdowns = s.chan.standdowns
      ∧ (s.arrivalStage r m).chan.changeoverPending = s.chan.changeoverPending
      ∧ (s.arrivalStage r m).chan.greenTimer = s.chan.greenTimer
      ∧ (s.arrivalStage r m).chan.changeoverTimer = s.chan.changeoverTimer
      ∧ (s.arrivalStage r m).chan.retryTimer = s.chan.retryTimer
      ∧ (s.arrivalStage r m).chan.greenExpired = s.chan.greenExpired
      ∧ (s.arrivalStage r m).chan.ignoredCalls = s.chan.ignoredCalls
      ∧ (s.arrivalStage r m).chan.badDirections = s.chan.badDirections
      ∧ (s.arrivalStage r m).chan.unexpectedPassages = s.chan.unexpectedPassages := by
  and_intros <;> (unfold State.arrivalStage; split <;> (try simp))
/-- What `State.arrivalStage` leaves unchanged of the Condition Evaluator. -/
@[simp] theorem State.arrivalStage_cond (s : State) (r : SpanRecord) (m : Int) :
    (s.arrivalStage r m).cond.table = s.cond.table
      ∧ (s.arrivalStage r m).cond.counterChanges = s.cond.counterChanges := by
  and_intros <;> (unfold State.arrivalStage; split <;> (try simp))
/-- What `State.arrivalStage` leaves unchanged of the Field Engine. -/
@[simp] theorem State.arrivalStage_field (s : State) (r : SpanRecord) (m : Int) :
    (s.arrivalStage r m).field.scanList = s.field.scanList ∧ (s.arrivalStage r m).field.tx = s.field.tx
      ∧ (s.arrivalStage r m).field.link = s.field.link ∧ (s.arrivalStage r m).field.nodes = s.field.nodes
      ∧ (s.arrivalStage r m).field.allStop = s.field.allStop
      ∧ (s.arrivalStage r m).field.counts = s.field.counts
      ∧ (s.arrivalStage r m).field.receiver = s.field.receiver
      ∧ (s.arrivalStage r m).field.line = s.field.line
      ∧ (s.arrivalStage r m).field.arrivals = s.field.arrivals
      ∧ (s.arrivalStage r m).field.contention = s.field.contention
      ∧ (s.arrivalStage r m).field.credit = s.field.credit
      ∧ (s.arrivalStage r m).field.scanMode = s.field.scanMode
      ∧ (s.arrivalStage r m).field.echo = s.field.echo
      ∧ (s.arrivalStage r m).field.nextTag = s.field.nextTag
      ∧ (s.arrivalStage r m).field.pointer = s.field.pointer
      ∧ (s.arrivalStage r m).field.cycle = s.field.cycle ∧ (s.arrivalStage r m).field.sweep = s.field.sweep
      ∧ (s.arrivalStage r m).field.replyTimeout = s.field.replyTimeout
      ∧ (s.arrivalStage r m).field.silentLimit = s.field.silentLimit := by
  and_intros <;> (unfold State.arrivalStage; split <;> (try simp))
/-- What `State.arrivalStage` leaves unchanged of the Span Supervisor. -/
@[simp] theorem State.arrivalStage_span (s : State) (r : SpanRecord) (m : Int) :
    (s.arrivalStage r m).span.record = s.span.record
      ∧ (s.arrivalStage r m).span.correction = s.span.correction
      ∧ (s.arrivalStage r m).span.level = s.span.level
      ∧ (s.arrivalStage r m).span.lastSkew = s.span.lastSkew
      ∧ (s.arrivalStage r m).span.lastHold = s.span.lastHold
      ∧ (s.arrivalStage r m).span.holdRunning = s.span.holdRunning
      ∧ (s.arrivalStage r m).span.towerA = s.span.towerA ∧ (s.arrivalStage r m).span.towerB = s.span.towerB
      ∧ (s.arrivalStage r m).span.previous = s.span.previous
      ∧ (s.arrivalStage r m).span.lastTrim = s.span.lastTrim
      ∧ (s.arrivalStage r m).span.levelChanges = s.span.levelChanges := by
  and_intros <;> (unfold State.arrivalStage; split <;> (try simp))
/-- What `State.arrivalStage` leaves unchanged of the Point Image. -/
@[simp] theorem State.arrivalStage_points (s : State) (r : SpanRecord) (m : Int) :
    (s.arrivalStage r m).points.map = s.points.map
      ∧ (s.arrivalStage r m).points.firstPair = s.points.firstPair
      ∧ (s.arrivalStage r m).points.pairLoss = s.points.pairLoss := by
  and_intros <;> (unfold State.arrivalStage; split <;> (try simp))
/-- What `State.arrivalStage` leaves unchanged of the Duty Counter Unit. -/
@[simp] theorem State.arrivalStage_duty (s : State) (r : SpanRecord) (m : Int) :
    (s.arrivalStage r m).duty.residency = s.duty.residency
      ∧ (s.arrivalStage r m).duty.occupancy = s.duty.occupancy
      ∧ (s.arrivalStage r m).duty.standing = s.duty.standing
      ∧ (s.arrivalStage r m).duty.phase = s.duty.phase ∧ (s.arrivalStage r m).duty.frozen = s.duty.frozen
      ∧ (s.arrivalStage r m).duty.bands = s.duty.bands
      ∧ (s.arrivalStage r m).duty.counters = s.duty.counters := by
  and_intros <;> (unfold State.arrivalStage; split <;> (try simp))

/-- The blocks `State.trimStage` leaves unchanged. -/
@[simp] theorem State.trimStage_frame (s : State) (l : LimitRecord) (r : SpanRecord) (k : Int) :
    (s.trimStage l r k).power = s.power ∧ (s.trimStage l r k).now = s.now
      ∧ (s.trimStage l r k).pending = s.pending ∧ (s.trimStage l r k).console = s.console
      ∧ (s.trimStage l r k).points = s.points ∧ (s.trimStage l r k).cond = s.cond
      ∧ (s.trimStage l r k).gate = s.gate ∧ (s.trimStage l r k).seq = s.seq
      ∧ (s.trimStage l r k).chan = s.chan ∧ (s.trimStage l r k).duty = s.duty
      ∧ (s.trimStage l r k).unit = s.unit := by
  and_intros <;> (unfold State.trimStage; (try dsimp only); split <;> (try simp [Field.setTrim]))
/-- What `State.trimStage` leaves unchanged of the Field Engine. -/
@[simp] theorem State.trimStage_field (s : State) (l : LimitRecord) (r : SpanRecord) (k : Int) :
    (s.trimStage l r k).field.scanList = s.field.scanList ∧ (s.trimStage l r k).field.tx = s.field.tx
      ∧ (s.trimStage l r k).field.link = s.field.link ∧ (s.trimStage l r k).field.nodes = s.field.nodes
      ∧ (s.trimStage l r k).field.allStop = s.field.allStop
      ∧ (s.trimStage l r k).field.counts = s.field.counts
      ∧ (s.trimStage l r k).field.receiver = s.field.receiver
      ∧ (s.trimStage l r k).field.line = s.field.line
      ∧ (s.trimStage l r k).field.arrivals = s.field.arrivals
      ∧ (s.trimStage l r k).field.contention = s.field.contention
      ∧ (s.trimStage l r k).field.credit = s.field.credit
      ∧ (s.trimStage l r k).field.scanMode = s.field.scanMode
      ∧ (s.trimStage l r k).field.echo = s.field.echo ∧ (s.trimStage l r k).field.nextTag = s.field.nextTag
      ∧ (s.trimStage l r k).field.stopA = s.field.stopA ∧ (s.trimStage l r k).field.stopB = s.field.stopB
      ∧ (s.trimStage l r k).field.pointer = s.field.pointer
      ∧ (s.trimStage l r k).field.cycle = s.field.cycle ∧ (s.trimStage l r k).field.sweep = s.field.sweep
      ∧ (s.trimStage l r k).field.replyTimeout = s.field.replyTimeout
      ∧ (s.trimStage l r k).field.silentLimit = s.field.silentLimit := by
  and_intros <;> (unfold State.trimStage; (try dsimp only); split <;> (try simp [Field.setTrim]))
/-- What `State.trimStage` leaves unchanged of the Span Supervisor. -/
@[simp] theorem State.trimStage_span (s : State) (l : LimitRecord) (r : SpanRecord) (k : Int) :
    (s.trimStage l r k).span.record = s.span.record ∧ (s.trimStage l r k).span.motion = s.span.motion
      ∧ (s.trimStage l r k).span.correction = s.span.correction
      ∧ (s.trimStage l r k).span.level = s.span.level ∧ (s.trimStage l r k).span.lastSkew = s.span.lastSkew
      ∧ (s.trimStage l r k).span.lastHold = s.span.lastHold
      ∧ (s.trimStage l r k).span.holdRunning = s.span.holdRunning
      ∧ (s.trimStage l r k).span.startWindow = s.span.startWindow
      ∧ (s.trimStage l r k).span.stopTimer = s.span.stopTimer
      ∧ (s.trimStage l r k).span.towerA = s.span.towerA ∧ (s.trimStage l r k).span.towerB = s.span.towerB
      ∧ (s.trimStage l r k).span.previous = s.span.previous
      ∧ (s.trimStage l r k).span.stopKind = s.span.stopKind
      ∧ (s.trimStage l r k).span.levelChanges = s.span.levelChanges := by
  and_intros <;> (unfold State.trimStage; (try dsimp only); split <;> (try simp [Field.setTrim]))

/-- The blocks `State.standstillEnd` leaves unchanged. -/
@[simp] theorem State.standstillEnd_frame (s : State) :
    (s.standstillEnd).power = s.power ∧ (s.standstillEnd).now = s.now
      ∧ (s.standstillEnd).pending = s.pending ∧ (s.standstillEnd).field = s.field
      ∧ (s.standstillEnd).unit = s.unit := by
  and_intros <;> (unfold State.standstillEnd; (try dsimp only); (try simp))
/-- What `State.standstillEnd` leaves unchanged of the Console Port. -/
@[simp] theorem State.standstillEnd_console (s : State) :
    (s.standstillEnd).console.ingress = s.console.ingress
      ∧ (s.standstillEnd).console.arrivals = s.console.arrivals
      ∧ (s.standstillEnd).console.restart = s.console.restart
      ∧ (s.standstillEnd).console.receiver = s.console.receiver
      ∧ (s.standstillEnd).console.line = s.console.line
      ∧ (s.standstillEnd).console.counts = s.console.counts
      ∧ (s.standstillEnd).console.sending = s.console.sending
      ∧ (s.standstillEnd).console.ingressOverflows = s.console.ingressOverflows := by
  and_intros <;> (unfold State.standstillEnd; (try dsimp only); (try simp))
/-- What `State.standstillEnd` leaves unchanged of the Order Gate. -/
@[simp] theorem State.standstillEnd_gate (s : State) :
    (s.standstillEnd).gate.permits = s.gate.permits ∧ (s.standstillEnd).gate.orders = s.gate.orders
      ∧ (s.standstillEnd).gate.held = s.gate.held ∧ (s.standstillEnd).gate.own = s.gate.own
      ∧ (s.standstillEnd).gate.standdowns = s.gate.standdowns := by
  and_intros <;> (unfold State.standstillEnd; (try dsimp only); (try simp))
/-- What `State.standstillEnd` leaves unchanged of the Crossing Sequencer. -/
@[simp] theorem State.standstillEnd_seq (s : State) :
    (s.standstillEnd).seq.table = s.seq.table ∧ (s.standstillEnd).seq.phase = s.seq.phase
      ∧ (s.standstillEnd).seq.standdowns = s.seq.standdowns ∧ (s.standstillEnd).seq.serial = s.seq.serial
      ∧ (s.standstillEnd).seq.tracking = s.seq.tracking
      ∧ (s.standstillEnd).seq.interrupted = s.seq.interrupted
      ∧ (s.standstillEnd).seq.request = s.seq.request ∧ (s.standstillEnd).seq.recovery = s.seq.recovery
      ∧ (s.standstillEnd).seq.dwell = s.seq.dwell ∧ (s.standstillEnd).seq.limit = s.seq.limit := by
  and_intros <;> (unfold State.standstillEnd; (try dsimp only); (try simp))
/-- What `State.standstillEnd` leaves unchanged of the Channel Controller. -/
@[simp] theorem State.standstillEnd_chan (s : State) :
    (s.standstillEnd).chan.record = s.chan.record ∧ (s.standstillEnd).chan.vessels = s.chan.vessels
      ∧ (s.standstillEnd).chan.state = s.chan.state ∧ (s.standstillEnd).chan.north = s.chan.north
      ∧ (s.standstillEnd).chan.south = s.chan.south ∧ (s.standstillEnd).chan.closing = s.chan.closing
      ∧ (s.standstillEnd).chan.phaseSeen = s.chan.phaseSeen
      ∧ (s.standstillEnd).chan.standdowns = s.chan.standdowns
      ∧ (s.standstillEnd).chan.changeoverPending = s.chan.changeoverPending
      ∧ (s.standstillEnd).chan.greenTimer = s.chan.greenTimer
      ∧ (s.standstillEnd).chan.changeoverTimer = s.chan.changeoverTimer
      ∧ (s.standstillEnd).chan.retryTimer = s.chan.retryTimer
      ∧ (s.standstillEnd).chan.greenExpired = s.chan.greenExpired
      ∧ (s.standstillEnd).chan.ignoredCalls = s.chan.ignoredCalls
      ∧ (s.standstillEnd).chan.badDirections = s.chan.badDirections
      ∧ (s.standstillEnd).chan.unexpectedPassages = s.chan.unexpectedPassages := by
  and_intros <;> (unfold State.standstillEnd; (try dsimp only); (try simp))
/-- What `State.standstillEnd` leaves unchanged of the Condition Evaluator. -/
@[simp] theorem State.standstillEnd_cond (s : State) :
    (s.standstillEnd).cond.table = s.cond.table
      ∧ (s.standstillEnd).cond.counterChanges = s.cond.counterChanges := by
  and_intros <;> (unfold State.standstillEnd; (try dsimp only); (try simp))
/-- What `State.standstillEnd` leaves unchanged of the Span Supervisor. -/
@[simp] theorem State.standstillEnd_span (s : State) :
    (s.standstillEnd).span.record = s.span.record ∧ (s.standstillEnd).span.correction = s.span.correction
      ∧ (s.standstillEnd).span.level = s.span.level ∧ (s.standstillEnd).span.lastSkew = s.span.lastSkew
      ∧ (s.standstillEnd).span.lastHold = s.span.lastHold
      ∧ (s.standstillEnd).span.holdRunning = s.span.holdRunning
      ∧ (s.standstillEnd).span.startWindow = s.span.startWindow
      ∧ (s.standstillEnd).span.towerA = s.span.towerA ∧ (s.standstillEnd).span.towerB = s.span.towerB
      ∧ (s.standstillEnd).span.previous = s.span.previous
      ∧ (s.standstillEnd).span.lastTrim = s.span.lastTrim
      ∧ (s.standstillEnd).span.levelChanges = s.span.levelChanges := by
  and_intros <;> (unfold State.standstillEnd; (try dsimp only); (try simp))
/-- What `State.standstillEnd` leaves unchanged of the Point Image. -/
@[simp] theorem State.standstillEnd_points (s : State) :
    (s.standstillEnd).points.map = s.points.map ∧ (s.standstillEnd).points.firstPair = s.points.firstPair
      ∧ (s.standstillEnd).points.pairLoss = s.points.pairLoss := by
  and_intros <;> (unfold State.standstillEnd; (try dsimp only); (try simp))
/-- What `State.standstillEnd` leaves unchanged of the Duty Counter Unit. -/
@[simp] theorem State.standstillEnd_duty (s : State) :
    (s.standstillEnd).duty.residency = s.duty.residency
      ∧ (s.standstillEnd).duty.occupancy = s.duty.occupancy
      ∧ (s.standstillEnd).duty.standing = s.duty.standing ∧ (s.standstillEnd).duty.phase = s.duty.phase
      ∧ (s.standstillEnd).duty.frozen = s.duty.frozen ∧ (s.standstillEnd).duty.bands = s.duty.bands
      ∧ (s.standstillEnd).duty.counters = s.duty.counters := by
  and_intros <;> (unfold State.standstillEnd; (try dsimp only); (try simp))

/-- The blocks `State.standstillStage` leaves unchanged. -/
@[simp] theorem State.standstillStage_frame (s : State) (r : SpanRecord) (v : Int) :
    (s.standstillStage r v).power = s.power ∧ (s.standstillStage r v).now = s.now
      ∧ (s.standstillStage r v).pending = s.pending ∧ (s.standstillStage r v).field = s.field
      ∧ (s.standstillStage r v).unit = s.unit := by
  and_intros <;> (unfold State.standstillStage; (try dsimp only); (repeat' split) <;> (try simp))
/-- What `State.standstillStage` leaves unchanged of the Console Port. -/
@[simp] theorem State.standstillStage_console (s : State) (r : SpanRecord) (v : Int) :
    (s.standstillStage r v).console.ingress = s.console.ingress
      ∧ (s.standstillStage r v).console.arrivals = s.console.arrivals
      ∧ (s.standstillStage r v).console.restart = s.console.restart
      ∧ (s.standstillStage r v).console.receiver = s.console.receiver
      ∧ (s.standstillStage r v).console.line = s.console.line
      ∧ (s.standstillStage r v).console.counts = s.console.counts
      ∧ (s.standstillStage r v).console.sending = s.console.sending
      ∧ (s.standstillStage r v).console.ingressOverflows = s.console.ingressOverflows := by
  and_intros <;> (unfold State.standstillStage; (try dsimp only); (repeat' split) <;> (try simp))
/-- What `State.standstillStage` leaves unchanged of the Order Gate. -/
@[simp] theorem State.standstillStage_gate (s : State) (r : SpanRecord) (v : Int) :
    (s.standstillStage r v).gate.permits = s.gate.permits
      ∧ (s.standstillStage r v).gate.orders = s.gate.orders
      ∧ (s.standstillStage r v).gate.held = s.gate.held ∧ (s.standstillStage r v).gate.own = s.gate.own
      ∧ (s.standstillStage r v).gate.standdowns = s.gate.standdowns := by
  and_intros <;> (unfold State.standstillStage; (try dsimp only); (repeat' split) <;> (try simp))
/-- What `State.standstillStage` leaves unchanged of the Crossing Sequencer. -/
@[simp] theorem State.standstillStage_seq (s : State) (r : SpanRecord) (v : Int) :
    (s.standstillStage r v).seq.table = s.seq.table ∧ (s.standstillStage r v).seq.phase = s.seq.phase
      ∧ (s.standstillStage r v).seq.standdowns = s.seq.standdowns
      ∧ (s.standstillStage r v).seq.serial = s.seq.serial
      ∧ (s.standstillStage r v).seq.tracking = s.seq.tracking
      ∧ (s.standstillStage r v).seq.interrupted = s.seq.interrupted
      ∧ (s.standstillStage r v).seq.request = s.seq.request
      ∧ (s.standstillStage r v).seq.recovery = s.seq.recovery
      ∧ (s.standstillStage r v).seq.dwell = s.seq.dwell ∧ (s.standstillStage r v).seq.limit = s.seq.limit := by
  and_intros <;> (unfold State.standstillStage; (try dsimp only); (repeat' split) <;> (try simp))
/-- What `State.standstillStage` leaves unchanged of the Channel Controller. -/
@[simp] theorem State.standstillStage_chan (s : State) (r : SpanRecord) (v : Int) :
    (s.standstillStage r v).chan.record = s.chan.record
      ∧ (s.standstillStage r v).chan.vessels = s.chan.vessels
      ∧ (s.standstillStage r v).chan.state = s.chan.state
      ∧ (s.standstillStage r v).chan.north = s.chan.north
      ∧ (s.standstillStage r v).chan.south = s.chan.south
      ∧ (s.standstillStage r v).chan.closing = s.chan.closing
      ∧ (s.standstillStage r v).chan.phaseSeen = s.chan.phaseSeen
      ∧ (s.standstillStage r v).chan.standdowns = s.chan.standdowns
      ∧ (s.standstillStage r v).chan.changeoverPending = s.chan.changeoverPending
      ∧ (s.standstillStage r v).chan.greenTimer = s.chan.greenTimer
      ∧ (s.standstillStage r v).chan.changeoverTimer = s.chan.changeoverTimer
      ∧ (s.standstillStage r v).chan.retryTimer = s.chan.retryTimer
      ∧ (s.standstillStage r v).chan.greenExpired = s.chan.greenExpired
      ∧ (s.standstillStage r v).chan.ignoredCalls = s.chan.ignoredCalls
      ∧ (s.standstillStage r v).chan.badDirections = s.chan.badDirections
      ∧ (s.standstillStage r v).chan.unexpectedPassages = s.chan.unexpectedPassages := by
  and_intros <;> (unfold State.standstillStage; (try dsimp only); (repeat' split) <;> (try simp))
/-- What `State.standstillStage` leaves unchanged of the Condition Evaluator. -/
@[simp] theorem State.standstillStage_cond (s : State) (r : SpanRecord) (v : Int) :
    (s.standstillStage r v).cond.table = s.cond.table
      ∧ (s.standstillStage r v).cond.counterChanges = s.cond.counterChanges := by
  and_intros <;> (unfold State.standstillStage; (try dsimp only); (repeat' split) <;> (try simp))
/-- What `State.standstillStage` leaves unchanged of the Span Supervisor. -/
@[simp] theorem State.standstillStage_span (s : State) (r : SpanRecord) (v : Int) :
    (s.standstillStage r v).span.record = s.span.record
      ∧ (s.standstillStage r v).span.correction = s.span.correction
      ∧ (s.standstillStage r v).span.level = s.span.level
      ∧ (s.standstillStage r v).span.lastSkew = s.span.lastSkew
      ∧ (s.standstillStage r v).span.lastHold = s.span.lastHold
      ∧ (s.standstillStage r v).span.holdRunning = s.span.holdRunning
      ∧ (s.standstillStage r v).span.startWindow = s.span.startWindow
      ∧ (s.standstillStage r v).span.towerA = s.span.towerA
      ∧ (s.standstillStage r v).span.towerB = s.span.towerB
      ∧ (s.standstillStage r v).span.previous = s.span.previous
      ∧ (s.standstillStage r v).span.lastTrim = s.span.lastTrim
      ∧ (s.standstillStage r v).span.levelChanges = s.span.levelChanges := by
  and_intros <;> (unfold State.standstillStage; (try dsimp only); (repeat' split) <;> (try simp))
/-- What `State.standstillStage` leaves unchanged of the Point Image. -/
@[simp] theorem State.standstillStage_points (s : State) (r : SpanRecord) (v : Int) :
    (s.standstillStage r v).points.map = s.points.map
      ∧ (s.standstillStage r v).points.firstPair = s.points.firstPair
      ∧ (s.standstillStage r v).points.pairLoss = s.points.pairLoss := by
  and_intros <;> (unfold State.standstillStage; (try dsimp only); (repeat' split) <;> (try simp))
/-- What `State.standstillStage` leaves unchanged of the Duty Counter Unit. -/
@[simp] theorem State.standstillStage_duty (s : State) (r : SpanRecord) (v : Int) :
    (s.standstillStage r v).duty.residency = s.duty.residency
      ∧ (s.standstillStage r v).duty.occupancy = s.duty.occupancy
      ∧ (s.standstillStage r v).duty.standing = s.duty.standing
      ∧ (s.standstillStage r v).duty.phase = s.duty.phase
      ∧ (s.standstillStage r v).duty.frozen = s.duty.frozen
      ∧ (s.standstillStage r v).duty.bands = s.duty.bands
      ∧ (s.standstillStage r v).duty.counters = s.duty.counters := by
  and_intros <;> (unfold State.standstillStage; (try dsimp only); (repeat' split) <;> (try simp))

/-- The blocks `State.skewStage` leaves unchanged. -/
@[simp] theorem State.skewStage_frame (s : State) (l : LimitRecord) (k : Int) :
    (s.skewStage l k).power = s.power ∧ (s.skewStage l k).now = s.now
      ∧ (s.skewStage l k).pending = s.pending := by
  and_intros <;> (unfold State.skewStage; split <;> (try simp))
/-- What `State.skewStage` leaves unchanged of the Console Port. -/
@[simp] theorem State.skewStage_console (s : State) (l : LimitRecord) (k : Int) :
    (s.skewStage l k).console.ingress = s.console.ingress
      ∧ (s.skewStage l k).console.arrivals = s.console.arrivals
      ∧ (s.skewStage l k).console.restart = s.console.restart
      ∧ (s.skewStage l k).console.receiver = s.console.receiver
      ∧ (s.skewStage l k).console.line = s.console.line
      ∧ (s.skewStage l k).console.counts = s.console.counts
      ∧ (s.skewStage l k).console.sending = s.console.sending
      ∧ (s.skewStage l k).console.ingressOverflows = s.console.ingressOverflows := by
  and_intros <;> (unfold State.skewStage; split <;> (try simp))
/-- What `State.skewStage` leaves unchanged of the Order Gate. -/
@[simp] theorem State.skewStage_gate (s : State) (l : LimitRecord) (k : Int) :
    (s.skewStage l k).gate.permits = s.gate.permits ∧ (s.skewStage l k).gate.orders = s.gate.orders
      ∧ (s.skewStage l k).gate.held = s.gate.held ∧ (s.skewStage l k).gate.own = s.gate.own := by
  and_intros <;> (unfold State.skewStage; split <;> (try simp))
/-- What `State.skewStage` leaves unchanged of the Crossing Sequencer. -/
@[simp] theorem State.skewStage_seq (s : State) (l : LimitRecord) (k : Int) :
    (s.skewStage l k).seq.table = s.seq.table ∧ (s.skewStage l k).seq.phase = s.seq.phase
      ∧ (s.skewStage l k).seq.serial = s.seq.serial ∧ (s.skewStage l k).seq.tracking = s.seq.tracking
      ∧ (s.skewStage l k).seq.interrupted = s.seq.interrupted
      ∧ (s.skewStage l k).seq.request = s.seq.request ∧ (s.skewStage l k).seq.recovery = s.seq.recovery
      ∧ (s.skewStage l k).seq.dwell = s.seq.dwell ∧ (s.skewStage l k).seq.limit = s.seq.limit := by
  and_intros <;> (unfold State.skewStage; split <;> (try simp))
/-- What `State.skewStage` leaves unchanged of the Channel Controller. -/
@[simp] theorem State.skewStage_chan (s : State) (l : LimitRecord) (k : Int) :
    (s.skewStage l k).chan.record = s.chan.record ∧ (s.skewStage l k).chan.vessels = s.chan.vessels
      ∧ (s.skewStage l k).chan.state = s.chan.state ∧ (s.skewStage l k).chan.north = s.chan.north
      ∧ (s.skewStage l k).chan.south = s.chan.south ∧ (s.skewStage l k).chan.closing = s.chan.closing
      ∧ (s.skewStage l k).chan.phaseSeen = s.chan.phaseSeen
      ∧ (s.skewStage l k).chan.changeoverPending = s.chan.changeoverPending
      ∧ (s.skewStage l k).chan.greenTimer = s.chan.greenTimer
      ∧ (s.skewStage l k).chan.changeoverTimer = s.chan.changeoverTimer
      ∧ (s.skewStage l k).chan.retryTimer = s.chan.retryTimer
      ∧ (s.skewStage l k).chan.greenExpired = s.chan.greenExpired
      ∧ (s.skewStage l k).chan.ignoredCalls = s.chan.ignoredCalls
      ∧ (s.skewStage l k).chan.badDirections = s.chan.badDirections
      ∧ (s.skewStage l k).chan.unexpectedPassages = s.chan.unexpectedPassages := by
  and_intros <;> (unfold State.skewStage; split <;> (try simp))
/-- What `State.skewStage` leaves unchanged of the Condition Evaluator. -/
@[simp] theorem State.skewStage_cond (s : State) (l : LimitRecord) (k : Int) :
    (s.skewStage l k).cond.table = s.cond.table
      ∧ (s.skewStage l k).cond.counterChanges = s.cond.counterChanges := by
  and_intros <;> (unfold State.skewStage; split <;> (try simp))
/-- What `State.skewStage` leaves unchanged of the Field Engine. -/
@[simp] theorem State.skewStage_field (s : State) (l : LimitRecord) (k : Int) :
    (s.skewStage l k).field.scanList = s.field.scanList ∧ (s.skewStage l k).field.tx = s.field.tx
      ∧ (s.skewStage l k).field.link = s.field.link ∧ (s.skewStage l k).field.nodes = s.field.nodes
      ∧ (s.skewStage l k).field.counts = s.field.counts
      ∧ (s.skewStage l k).field.receiver = s.field.receiver ∧ (s.skewStage l k).field.line = s.field.line
      ∧ (s.skewStage l k).field.arrivals = s.field.arrivals
      ∧ (s.skewStage l k).field.contention = s.field.contention
      ∧ (s.skewStage l k).field.credit = s.field.credit
      ∧ (s.skewStage l k).field.scanMode = s.field.scanMode ∧ (s.skewStage l k).field.echo = s.field.echo
      ∧ (s.skewStage l k).field.nextTag = s.field.nextTag ∧ (s.skewStage l k).field.trimA = s.field.trimA
      ∧ (s.skewStage l k).field.trimB = s.field.trimB ∧ (s.skewStage l k).field.stopA = s.field.stopA
      ∧ (s.skewStage l k).field.stopB = s.field.stopB ∧ (s.skewStage l k).field.pointer = s.field.pointer
      ∧ (s.skewStage l k).field.cycle = s.field.cycle ∧ (s.skewStage l k).field.sweep = s.field.sweep
      ∧ (s.skewStage l k).field.replyTimeout = s.field.replyTimeout
      ∧ (s.skewStage l k).field.silentLimit = s.field.silentLimit := by
  and_intros <;> (unfold State.skewStage; split <;> (try simp))
/-- What `State.skewStage` leaves unchanged of the Span Supervisor. -/
@[simp] theorem State.skewStage_span (s : State) (l : LimitRecord) (k : Int) :
    (s.skewStage l k).span.record = s.span.record ∧ (s.skewStage l k).span.correction = s.span.correction
      ∧ (s.skewStage l k).span.level = s.span.level ∧ (s.skewStage l k).span.lastSkew = s.span.lastSkew
      ∧ (s.skewStage l k).span.lastHold = s.span.lastHold
      ∧ (s.skewStage l k).span.holdRunning = s.span.holdRunning
      ∧ (s.skewStage l k).span.previous = s.span.previous
      ∧ (s.skewStage l k).span.lastTrim = s.span.lastTrim
      ∧ (s.skewStage l k).span.levelChanges = s.span.levelChanges := by
  and_intros <;> (unfold State.skewStage; split <;> (try simp))
/-- What `State.skewStage` leaves unchanged of the mode and the chain. -/
@[simp] theorem State.skewStage_unit (s : State) (l : LimitRecord) (k : Int) :
    (s.skewStage l k).unit.mode = s.unit.mode ∧ (s.skewStage l k).unit.limits = s.unit.limits
      ∧ (s.skewStage l k).unit.estop = s.unit.estop ∧ (s.skewStage l k).unit.key = s.unit.key
      ∧ (s.skewStage l k).unit.locked = s.unit.locked
      ∧ (s.skewStage l k).unit.validation = s.unit.validation
      ∧ (s.skewStage l k).unit.maintenancePending = s.unit.maintenancePending := by
  and_intros <;> (unfold State.skewStage; split <;> (try simp))
/-- What `State.skewStage` leaves unchanged of the Point Image. -/
@[simp] theorem State.skewStage_points (s : State) (l : LimitRecord) (k : Int) :
    (s.skewStage l k).points.map = s.points.map ∧ (s.skewStage l k).points.firstPair = s.points.firstPair
      ∧ (s.skewStage l k).points.pairLoss = s.points.pairLoss := by
  and_intros <;> (unfold State.skewStage; split <;> (try simp))
/-- What `State.skewStage` leaves unchanged of the Duty Counter Unit. -/
@[simp] theorem State.skewStage_duty (s : State) (l : LimitRecord) (k : Int) :
    (s.skewStage l k).duty.residency = s.duty.residency
      ∧ (s.skewStage l k).duty.occupancy = s.duty.occupancy
      ∧ (s.skewStage l k).duty.standing = s.duty.standing ∧ (s.skewStage l k).duty.phase = s.duty.phase
      ∧ (s.skewStage l k).duty.frozen = s.duty.frozen ∧ (s.skewStage l k).duty.bands = s.duty.bands
      ∧ (s.skewStage l k).duty.counters = s.duty.counters := by
  and_intros <;> (unfold State.skewStage; split <;> (try simp))

/-- The blocks `State.pairStage` leaves unchanged. -/
@[simp] theorem State.pairStage_frame (s : State) (a b : Int) (t : Time) :
    (s.pairStage a b t).power = s.power ∧ (s.pairStage a b t).now = s.now
      ∧ (s.pairStage a b t).pending = s.pending ∧ (s.pairStage a b t).field = s.field
      ∧ (s.pairStage a b t).unit = s.unit := by
  and_intros <;> (unfold State.pairStage; (try dsimp only); (try simp))
/-- What `State.pairStage` leaves unchanged of the Console Port. -/
@[simp] theorem State.pairStage_console (s : State) (a b : Int) (t : Time) :
    (s.pairStage a b t).console.ingress = s.console.ingress
      ∧ (s.pairStage a b t).console.arrivals = s.console.arrivals
      ∧ (s.pairStage a b t).console.restart = s.console.restart
      ∧ (s.pairStage a b t).console.receiver = s.console.receiver
      ∧ (s.pairStage a b t).console.line = s.console.line
      ∧ (s.pairStage a b t).console.counts = s.console.counts
      ∧ (s.pairStage a b t).console.sending = s.console.sending
      ∧ (s.pairStage a b t).console.ingressOverflows = s.console.ingressOverflows := by
  and_intros <;> (unfold State.pairStage; (try dsimp only); (try simp))
/-- What `State.pairStage` leaves unchanged of the Order Gate. -/
@[simp] theorem State.pairStage_gate (s : State) (a b : Int) (t : Time) :
    (s.pairStage a b t).gate.permits = s.gate.permits ∧ (s.pairStage a b t).gate.orders = s.gate.orders
      ∧ (s.pairStage a b t).gate.held = s.gate.held ∧ (s.pairStage a b t).gate.own = s.gate.own
      ∧ (s.pairStage a b t).gate.standdowns = s.gate.standdowns := by
  and_intros <;> (unfold State.pairStage; (try dsimp only); (try simp))
/-- What `State.pairStage` leaves unchanged of the Crossing Sequencer. -/
@[simp] theorem State.pairStage_seq (s : State) (a b : Int) (t : Time) :
    (s.pairStage a b t).seq.table = s.seq.table ∧ (s.pairStage a b t).seq.phase = s.seq.phase
      ∧ (s.pairStage a b t).seq.standdowns = s.seq.standdowns
      ∧ (s.pairStage a b t).seq.serial = s.seq.serial ∧ (s.pairStage a b t).seq.tracking = s.seq.tracking
      ∧ (s.pairStage a b t).seq.interrupted = s.seq.interrupted
      ∧ (s.pairStage a b t).seq.request = s.seq.request ∧ (s.pairStage a b t).seq.recovery = s.seq.recovery
      ∧ (s.pairStage a b t).seq.dwell = s.seq.dwell ∧ (s.pairStage a b t).seq.limit = s.seq.limit := by
  and_intros <;> (unfold State.pairStage; (try dsimp only); (try simp))
/-- What `State.pairStage` leaves unchanged of the Channel Controller. -/
@[simp] theorem State.pairStage_chan (s : State) (a b : Int) (t : Time) :
    (s.pairStage a b t).chan.record = s.chan.record ∧ (s.pairStage a b t).chan.vessels = s.chan.vessels
      ∧ (s.pairStage a b t).chan.state = s.chan.state ∧ (s.pairStage a b t).chan.north = s.chan.north
      ∧ (s.pairStage a b t).chan.south = s.chan.south ∧ (s.pairStage a b t).chan.closing = s.chan.closing
      ∧ (s.pairStage a b t).chan.phaseSeen = s.chan.phaseSeen
      ∧ (s.pairStage a b t).chan.standdowns = s.chan.standdowns
      ∧ (s.pairStage a b t).chan.changeoverPending = s.chan.changeoverPending
      ∧ (s.pairStage a b t).chan.greenTimer = s.chan.greenTimer
      ∧ (s.pairStage a b t).chan.changeoverTimer = s.chan.changeoverTimer
      ∧ (s.pairStage a b t).chan.retryTimer = s.chan.retryTimer
      ∧ (s.pairStage a b t).chan.greenExpired = s.chan.greenExpired
      ∧ (s.pairStage a b t).chan.ignoredCalls = s.chan.ignoredCalls
      ∧ (s.pairStage a b t).chan.badDirections = s.chan.badDirections
      ∧ (s.pairStage a b t).chan.unexpectedPassages = s.chan.unexpectedPassages := by
  and_intros <;> (unfold State.pairStage; (try dsimp only); (try simp))
/-- What `State.pairStage` leaves unchanged of the Condition Evaluator. -/
@[simp] theorem State.pairStage_cond (s : State) (a b : Int) (t : Time) :
    (s.pairStage a b t).cond.table = s.cond.table
      ∧ (s.pairStage a b t).cond.counterChanges = s.cond.counterChanges := by
  and_intros <;> (unfold State.pairStage; (try dsimp only); (try simp))
/-- What `State.pairStage` leaves unchanged of the Span Supervisor. -/
@[simp] theorem State.pairStage_span (s : State) (a b : Int) (t : Time) :
    (s.pairStage a b t).span.record = s.span.record ∧ (s.pairStage a b t).span.motion = s.span.motion
      ∧ (s.pairStage a b t).span.correction = s.span.correction
      ∧ (s.pairStage a b t).span.level = s.span.level ∧ (s.pairStage a b t).span.lastHold = s.span.lastHold
      ∧ (s.pairStage a b t).span.holdRunning = s.span.holdRunning
      ∧ (s.pairStage a b t).span.startWindow = s.span.startWindow
      ∧ (s.pairStage a b t).span.stopTimer = s.span.stopTimer
      ∧ (s.pairStage a b t).span.towerA = s.span.towerA ∧ (s.pairStage a b t).span.towerB = s.span.towerB
      ∧ (s.pairStage a b t).span.lastTrim = s.span.lastTrim
      ∧ (s.pairStage a b t).span.stopKind = s.span.stopKind
      ∧ (s.pairStage a b t).span.levelChanges = s.span.levelChanges := by
  and_intros <;> (unfold State.pairStage; (try dsimp only); (try simp))
/-- What `State.pairStage` leaves unchanged of the Point Image. -/
@[simp] theorem State.pairStage_points (s : State) (a b : Int) (t : Time) :
    (s.pairStage a b t).points.map = s.points.map := by
  unfold State.pairStage; (try dsimp only); (try simp)
/-- What `State.pairStage` leaves unchanged of the Duty Counter Unit. -/
@[simp] theorem State.pairStage_duty (s : State) (a b : Int) (t : Time) :
    (s.pairStage a b t).duty.residency = s.duty.residency
      ∧ (s.pairStage a b t).duty.occupancy = s.duty.occupancy
      ∧ (s.pairStage a b t).duty.standing = s.duty.standing ∧ (s.pairStage a b t).duty.phase = s.duty.phase
      ∧ (s.pairStage a b t).duty.frozen = s.duty.frozen ∧ (s.pairStage a b t).duty.bands = s.duty.bands
      ∧ (s.pairStage a b t).duty.counters = s.duty.counters := by
  and_intros <;> (unfold State.pairStage; (try dsimp only); (try simp))

/-- The blocks `State.motionStages` leaves unchanged. -/
@[simp] theorem State.motionStages_frame (s : State) (l : LimitRecord) (r : SpanRecord) (k m v : Int) :
    (s.motionStages l r k m v).power = s.power ∧ (s.motionStages l r k m v).now = s.now
      ∧ (s.motionStages l r k m v).pending = s.pending := by
  and_intros <;> (unfold State.motionStages State.whileMoving; (try dsimp only); (repeat' split) <;> (try simp))
/-- What `State.motionStages` leaves unchanged of the Console Port. -/
@[simp] theorem State.motionStages_console (s : State) (l : LimitRecord) (r : SpanRecord) (k m v : Int) :
    (s.motionStages l r k m v).console.ingress = s.console.ingress
      ∧ (s.motionStages l r k m v).console.arrivals = s.console.arrivals
      ∧ (s.motionStages l r k m v).console.restart = s.console.restart
      ∧ (s.motionStages l r k m v).console.receiver = s.console.receiver
      ∧ (s.motionStages l r k m v).console.line = s.console.line
      ∧ (s.motionStages l r k m v).console.counts = s.console.counts
      ∧ (s.motionStages l r k m v).console.sending = s.console.sending
      ∧ (s.motionStages l r k m v).console.ingressOverflows = s.console.ingressOverflows := by
  and_intros <;> (unfold State.motionStages State.whileMoving; (try dsimp only); (repeat' split) <;> (try simp))
/-- What `State.motionStages` leaves unchanged of the Order Gate. -/
@[simp] theorem State.motionStages_gate (s : State) (l : LimitRecord) (r : SpanRecord) (k m v : Int) :
    (s.motionStages l r k m v).gate.permits = s.gate.permits
      ∧ (s.motionStages l r k m v).gate.orders = s.gate.orders
      ∧ (s.motionStages l r k m v).gate.held = s.gate.held := by
  and_intros <;> (unfold State.motionStages State.whileMoving; (try dsimp only); (repeat' split) <;> (try simp))
/-- What `State.motionStages` leaves unchanged of the Crossing Sequencer. -/
@[simp] theorem State.motionStages_seq (s : State) (l : LimitRecord) (r : SpanRecord) (k m v : Int) :
    (s.motionStages l r k m v).seq.table = s.seq.table
      ∧ (s.motionStages l r k m v).seq.serial = s.seq.serial := by
  and_intros <;> (unfold State.motionStages State.whileMoving; (try dsimp only); (repeat' split) <;> (try simp))
/-- What `State.motionStages` leaves unchanged of the Channel Controller. -/
@[simp] theorem State.motionStages_chan (s : State) (l : LimitRecord) (r : SpanRecord) (k m v : Int) :
    (s.motionStages l r k m v).chan.record = s.chan.record
      ∧ (s.motionStages l r k m v).chan.ignoredCalls = s.chan.ignoredCalls
      ∧ (s.motionStages l r k m v).chan.badDirections = s.chan.badDirections
      ∧ (s.motionStages l r k m v).chan.unexpectedPassages = s.chan.unexpectedPassages := by
  and_intros <;> (unfold State.motionStages State.whileMoving; (try dsimp only); (repeat' split) <;> (try simp))
/-- What `State.motionStages` leaves unchanged of the Condition Evaluator. -/
@[simp] theorem State.motionStages_cond (s : State) (l : LimitRecord) (r : SpanRecord) (k m v : Int) :
    (s.motionStages l r k m v).cond.table = s.cond.table := by
  unfold State.motionStages State.whileMoving; (try dsimp only); (repeat' split) <;> (try simp)
/-- What `State.motionStages` leaves unchanged of the Field Engine. -/
@[simp] theorem State.motionStages_field (s : State) (l : LimitRecord) (r : SpanRecord) (k m v : Int) :
    (s.motionStages l r k m v).field.scanList = s.field.scanList
      ∧ (s.motionStages l r k m v).field.tx = s.field.tx
      ∧ (s.motionStages l r k m v).field.link = s.field.link
      ∧ (s.motionStages l r k m v).field.nodes = s.field.nodes
      ∧ (s.motionStages l r k m v).field.counts = s.field.counts
      ∧ (s.motionStages l r k m v).field.receiver = s.field.receiver
      ∧ (s.motionStages l r k m v).field.line = s.field.line
      ∧ (s.motionStages l r k m v).field.arrivals = s.field.arrivals
      ∧ (s.motionStages l r k m v).field.contention = s.field.contention
      ∧ (s.motionStages l r k m v).field.credit = s.field.credit
      ∧ (s.motionStages l r k m v).field.scanMode = s.field.scanMode
      ∧ (s.motionStages l r k m v).field.echo = s.field.echo
      ∧ (s.motionStages l r k m v).field.nextTag = s.field.nextTag
      ∧ (s.motionStages l r k m v).field.pointer = s.field.pointer
      ∧ (s.motionStages l r k m v).field.cycle = s.field.cycle
      ∧ (s.motionStages l r k m v).field.sweep = s.field.sweep
      ∧ (s.motionStages l r k m v).field.replyTimeout = s.field.replyTimeout
      ∧ (s.motionStages l r k m v).field.silentLimit = s.field.silentLimit := by
  and_intros <;> (unfold State.motionStages State.whileMoving; (try dsimp only); (repeat' split) <;> (try simp))
/-- What `State.motionStages` leaves unchanged of the Span Supervisor. -/
@[simp] theorem State.motionStages_span (s : State) (l : LimitRecord) (r : SpanRecord) (k m v : Int) :
    (s.motionStages l r k m v).span.record = s.span.record
      ∧ (s.motionStages l r k m v).span.level = s.span.level
      ∧ (s.motionStages l r k m v).span.lastSkew = s.span.lastSkew
      ∧ (s.motionStages l r k m v).span.lastHold = s.span.lastHold
      ∧ (s.motionStages l r k m v).span.holdRunning = s.span.holdRunning
      ∧ (s.motionStages l r k m v).span.previous = s.span.previous
      ∧ (s.motionStages l r k m v).span.levelChanges = s.span.levelChanges := by
  and_intros <;> (unfold State.motionStages State.whileMoving; (try dsimp only); (repeat' split) <;> (try simp))
/-- What `State.motionStages` leaves unchanged of the mode and the chain. -/
@[simp] theorem State.motionStages_unit (s : State) (l : LimitRecord) (r : SpanRecord) (k m v : Int) :
    (s.motionStages l r k m v).unit.limits = s.unit.limits
      ∧ (s.motionStages l r k m v).unit.estop = s.unit.estop
      ∧ (s.motionStages l r k m v).unit.key = s.unit.key
      ∧ (s.motionStages l r k m v).unit.locked = s.unit.locked
      ∧ (s.motionStages l r k m v).unit.validation = s.unit.validation := by
  and_intros <;> (unfold State.motionStages State.whileMoving; (try dsimp only); (repeat' split) <;> (try simp))
/-- What `State.motionStages` leaves unchanged of the Point Image. -/
@[simp] theorem State.motionStages_points (s : State) (l : LimitRecord) (r : SpanRecord) (k m v : Int) :
    (s.motionStages l r k m v).points.map = s.points.map
      ∧ (s.motionStages l r k m v).points.firstPair = s.points.firstPair
      ∧ (s.motionStages l r k m v).points.pairLoss = s.points.pairLoss := by
  and_intros <;> (unfold State.motionStages State.whileMoving; (try dsimp only); (repeat' split) <;> (try simp))

/-- The blocks `State.takePair` leaves unchanged. -/
@[simp] theorem State.takePair_frame (s : State) (l : LimitRecord) (r : SpanRecord) (b : Bool) (x y : Int) (t : Time) :
    (s.takePair l r b x y t).power = s.power ∧ (s.takePair l r b x y t).now = s.now
      ∧ (s.takePair l r b x y t).pending = s.pending := by
  and_intros <;> (unfold State.takePair; (try dsimp only); split <;> (try simp))
/-- What `State.takePair` leaves unchanged of the Console Port. -/
@[simp] theorem State.takePair_console (s : State) (l : LimitRecord) (r : SpanRecord) (b : Bool) (x y : Int) (t : Time) :
    (s.takePair l r b x y t).console.ingress = s.console.ingress
      ∧ (s.takePair l r b x y t).console.arrivals = s.console.arrivals
      ∧ (s.takePair l r b x y t).console.restart = s.console.restart
      ∧ (s.takePair l r b x y t).console.receiver = s.console.receiver
      ∧ (s.takePair l r b x y t).console.line = s.console.line
      ∧ (s.takePair l r b x y t).console.counts = s.console.counts
      ∧ (s.takePair l r b x y t).console.sending = s.console.sending
      ∧ (s.takePair l r b x y t).console.ingressOverflows = s.console.ingressOverflows := by
  and_intros <;> (unfold State.takePair; (try dsimp only); split <;> (try simp))
/-- What `State.takePair` leaves unchanged of the Order Gate. -/
@[simp] theorem State.takePair_gate (s : State) (l : LimitRecord) (r : SpanRecord) (b : Bool) (x y : Int) (t : Time) :
    (s.takePair l r b x y t).gate.permits = s.gate.permits
      ∧ (s.takePair l r b x y t).gate.orders = s.gate.orders
      ∧ (s.takePair l r b x y t).gate.held = s.gate.held := by
  and_intros <;> (unfold State.takePair; (try dsimp only); split <;> (try simp))
/-- What `State.takePair` leaves unchanged of the Crossing Sequencer. -/
@[simp] theorem State.takePair_seq (s : State) (l : LimitRecord) (r : SpanRecord) (b : Bool) (x y : Int) (t : Time) :
    (s.takePair l r b x y t).seq.table = s.seq.table ∧ (s.takePair l r b x y t).seq.serial = s.seq.serial := by
  and_intros <;> (unfold State.takePair; (try dsimp only); split <;> (try simp))
/-- What `State.takePair` leaves unchanged of the Channel Controller. -/
@[simp] theorem State.takePair_chan (s : State) (l : LimitRecord) (r : SpanRecord) (b : Bool) (x y : Int) (t : Time) :
    (s.takePair l r b x y t).chan.record = s.chan.record
      ∧ (s.takePair l r b x y t).chan.ignoredCalls = s.chan.ignoredCalls
      ∧ (s.takePair l r b x y t).chan.badDirections = s.chan.badDirections
      ∧ (s.takePair l r b x y t).chan.unexpectedPassages = s.chan.unexpectedPassages := by
  and_intros <;> (unfold State.takePair; (try dsimp only); split <;> (try simp))
/-- What `State.takePair` leaves unchanged of the Condition Evaluator. -/
@[simp] theorem State.takePair_cond (s : State) (l : LimitRecord) (r : SpanRecord) (b : Bool) (x y : Int) (t : Time) :
    (s.takePair l r b x y t).cond.table = s.cond.table := by
  unfold State.takePair; (try dsimp only); split <;> (try simp)
/-- What `State.takePair` leaves unchanged of the Field Engine. -/
@[simp] theorem State.takePair_field (s : State) (l : LimitRecord) (r : SpanRecord) (b : Bool) (x y : Int) (t : Time) :
    (s.takePair l r b x y t).field.scanList = s.field.scanList
      ∧ (s.takePair l r b x y t).field.tx = s.field.tx ∧ (s.takePair l r b x y t).field.link = s.field.link
      ∧ (s.takePair l r b x y t).field.nodes = s.field.nodes
      ∧ (s.takePair l r b x y t).field.counts = s.field.counts
      ∧ (s.takePair l r b x y t).field.receiver = s.field.receiver
      ∧ (s.takePair l r b x y t).field.line = s.field.line
      ∧ (s.takePair l r b x y t).field.arrivals = s.field.arrivals
      ∧ (s.takePair l r b x y t).field.contention = s.field.contention
      ∧ (s.takePair l r b x y t).field.credit = s.field.credit
      ∧ (s.takePair l r b x y t).field.scanMode = s.field.scanMode
      ∧ (s.takePair l r b x y t).field.echo = s.field.echo
      ∧ (s.takePair l r b x y t).field.nextTag = s.field.nextTag
      ∧ (s.takePair l r b x y t).field.pointer = s.field.pointer
      ∧ (s.takePair l r b x y t).field.cycle = s.field.cycle
      ∧ (s.takePair l r b x y t).field.sweep = s.field.sweep
      ∧ (s.takePair l r b x y t).field.replyTimeout = s.field.replyTimeout
      ∧ (s.takePair l r b x y t).field.silentLimit = s.field.silentLimit := by
  and_intros <;> (unfold State.takePair; (try dsimp only); split <;> (try simp))
/-- What `State.takePair` leaves unchanged of the Span Supervisor. -/
@[simp] theorem State.takePair_span (s : State) (l : LimitRecord) (r : SpanRecord) (b : Bool) (x y : Int) (t : Time) :
    (s.takePair l r b x y t).span.record = s.span.record
      ∧ (s.takePair l r b x y t).span.lastHold = s.span.lastHold
      ∧ (s.takePair l r b x y t).span.holdRunning = s.span.holdRunning := by
  and_intros <;> (unfold State.takePair; (try dsimp only); split <;> (try simp))
/-- What `State.takePair` leaves unchanged of the mode and the chain. -/
@[simp] theorem State.takePair_unit (s : State) (l : LimitRecord) (r : SpanRecord) (b : Bool) (x y : Int) (t : Time) :
    (s.takePair l r b x y t).unit.limits = s.unit.limits
      ∧ (s.takePair l r b x y t).unit.estop = s.unit.estop ∧ (s.takePair l r b x y t).unit.key = s.unit.key
      ∧ (s.takePair l r b x y t).unit.locked = s.unit.locked
      ∧ (s.takePair l r b x y t).unit.validation = s.unit.validation := by
  and_intros <;> (unfold State.takePair; (try dsimp only); split <;> (try simp))
/-- What `State.takePair` leaves unchanged of the Point Image. -/
@[simp] theorem State.takePair_points (s : State) (l : LimitRecord) (r : SpanRecord) (b : Bool) (x y : Int) (t : Time) :
    (s.takePair l r b x y t).points.map = s.points.map := by
  unfold State.takePair; (try dsimp only); split <;> (try simp)

/-- The blocks `State.announceLoss` leaves unchanged. -/
@[simp] theorem State.announceLoss_frame (s : State) :
    (s.announceLoss).power = s.power ∧ (s.announceLoss).now = s.now ∧ (s.announceLoss).pending = s.pending
      ∧ (s.announceLoss).field = s.field ∧ (s.announceLoss).unit = s.unit := by
  and_intros <;> (unfold State.announceLoss; (try simp))
/-- What `State.announceLoss` leaves unchanged of the Console Port. -/
@[simp] theorem State.announceLoss_console (s : State) :
    (s.announceLoss).console.ingress = s.console.ingress
      ∧ (s.announceLoss).console.arrivals = s.console.arrivals
      ∧ (s.announceLoss).console.restart = s.console.restart
      ∧ (s.announceLoss).console.receiver = s.console.receiver
      ∧ (s.announceLoss).console.line = s.console.line ∧ (s.announceLoss).console.counts = s.console.counts
      ∧ (s.announceLoss).console.sending = s.console.sending
      ∧ (s.announceLoss).console.ingressOverflows = s.console.ingressOverflows := by
  and_intros <;> (unfold State.announceLoss; (try simp))
/-- What `State.announceLoss` leaves unchanged of the Order Gate. -/
@[simp] theorem State.announceLoss_gate (s : State) :
    (s.announceLoss).gate.permits = s.gate.permits ∧ (s.announceLoss).gate.orders = s.gate.orders
      ∧ (s.announceLoss).gate.held = s.gate.held ∧ (s.announceLoss).gate.own = s.gate.own
      ∧ (s.announceLoss).gate.standdowns = s.gate.standdowns := by
  and_intros <;> (unfold State.announceLoss; (try simp))
/-- What `State.announceLoss` leaves unchanged of the Crossing Sequencer. -/
@[simp] theorem State.announceLoss_seq (s : State) :
    (s.announceLoss).seq.table = s.seq.table ∧ (s.announceLoss).seq.phase = s.seq.phase
      ∧ (s.announceLoss).seq.standdowns = s.seq.standdowns ∧ (s.announceLoss).seq.serial = s.seq.serial
      ∧ (s.announceLoss).seq.tracking = s.seq.tracking
      ∧ (s.announceLoss).seq.interrupted = s.seq.interrupted ∧ (s.announceLoss).seq.request = s.seq.request
      ∧ (s.announceLoss).seq.recovery = s.seq.recovery ∧ (s.announceLoss).seq.dwell = s.seq.dwell
      ∧ (s.announceLoss).seq.limit = s.seq.limit := by
  and_intros <;> (unfold State.announceLoss; (try simp))
/-- What `State.announceLoss` leaves unchanged of the Channel Controller. -/
@[simp] theorem State.announceLoss_chan (s : State) :
    (s.announceLoss).chan.record = s.chan.record ∧ (s.announceLoss).chan.vessels = s.chan.vessels
      ∧ (s.announceLoss).chan.state = s.chan.state ∧ (s.announceLoss).chan.north = s.chan.north
      ∧ (s.announceLoss).chan.south = s.chan.south ∧ (s.announceLoss).chan.closing = s.chan.closing
      ∧ (s.announceLoss).chan.phaseSeen = s.chan.phaseSeen
      ∧ (s.announceLoss).chan.standdowns = s.chan.standdowns
      ∧ (s.announceLoss).chan.changeoverPending = s.chan.changeoverPending
      ∧ (s.announceLoss).chan.greenTimer = s.chan.greenTimer
      ∧ (s.announceLoss).chan.changeoverTimer = s.chan.changeoverTimer
      ∧ (s.announceLoss).chan.retryTimer = s.chan.retryTimer
      ∧ (s.announceLoss).chan.greenExpired = s.chan.greenExpired
      ∧ (s.announceLoss).chan.ignoredCalls = s.chan.ignoredCalls
      ∧ (s.announceLoss).chan.badDirections = s.chan.badDirections
      ∧ (s.announceLoss).chan.unexpectedPassages = s.chan.unexpectedPassages := by
  and_intros <;> (unfold State.announceLoss; (try simp))
/-- What `State.announceLoss` leaves unchanged of the Condition Evaluator. -/
@[simp] theorem State.announceLoss_cond (s : State) :
    (s.announceLoss).cond.table = s.cond.table
      ∧ (s.announceLoss).cond.counterChanges = s.cond.counterChanges := by
  and_intros <;> (unfold State.announceLoss; (try simp))
/-- What `State.announceLoss` leaves unchanged of the Span Supervisor. -/
@[simp] theorem State.announceLoss_span (s : State) :
    (s.announceLoss).span.record = s.span.record ∧ (s.announceLoss).span.motion = s.span.motion
      ∧ (s.announceLoss).span.correction = s.span.correction
      ∧ (s.announceLoss).span.lastSkew = s.span.lastSkew ∧ (s.announceLoss).span.lastHold = s.span.lastHold
      ∧ (s.announceLoss).span.holdRunning = s.span.holdRunning
      ∧ (s.announceLoss).span.startWindow = s.span.startWindow
      ∧ (s.announceLoss).span.stopTimer = s.span.stopTimer ∧ (s.announceLoss).span.towerA = s.span.towerA
      ∧ (s.announceLoss).span.towerB = s.span.towerB ∧ (s.announceLoss).span.previous = s.span.previous
      ∧ (s.announceLoss).span.lastTrim = s.span.lastTrim ∧ (s.announceLoss).span.stopKind = s.span.stopKind := by
  and_intros <;> (unfold State.announceLoss; (try simp))
/-- What `State.announceLoss` leaves unchanged of the Point Image. -/
@[simp] theorem State.announceLoss_points (s : State) :
    (s.announceLoss).points.map = s.points.map ∧ (s.announceLoss).points.firstPair = s.points.firstPair := by
  and_intros <;> (unfold State.announceLoss; (try simp))
/-- What `State.announceLoss` leaves unchanged of the Duty Counter Unit. -/
@[simp] theorem State.announceLoss_duty (s : State) :
    (s.announceLoss).duty.residency = s.duty.residency ∧ (s.announceLoss).duty.occupancy = s.duty.occupancy
      ∧ (s.announceLoss).duty.standing = s.duty.standing ∧ (s.announceLoss).duty.phase = s.duty.phase
      ∧ (s.announceLoss).duty.frozen = s.duty.frozen ∧ (s.announceLoss).duty.bands = s.duty.bands
      ∧ (s.announceLoss).duty.counters = s.duty.counters := by
  and_intros <;> (unfold State.announceLoss; (try simp))

/-- The blocks `State.pairMiss` leaves unchanged. -/
@[simp] theorem State.pairMiss_frame (s : State) (l : LimitRecord) :
    (s.pairMiss l).power = s.power ∧ (s.pairMiss l).now = s.now ∧ (s.pairMiss l).pending = s.pending := by
  and_intros <;> (unfold State.pairMiss; (try dsimp only); (repeat' split) <;> (try simp))
/-- What `State.pairMiss` leaves unchanged of the Console Port. -/
@[simp] theorem State.pairMiss_console (s : State) (l : LimitRecord) :
    (s.pairMiss l).console.ingress = s.console.ingress
      ∧ (s.pairMiss l).console.arrivals = s.console.arrivals
      ∧ (s.pairMiss l).console.restart = s.console.restart
      ∧ (s.pairMiss l).console.receiver = s.console.receiver ∧ (s.pairMiss l).console.line = s.console.line
      ∧ (s.pairMiss l).console.counts = s.console.counts
      ∧ (s.pairMiss l).console.sending = s.console.sending
      ∧ (s.pairMiss l).console.ingressOverflows = s.console.ingressOverflows := by
  and_intros <;> (unfold State.pairMiss; (try dsimp only); (repeat' split) <;> (try simp))
/-- What `State.pairMiss` leaves unchanged of the Order Gate. -/
@[simp] theorem State.pairMiss_gate (s : State) (l : LimitRecord) :
    (s.pairMiss l).gate.permits = s.gate.permits ∧ (s.pairMiss l).gate.orders = s.gate.orders
      ∧ (s.pairMiss l).gate.held = s.gate.held := by
  and_intros <;> (unfold State.pairMiss; (try dsimp only); (repeat' split) <;> (try simp))
/-- What `State.pairMiss` leaves unchanged of the Crossing Sequencer. -/
@[simp] theorem State.pairMiss_seq (s : State) (l : LimitRecord) :
    (s.pairMiss l).seq.table = s.seq.table ∧ (s.pairMiss l).seq.serial = s.seq.serial := by
  and_intros <;> (unfold State.pairMiss; (try dsimp only); (repeat' split) <;> (try simp))
/-- What `State.pairMiss` leaves unchanged of the Channel Controller. -/
@[simp] theorem State.pairMiss_chan (s : State) (l : LimitRecord) :
    (s.pairMiss l).chan.record = s.chan.record
      ∧ (s.pairMiss l).chan.ignoredCalls = s.chan.ignoredCalls
      ∧ (s.pairMiss l).chan.badDirections = s.chan.badDirections
      ∧ (s.pairMiss l).chan.unexpectedPassages = s.chan.unexpectedPassages := by
  and_intros <;> (unfold State.pairMiss; (try dsimp only); (repeat' split) <;> (try simp))
/-- What `State.pairMiss` leaves unchanged of the Condition Evaluator. -/
@[simp] theorem State.pairMiss_cond (s : State) (l : LimitRecord) :
    (s.pairMiss l).cond.table = s.cond.table := by
  unfold State.pairMiss; (try dsimp only); (repeat' split) <;> (try simp)
/-- What `State.pairMiss` leaves unchanged of the Field Engine. -/
@[simp] theorem State.pairMiss_field (s : State) (l : LimitRecord) :
    (s.pairMiss l).field.scanList = s.field.scanList ∧ (s.pairMiss l).field.tx = s.field.tx
      ∧ (s.pairMiss l).field.link = s.field.link ∧ (s.pairMiss l).field.nodes = s.field.nodes
      ∧ (s.pairMiss l).field.counts = s.field.counts ∧ (s.pairMiss l).field.receiver = s.field.receiver
      ∧ (s.pairMiss l).field.line = s.field.line ∧ (s.pairMiss l).field.arrivals = s.field.arrivals
      ∧ (s.pairMiss l).field.contention = s.field.contention ∧ (s.pairMiss l).field.credit = s.field.credit
      ∧ (s.pairMiss l).field.scanMode = s.field.scanMode ∧ (s.pairMiss l).field.echo = s.field.echo
      ∧ (s.pairMiss l).field.nextTag = s.field.nextTag ∧ (s.pairMiss l).field.pointer = s.field.pointer
      ∧ (s.pairMiss l).field.cycle = s.field.cycle ∧ (s.pairMiss l).field.sweep = s.field.sweep
      ∧ (s.pairMiss l).field.replyTimeout = s.field.replyTimeout
      ∧ (s.pairMiss l).field.silentLimit = s.field.silentLimit := by
  and_intros <;> (unfold State.pairMiss; (try dsimp only); (repeat' split) <;> (try simp))
/-- What `State.pairMiss` leaves unchanged of the Span Supervisor. -/
@[simp] theorem State.pairMiss_span (s : State) (l : LimitRecord) :
    (s.pairMiss l).span.record = s.span.record ∧ (s.pairMiss l).span.correction = s.span.correction
      ∧ (s.pairMiss l).span.lastSkew = s.span.lastSkew ∧ (s.pairMiss l).span.lastHold = s.span.lastHold
      ∧ (s.pairMiss l).span.holdRunning = s.span.holdRunning
      ∧ (s.pairMiss l).span.previous = s.span.previous ∧ (s.pairMiss l).span.lastTrim = s.span.lastTrim := by
  and_intros <;> (unfold State.pairMiss; (try dsimp only); (repeat' split) <;> (try simp))
/-- What `State.pairMiss` leaves unchanged of the mode and the chain. -/
@[simp] theorem State.pairMiss_unit (s : State) (l : LimitRecord) :
    (s.pairMiss l).unit.limits = s.unit.limits ∧ (s.pairMiss l).unit.estop = s.unit.estop
      ∧ (s.pairMiss l).unit.key = s.unit.key ∧ (s.pairMiss l).unit.locked = s.unit.locked
      ∧ (s.pairMiss l).unit.validation = s.unit.validation := by
  and_intros <;> (unfold State.pairMiss; (try dsimp only); (repeat' split) <;> (try simp))
/-- What `State.pairMiss` leaves unchanged of the Point Image. -/
@[simp] theorem State.pairMiss_points (s : State) (l : LimitRecord) :
    (s.pairMiss l).points.map = s.points.map ∧ (s.pairMiss l).points.firstPair = s.points.firstPair := by
  and_intros <;> (unfold State.pairMiss; (try dsimp only); (repeat' split) <;> (try simp))

/-- The blocks `State.pairing` leaves unchanged. -/
@[simp] theorem State.pairing_frame (s : State) (l : LimitRecord) (r : SpanRecord) (b : Bool) (x : Tower) (h : Int) (t : Time) :
    (s.pairing l r b x h t).power = s.power ∧ (s.pairing l r b x h t).now = s.now
      ∧ (s.pairing l r b x h t).pending = s.pending := by
  and_intros <;> (unfold State.pairing; (repeat' split) <;> (try simp))
/-- What `State.pairing` leaves unchanged of the Console Port. -/
@[simp] theorem State.pairing_console (s : State) (l : LimitRecord) (r : SpanRecord) (b : Bool) (x : Tower) (h : Int) (t : Time) :
    (s.pairing l r b x h t).console.ingress = s.console.ingress
      ∧ (s.pairing l r b x h t).console.arrivals = s.console.arrivals
      ∧ (s.pairing l r b x h t).console.restart = s.console.restart
      ∧ (s.pairing l r b x h t).console.receiver = s.console.receiver
      ∧ (s.pairing l r b x h t).console.line = s.console.line
      ∧ (s.pairing l r b x h t).console.counts = s.console.counts
      ∧ (s.pairing l r b x h t).console.sending = s.console.sending
      ∧ (s.pairing l r b x h t).console.ingressOverflows = s.console.ingressOverflows := by
  and_intros <;> (unfold State.pairing; (repeat' split) <;> (try simp))
/-- What `State.pairing` leaves unchanged of the Order Gate. -/
@[simp] theorem State.pairing_gate (s : State) (l : LimitRecord) (r : SpanRecord) (b : Bool) (x : Tower) (h : Int) (t : Time) :
    (s.pairing l r b x h t).gate.permits = s.gate.permits
      ∧ (s.pairing l r b x h t).gate.orders = s.gate.orders
      ∧ (s.pairing l r b x h t).gate.held = s.gate.held := by
  and_intros <;> (unfold State.pairing; (repeat' split) <;> (try simp))
/-- What `State.pairing` leaves unchanged of the Crossing Sequencer. -/
@[simp] theorem State.pairing_seq (s : State) (l : LimitRecord) (r : SpanRecord) (b : Bool) (x : Tower) (h : Int) (t : Time) :
    (s.pairing l r b x h t).seq.table = s.seq.table ∧ (s.pairing l r b x h t).seq.serial = s.seq.serial := by
  and_intros <;> (unfold State.pairing; (repeat' split) <;> (try simp))
/-- What `State.pairing` leaves unchanged of the Channel Controller. -/
@[simp] theorem State.pairing_chan (s : State) (l : LimitRecord) (r : SpanRecord) (b : Bool) (x : Tower) (h : Int) (t : Time) :
    (s.pairing l r b x h t).chan.record = s.chan.record
      ∧ (s.pairing l r b x h t).chan.ignoredCalls = s.chan.ignoredCalls
      ∧ (s.pairing l r b x h t).chan.badDirections = s.chan.badDirections
      ∧ (s.pairing l r b x h t).chan.unexpectedPassages = s.chan.unexpectedPassages := by
  and_intros <;> (unfold State.pairing; (repeat' split) <;> (try simp))
/-- What `State.pairing` leaves unchanged of the Condition Evaluator. -/
@[simp] theorem State.pairing_cond (s : State) (l : LimitRecord) (r : SpanRecord) (b : Bool) (x : Tower) (h : Int) (t : Time) :
    (s.pairing l r b x h t).cond.table = s.cond.table := by
  unfold State.pairing; (repeat' split) <;> (try simp)
/-- What `State.pairing` leaves unchanged of the Field Engine. -/
@[simp] theorem State.pairing_field (s : State) (l : LimitRecord) (r : SpanRecord) (b : Bool) (x : Tower) (h : Int) (t : Time) :
    (s.pairing l r b x h t).field.scanList = s.field.scanList
      ∧ (s.pairing l r b x h t).field.tx = s.field.tx ∧ (s.pairing l r b x h t).field.link = s.field.link
      ∧ (s.pairing l r b x h t).field.nodes = s.field.nodes
      ∧ (s.pairing l r b x h t).field.counts = s.field.counts
      ∧ (s.pairing l r b x h t).field.receiver = s.field.receiver
      ∧ (s.pairing l r b x h t).field.line = s.field.line
      ∧ (s.pairing l r b x h t).field.arrivals = s.field.arrivals
      ∧ (s.pairing l r b x h t).field.contention = s.field.contention
      ∧ (s.pairing l r b x h t).field.credit = s.field.credit
      ∧ (s.pairing l r b x h t).field.scanMode = s.field.scanMode
      ∧ (s.pairing l r b x h t).field.echo = s.field.echo
      ∧ (s.pairing l r b x h t).field.nextTag = s.field.nextTag
      ∧ (s.pairing l r b x h t).field.pointer = s.field.pointer
      ∧ (s.pairing l r b x h t).field.cycle = s.field.cycle
      ∧ (s.pairing l r b x h t).field.sweep = s.field.sweep
      ∧ (s.pairing l r b x h t).field.replyTimeout = s.field.replyTimeout
      ∧ (s.pairing l r b x h t).field.silentLimit = s.field.silentLimit := by
  and_intros <;> (unfold State.pairing; (repeat' split) <;> (try simp))
/-- What `State.pairing` leaves unchanged of the Span Supervisor. -/
@[simp] theorem State.pairing_span (s : State) (l : LimitRecord) (r : SpanRecord) (b : Bool) (x : Tower) (h : Int) (t : Time) :
    (s.pairing l r b x h t).span.record = s.span.record
      ∧ (s.pairing l r b x h t).span.lastHold = s.span.lastHold
      ∧ (s.pairing l r b x h t).span.holdRunning = s.span.holdRunning := by
  and_intros <;> (unfold State.pairing; (repeat' split) <;> (try simp))
/-- What `State.pairing` leaves unchanged of the mode and the chain. -/
@[simp] theorem State.pairing_unit (s : State) (l : LimitRecord) (r : SpanRecord) (b : Bool) (x : Tower) (h : Int) (t : Time) :
    (s.pairing l r b x h t).unit.limits = s.unit.limits ∧ (s.pairing l r b x h t).unit.estop = s.unit.estop
      ∧ (s.pairing l r b x h t).unit.key = s.unit.key ∧ (s.pairing l r b x h t).unit.locked = s.unit.locked
      ∧ (s.pairing l r b x h t).unit.validation = s.unit.validation := by
  and_intros <;> (unfold State.pairing; (repeat' split) <;> (try simp))
/-- What `State.pairing` leaves unchanged of the Point Image. -/
@[simp] theorem State.pairing_points (s : State) (l : LimitRecord) (r : SpanRecord) (b : Bool) (x : Tower) (h : Int) (t : Time) :
    (s.pairing l r b x h t).points.map = s.points.map := by
  unfold State.pairing; (repeat' split) <;> (try simp)

/-- The blocks `State.stallWatch` leaves unchanged. -/
@[simp] theorem State.stallWatch_frame (s : State) (r : SpanRecord) (x : Tower) :
    (s.stallWatch r x).power = s.power ∧ (s.stallWatch r x).now = s.now
      ∧ (s.stallWatch r x).pending = s.pending := by
  and_intros <;> (unfold State.stallWatch; (repeat' split) <;> (try simp))
/-- What `State.stallWatch` leaves unchanged of the Console Port. -/
@[simp] theorem State.stallWatch_console (s : State) (r : SpanRecord) (x : Tower) :
    (s.stallWatch r x).console.ingress = s.console.ingress
      ∧ (s.stallWatch r x).console.arrivals = s.console.arrivals
      ∧ (s.stallWatch r x).console.restart = s.console.restart
      ∧ (s.stallWatch r x).console.receiver = s.console.receiver
      ∧ (s.stallWatch r x).console.line = s.console.line
      ∧ (s.stallWatch r x).console.counts = s.console.counts
      ∧ (s.stallWatch r x).console.sending = s.console.sending
      ∧ (s.stallWatch r x).console.ingressOverflows = s.console.ingressOverflows := by
  and_intros <;> (unfold State.stallWatch; (repeat' split) <;> (try simp))
/-- What `State.stallWatch` leaves unchanged of the Order Gate. -/
@[simp] theorem State.stallWatch_gate (s : State) (r : SpanRecord) (x : Tower) :
    (s.stallWatch r x).gate.permits = s.gate.permits ∧ (s.stallWatch r x).gate.orders = s.gate.orders
      ∧ (s.stallWatch r x).gate.held = s.gate.held := by
  and_intros <;> (unfold State.stallWatch; (repeat' split) <;> (try simp))
/-- What `State.stallWatch` leaves unchanged of the Crossing Sequencer. -/
@[simp] theorem State.stallWatch_seq (s : State) (r : SpanRecord) (x : Tower) :
    (s.stallWatch r x).seq.table = s.seq.table ∧ (s.stallWatch r x).seq.serial = s.seq.serial := by
  and_intros <;> (unfold State.stallWatch; (repeat' split) <;> (try simp))
/-- What `State.stallWatch` leaves unchanged of the Channel Controller. -/
@[simp] theorem State.stallWatch_chan (s : State) (r : SpanRecord) (x : Tower) :
    (s.stallWatch r x).chan.record = s.chan.record
      ∧ (s.stallWatch r x).chan.ignoredCalls = s.chan.ignoredCalls
      ∧ (s.stallWatch r x).chan.badDirections = s.chan.badDirections
      ∧ (s.stallWatch r x).chan.unexpectedPassages = s.chan.unexpectedPassages := by
  and_intros <;> (unfold State.stallWatch; (repeat' split) <;> (try simp))
/-- What `State.stallWatch` leaves unchanged of the Condition Evaluator. -/
@[simp] theorem State.stallWatch_cond (s : State) (r : SpanRecord) (x : Tower) :
    (s.stallWatch r x).cond.table = s.cond.table := by
  unfold State.stallWatch; (repeat' split) <;> (try simp)
/-- What `State.stallWatch` leaves unchanged of the Field Engine. -/
@[simp] theorem State.stallWatch_field (s : State) (r : SpanRecord) (x : Tower) :
    (s.stallWatch r x).field.scanList = s.field.scanList ∧ (s.stallWatch r x).field.tx = s.field.tx
      ∧ (s.stallWatch r x).field.link = s.field.link ∧ (s.stallWatch r x).field.nodes = s.field.nodes
      ∧ (s.stallWatch r x).field.counts = s.field.counts
      ∧ (s.stallWatch r x).field.receiver = s.field.receiver ∧ (s.stallWatch r x).field.line = s.field.line
      ∧ (s.stallWatch r x).field.arrivals = s.field.arrivals
      ∧ (s.stallWatch r x).field.contention = s.field.contention
      ∧ (s.stallWatch r x).field.credit = s.field.credit
      ∧ (s.stallWatch r x).field.scanMode = s.field.scanMode ∧ (s.stallWatch r x).field.echo = s.field.echo
      ∧ (s.stallWatch r x).field.nextTag = s.field.nextTag
      ∧ (s.stallWatch r x).field.pointer = s.field.pointer ∧ (s.stallWatch r x).field.cycle = s.field.cycle
      ∧ (s.stallWatch r x).field.sweep = s.field.sweep
      ∧ (s.stallWatch r x).field.replyTimeout = s.field.replyTimeout
      ∧ (s.stallWatch r x).field.silentLimit = s.field.silentLimit := by
  and_intros <;> (unfold State.stallWatch; (repeat' split) <;> (try simp))
/-- What `State.stallWatch` leaves unchanged of the Span Supervisor. -/
@[simp] theorem State.stallWatch_span (s : State) (r : SpanRecord) (x : Tower) :
    (s.stallWatch r x).span.record = s.span.record ∧ (s.stallWatch r x).span.correction = s.span.correction
      ∧ (s.stallWatch r x).span.level = s.span.level ∧ (s.stallWatch r x).span.lastSkew = s.span.lastSkew
      ∧ (s.stallWatch r x).span.lastHold = s.span.lastHold
      ∧ (s.stallWatch r x).span.holdRunning = s.span.holdRunning
      ∧ (s.stallWatch r x).span.previous = s.span.previous
      ∧ (s.stallWatch r x).span.lastTrim = s.span.lastTrim
      ∧ (s.stallWatch r x).span.levelChanges = s.span.levelChanges := by
  and_intros <;> (unfold State.stallWatch; (repeat' split) <;> (try simp))
/-- What `State.stallWatch` leaves unchanged of the mode and the chain. -/
@[simp] theorem State.stallWatch_unit (s : State) (r : SpanRecord) (x : Tower) :
    (s.stallWatch r x).unit.limits = s.unit.limits ∧ (s.stallWatch r x).unit.estop = s.unit.estop
      ∧ (s.stallWatch r x).unit.key = s.unit.key ∧ (s.stallWatch r x).unit.locked = s.unit.locked
      ∧ (s.stallWatch r x).unit.validation = s.unit.validation := by
  and_intros <;> (unfold State.stallWatch; (repeat' split) <;> (try simp))
/-- What `State.stallWatch` leaves unchanged of the Point Image. -/
@[simp] theorem State.stallWatch_points (s : State) (r : SpanRecord) (x : Tower) :
    (s.stallWatch r x).points.map = s.points.map ∧ (s.stallWatch r x).points.firstPair = s.points.firstPair
      ∧ (s.stallWatch r x).points.pairLoss = s.points.pairLoss := by
  and_intros <;> (unfold State.stallWatch; (repeat' split) <;> (try simp))

/-- The blocks `State.takeUpdate` leaves unchanged. -/
@[simp] theorem State.takeUpdate_frame (s : State) (l : LimitRecord) (r : SpanRecord) (x : Tower) (n : Nat) (t : Time) :
    (s.takeUpdate l r x n t).power = s.power ∧ (s.takeUpdate l r x n t).now = s.now
      ∧ (s.takeUpdate l r x n t).pending = s.pending := by
  and_intros <;> (unfold State.takeUpdate State.whileMoving; cases x <;> (try dsimp only) <;> (repeat' split) <;> (try simp [Span.setTower]))
/-- What `State.takeUpdate` leaves unchanged of the Console Port. -/
@[simp] theorem State.takeUpdate_console (s : State) (l : LimitRecord) (r : SpanRecord) (x : Tower) (n : Nat) (t : Time) :
    (s.takeUpdate l r x n t).console.ingress = s.console.ingress
      ∧ (s.takeUpdate l r x n t).console.arrivals = s.console.arrivals
      ∧ (s.takeUpdate l r x n t).console.restart = s.console.restart
      ∧ (s.takeUpdate l r x n t).console.receiver = s.console.receiver
      ∧ (s.takeUpdate l r x n t).console.line = s.console.line
      ∧ (s.takeUpdate l r x n t).console.counts = s.console.counts
      ∧ (s.takeUpdate l r x n t).console.sending = s.console.sending
      ∧ (s.takeUpdate l r x n t).console.ingressOverflows = s.console.ingressOverflows := by
  and_intros <;> (unfold State.takeUpdate State.whileMoving; cases x <;> (try dsimp only) <;> (repeat' split) <;> (try simp [Span.setTower]))
/-- What `State.takeUpdate` leaves unchanged of the Order Gate. -/
@[simp] theorem State.takeUpdate_gate (s : State) (l : LimitRecord) (r : SpanRecord) (x : Tower) (n : Nat) (t : Time) :
    (s.takeUpdate l r x n t).gate.permits = s.gate.permits
      ∧ (s.takeUpdate l r x n t).gate.orders = s.gate.orders
      ∧ (s.takeUpdate l r x n t).gate.held = s.gate.held := by
  and_intros <;> (unfold State.takeUpdate State.whileMoving; cases x <;> (try dsimp only) <;> (repeat' split) <;> (try simp [Span.setTower]))
/-- What `State.takeUpdate` leaves unchanged of the Crossing Sequencer. -/
@[simp] theorem State.takeUpdate_seq (s : State) (l : LimitRecord) (r : SpanRecord) (x : Tower) (n : Nat) (t : Time) :
    (s.takeUpdate l r x n t).seq.table = s.seq.table ∧ (s.takeUpdate l r x n t).seq.serial = s.seq.serial := by
  and_intros <;> (unfold State.takeUpdate State.whileMoving; cases x <;> (try dsimp only) <;> (repeat' split) <;> (try simp [Span.setTower]))
/-- What `State.takeUpdate` leaves unchanged of the Channel Controller. -/
@[simp] theorem State.takeUpdate_chan (s : State) (l : LimitRecord) (r : SpanRecord) (x : Tower) (n : Nat) (t : Time) :
    (s.takeUpdate l r x n t).chan.record = s.chan.record
      ∧ (s.takeUpdate l r x n t).chan.ignoredCalls = s.chan.ignoredCalls
      ∧ (s.takeUpdate l r x n t).chan.badDirections = s.chan.badDirections
      ∧ (s.takeUpdate l r x n t).chan.unexpectedPassages = s.chan.unexpectedPassages := by
  and_intros <;> (unfold State.takeUpdate State.whileMoving; cases x <;> (try dsimp only) <;> (repeat' split) <;> (try simp [Span.setTower]))
/-- What `State.takeUpdate` leaves unchanged of the Condition Evaluator. -/
@[simp] theorem State.takeUpdate_cond (s : State) (l : LimitRecord) (r : SpanRecord) (x : Tower) (n : Nat) (t : Time) :
    (s.takeUpdate l r x n t).cond.table = s.cond.table := by
  unfold State.takeUpdate State.whileMoving; cases x <;> (try dsimp only) <;> (repeat' split) <;> (try simp [Span.setTower])
/-- What `State.takeUpdate` leaves unchanged of the Field Engine. -/
@[simp] theorem State.takeUpdate_field (s : State) (l : LimitRecord) (r : SpanRecord) (x : Tower) (n : Nat) (t : Time) :
    (s.takeUpdate l r x n t).field.scanList = s.field.scanList
      ∧ (s.takeUpdate l r x n t).field.tx = s.field.tx ∧ (s.takeUpdate l r x n t).field.link = s.field.link
      ∧ (s.takeUpdate l r x n t).field.nodes = s.field.nodes
      ∧ (s.takeUpdate l r x n t).field.counts = s.field.counts
      ∧ (s.takeUpdate l r x n t).field.receiver = s.field.receiver
      ∧ (s.takeUpdate l r x n t).field.line = s.field.line
      ∧ (s.takeUpdate l r x n t).field.arrivals = s.field.arrivals
      ∧ (s.takeUpdate l r x n t).field.contention = s.field.contention
      ∧ (s.takeUpdate l r x n t).field.credit = s.field.credit
      ∧ (s.takeUpdate l r x n t).field.scanMode = s.field.scanMode
      ∧ (s.takeUpdate l r x n t).field.echo = s.field.echo
      ∧ (s.takeUpdate l r x n t).field.nextTag = s.field.nextTag
      ∧ (s.takeUpdate l r x n t).field.pointer = s.field.pointer
      ∧ (s.takeUpdate l r x n t).field.cycle = s.field.cycle
      ∧ (s.takeUpdate l r x n t).field.sweep = s.field.sweep
      ∧ (s.takeUpdate l r x n t).field.replyTimeout = s.field.replyTimeout
      ∧ (s.takeUpdate l r x n t).field.silentLimit = s.field.silentLimit := by
  and_intros <;> (unfold State.takeUpdate State.whileMoving; cases x <;> (try dsimp only) <;> (repeat' split) <;> (try simp [Span.setTower]))
/-- What `State.takeUpdate` leaves unchanged of the Span Supervisor. -/
@[simp] theorem State.takeUpdate_span (s : State) (l : LimitRecord) (r : SpanRecord) (x : Tower) (n : Nat) (t : Time) :
    (s.takeUpdate l r x n t).span.record = s.span.record
      ∧ (s.takeUpdate l r x n t).span.lastHold = s.span.lastHold
      ∧ (s.takeUpdate l r x n t).span.holdRunning = s.span.holdRunning := by
  and_intros <;> (unfold State.takeUpdate State.whileMoving; cases x <;> (try dsimp only) <;> (repeat' split) <;> (try simp [Span.setTower]))
/-- What `State.takeUpdate` leaves unchanged of the mode and the chain. -/
@[simp] theorem State.takeUpdate_unit (s : State) (l : LimitRecord) (r : SpanRecord) (x : Tower) (n : Nat) (t : Time) :
    (s.takeUpdate l r x n t).unit.limits = s.unit.limits
      ∧ (s.takeUpdate l r x n t).unit.estop = s.unit.estop ∧ (s.takeUpdate l r x n t).unit.key = s.unit.key
      ∧ (s.takeUpdate l r x n t).unit.locked = s.unit.locked
      ∧ (s.takeUpdate l r x n t).unit.validation = s.unit.validation := by
  and_intros <;> (unfold State.takeUpdate State.whileMoving; cases x <;> (try dsimp only) <;> (repeat' split) <;> (try simp [Span.setTower]))
/-- What `State.takeUpdate` leaves unchanged of the Point Image. -/
@[simp] theorem State.takeUpdate_points (s : State) (l : LimitRecord) (r : SpanRecord) (x : Tower) (n : Nat) (t : Time) :
    (s.takeUpdate l r x n t).points.map = s.points.map := by
  unfold State.takeUpdate State.whileMoving; cases x <;> (try dsimp only) <;> (repeat' split) <;> (try simp [Span.setTower])

/-- The blocks `State.encoderUpdate` leaves unchanged. -/
@[simp] theorem State.encoderUpdate_frame (s : State) (x : Tower) (n : Nat) (t : Time) :
    (s.encoderUpdate x n t).power = s.power ∧ (s.encoderUpdate x n t).now = s.now
      ∧ (s.encoderUpdate x n t).pending = s.pending := by
  and_intros <;> (unfold State.encoderUpdate; (repeat' split) <;> (try simp))
/-- What `State.encoderUpdate` leaves unchanged of the Console Port. -/
@[simp] theorem State.encoderUpdate_console (s : State) (x : Tower) (n : Nat) (t : Time) :
    (s.encoderUpdate x n t).console.ingress = s.console.ingress
      ∧ (s.encoderUpdate x n t).console.arrivals = s.console.arrivals
      ∧ (s.encoderUpdate x n t).console.restart = s.console.restart
      ∧ (s.encoderUpdate x n t).console.receiver = s.console.receiver
      ∧ (s.encoderUpdate x n t).console.line = s.console.line
      ∧ (s.encoderUpdate x n t).console.counts = s.console.counts
      ∧ (s.encoderUpdate x n t).console.sending = s.console.sending
      ∧ (s.encoderUpdate x n t).console.ingressOverflows = s.console.ingressOverflows := by
  and_intros <;> (unfold State.encoderUpdate; (repeat' split) <;> (try simp))
/-- What `State.encoderUpdate` leaves unchanged of the Order Gate. -/
@[simp] theorem State.encoderUpdate_gate (s : State) (x : Tower) (n : Nat) (t : Time) :
    (s.encoderUpdate x n t).gate.permits = s.gate.permits
      ∧ (s.encoderUpdate x n t).gate.orders = s.gate.orders
      ∧ (s.encoderUpdate x n t).gate.held = s.gate.held := by
  and_intros <;> (unfold State.encoderUpdate; (repeat' split) <;> (try simp))
/-- What `State.encoderUpdate` leaves unchanged of the Crossing Sequencer. -/
@[simp] theorem State.encoderUpdate_seq (s : State) (x : Tower) (n : Nat) (t : Time) :
    (s.encoderUpdate x n t).seq.table = s.seq.table ∧ (s.encoderUpdate x n t).seq.serial = s.seq.serial := by
  and_intros <;> (unfold State.encoderUpdate; (repeat' split) <;> (try simp))
/-- What `State.encoderUpdate` leaves unchanged of the Channel Controller. -/
@[simp] theorem State.encoderUpdate_chan (s : State) (x : Tower) (n : Nat) (t : Time) :
    (s.encoderUpdate x n t).chan.record = s.chan.record
      ∧ (s.encoderUpdate x n t).chan.ignoredCalls = s.chan.ignoredCalls
      ∧ (s.encoderUpdate x n t).chan.badDirections = s.chan.badDirections
      ∧ (s.encoderUpdate x n t).chan.unexpectedPassages = s.chan.unexpectedPassages := by
  and_intros <;> (unfold State.encoderUpdate; (repeat' split) <;> (try simp))
/-- What `State.encoderUpdate` leaves unchanged of the Condition Evaluator. -/
@[simp] theorem State.encoderUpdate_cond (s : State) (x : Tower) (n : Nat) (t : Time) :
    (s.encoderUpdate x n t).cond.table = s.cond.table := by
  unfold State.encoderUpdate; (repeat' split) <;> (try simp)
/-- What `State.encoderUpdate` leaves unchanged of the Field Engine. -/
@[simp] theorem State.encoderUpdate_field (s : State) (x : Tower) (n : Nat) (t : Time) :
    (s.encoderUpdate x n t).field.scanList = s.field.scanList
      ∧ (s.encoderUpdate x n t).field.tx = s.field.tx ∧ (s.encoderUpdate x n t).field.link = s.field.link
      ∧ (s.encoderUpdate x n t).field.nodes = s.field.nodes
      ∧ (s.encoderUpdate x n t).field.counts = s.field.counts
      ∧ (s.encoderUpdate x n t).field.receiver = s.field.receiver
      ∧ (s.encoderUpdate x n t).field.line = s.field.line
      ∧ (s.encoderUpdate x n t).field.arrivals = s.field.arrivals
      ∧ (s.encoderUpdate x n t).field.contention = s.field.contention
      ∧ (s.encoderUpdate x n t).field.credit = s.field.credit
      ∧ (s.encoderUpdate x n t).field.scanMode = s.field.scanMode
      ∧ (s.encoderUpdate x n t).field.echo = s.field.echo
      ∧ (s.encoderUpdate x n t).field.nextTag = s.field.nextTag
      ∧ (s.encoderUpdate x n t).field.pointer = s.field.pointer
      ∧ (s.encoderUpdate x n t).field.cycle = s.field.cycle
      ∧ (s.encoderUpdate x n t).field.sweep = s.field.sweep
      ∧ (s.encoderUpdate x n t).field.replyTimeout = s.field.replyTimeout
      ∧ (s.encoderUpdate x n t).field.silentLimit = s.field.silentLimit := by
  and_intros <;> (unfold State.encoderUpdate; (repeat' split) <;> (try simp))
/-- What `State.encoderUpdate` leaves unchanged of the Span Supervisor. -/
@[simp] theorem State.encoderUpdate_span (s : State) (x : Tower) (n : Nat) (t : Time) :
    (s.encoderUpdate x n t).span.record = s.span.record
      ∧ (s.encoderUpdate x n t).span.lastHold = s.span.lastHold
      ∧ (s.encoderUpdate x n t).span.holdRunning = s.span.holdRunning := by
  and_intros <;> (unfold State.encoderUpdate; (repeat' split) <;> (try simp))
/-- What `State.encoderUpdate` leaves unchanged of the mode and the chain. -/
@[simp] theorem State.encoderUpdate_unit (s : State) (x : Tower) (n : Nat) (t : Time) :
    (s.encoderUpdate x n t).unit.limits = s.unit.limits ∧ (s.encoderUpdate x n t).unit.estop = s.unit.estop
      ∧ (s.encoderUpdate x n t).unit.key = s.unit.key ∧ (s.encoderUpdate x n t).unit.locked = s.unit.locked
      ∧ (s.encoderUpdate x n t).unit.validation = s.unit.validation := by
  and_intros <;> (unfold State.encoderUpdate; (repeat' split) <;> (try simp))
/-- What `State.encoderUpdate` leaves unchanged of the Point Image. -/
@[simp] theorem State.encoderUpdate_points (s : State) (x : Tower) (n : Nat) (t : Time) :
    (s.encoderUpdate x n t).points.map = s.points.map := by
  unfold State.encoderUpdate; (repeat' split) <;> (try simp)

/-- The blocks `State.encoderLost` leaves unchanged. -/
@[simp] theorem State.encoderLost_frame (s : State) :
    (s.encoderLost).power = s.power ∧ (s.encoderLost).now = s.now ∧ (s.encoderLost).pending = s.pending := by
  and_intros <;> (unfold State.encoderLost; split <;> (try simp))
/-- What `State.encoderLost` leaves unchanged of the Console Port. -/
@[simp] theorem State.encoderLost_console (s : State) :
    (s.encoderLost).console.ingress = s.console.ingress
      ∧ (s.encoderLost).console.arrivals = s.console.arrivals
      ∧ (s.encoderLost).console.restart = s.console.restart
      ∧ (s.encoderLost).console.receiver = s.console.receiver
      ∧ (s.encoderLost).console.line = s.console.line ∧ (s.encoderLost).console.counts = s.console.counts
      ∧ (s.encoderLost).console.sending = s.console.sending
      ∧ (s.encoderLost).console.ingressOverflows = s.console.ingressOverflows := by
  and_intros <;> (unfold State.encoderLost; split <;> (try simp))
/-- What `State.encoderLost` leaves unchanged of the Order Gate. -/
@[simp] theorem State.encoderLost_gate (s : State) :
    (s.encoderLost).gate.permits = s.gate.permits ∧ (s.encoderLost).gate.orders = s.gate.orders
      ∧ (s.encoderLost).gate.held = s.gate.held := by
  and_intros <;> (unfold State.encoderLost; split <;> (try simp))
/-- What `State.encoderLost` leaves unchanged of the Crossing Sequencer. -/
@[simp] theorem State.encoderLost_seq (s : State) :
    (s.encoderLost).seq.table = s.seq.table ∧ (s.encoderLost).seq.serial = s.seq.serial := by
  and_intros <;> (unfold State.encoderLost; split <;> (try simp))
/-- What `State.encoderLost` leaves unchanged of the Channel Controller. -/
@[simp] theorem State.encoderLost_chan (s : State) :
    (s.encoderLost).chan.record = s.chan.record
      ∧ (s.encoderLost).chan.ignoredCalls = s.chan.ignoredCalls
      ∧ (s.encoderLost).chan.badDirections = s.chan.badDirections
      ∧ (s.encoderLost).chan.unexpectedPassages = s.chan.unexpectedPassages := by
  and_intros <;> (unfold State.encoderLost; split <;> (try simp))
/-- What `State.encoderLost` leaves unchanged of the Condition Evaluator. -/
@[simp] theorem State.encoderLost_cond (s : State) :
    (s.encoderLost).cond.table = s.cond.table := by
  unfold State.encoderLost; split <;> (try simp)
/-- What `State.encoderLost` leaves unchanged of the Field Engine. -/
@[simp] theorem State.encoderLost_field (s : State) :
    (s.encoderLost).field.scanList = s.field.scanList ∧ (s.encoderLost).field.tx = s.field.tx
      ∧ (s.encoderLost).field.link = s.field.link ∧ (s.encoderLost).field.nodes = s.field.nodes
      ∧ (s.encoderLost).field.counts = s.field.counts ∧ (s.encoderLost).field.receiver = s.field.receiver
      ∧ (s.encoderLost).field.line = s.field.line ∧ (s.encoderLost).field.arrivals = s.field.arrivals
      ∧ (s.encoderLost).field.contention = s.field.contention
      ∧ (s.encoderLost).field.credit = s.field.credit ∧ (s.encoderLost).field.scanMode = s.field.scanMode
      ∧ (s.encoderLost).field.echo = s.field.echo ∧ (s.encoderLost).field.nextTag = s.field.nextTag
      ∧ (s.encoderLost).field.pointer = s.field.pointer ∧ (s.encoderLost).field.cycle = s.field.cycle
      ∧ (s.encoderLost).field.sweep = s.field.sweep
      ∧ (s.encoderLost).field.replyTimeout = s.field.replyTimeout
      ∧ (s.encoderLost).field.silentLimit = s.field.silentLimit := by
  and_intros <;> (unfold State.encoderLost; split <;> (try simp))
/-- What `State.encoderLost` leaves unchanged of the Span Supervisor. -/
@[simp] theorem State.encoderLost_span (s : State) :
    (s.encoderLost).span.record = s.span.record ∧ (s.encoderLost).span.correction = s.span.correction
      ∧ (s.encoderLost).span.lastSkew = s.span.lastSkew ∧ (s.encoderLost).span.lastHold = s.span.lastHold
      ∧ (s.encoderLost).span.holdRunning = s.span.holdRunning
      ∧ (s.encoderLost).span.previous = s.span.previous ∧ (s.encoderLost).span.lastTrim = s.span.lastTrim := by
  and_intros <;> (unfold State.encoderLost; split <;> (try simp))
/-- What `State.encoderLost` leaves unchanged of the mode and the chain. -/
@[simp] theorem State.encoderLost_unit (s : State) :
    (s.encoderLost).unit.limits = s.unit.limits ∧ (s.encoderLost).unit.estop = s.unit.estop
      ∧ (s.encoderLost).unit.key = s.unit.key ∧ (s.encoderLost).unit.locked = s.unit.locked
      ∧ (s.encoderLost).unit.validation = s.unit.validation := by
  and_intros <;> (unfold State.encoderLost; split <;> (try simp))
/-- What `State.encoderLost` leaves unchanged of the Point Image. -/
@[simp] theorem State.encoderLost_points (s : State) :
    (s.encoderLost).points.map = s.points.map ∧ (s.encoderLost).points.firstPair = s.points.firstPair
      ∧ (s.encoderLost).points.pairLoss = s.points.pairLoss := by
  and_intros <;> (unfold State.encoderLost; split <;> (try simp))

/-- The blocks `State.startWatches` leaves unchanged. -/
@[simp] theorem State.startWatches_frame (s : State) (r : SpanRecord) :
    (s.startWatches r).power = s.power ∧ (s.startWatches r).now = s.now
      ∧ (s.startWatches r).pending = s.pending := by
  and_intros <;> (unfold State.startWatches; (repeat' split) <;> (try simp))
/-- What `State.startWatches` leaves unchanged of the Console Port. -/
@[simp] theorem State.startWatches_console (s : State) (r : SpanRecord) :
    (s.startWatches r).console.ingress = s.console.ingress
      ∧ (s.startWatches r).console.arrivals = s.console.arrivals
      ∧ (s.startWatches r).console.restart = s.console.restart
      ∧ (s.startWatches r).console.receiver = s.console.receiver
      ∧ (s.startWatches r).console.line = s.console.line
      ∧ (s.startWatches r).console.counts = s.console.counts
      ∧ (s.startWatches r).console.sending = s.console.sending
      ∧ (s.startWatches r).console.ingressOverflows = s.console.ingressOverflows := by
  and_intros <;> (unfold State.startWatches; (repeat' split) <;> (try simp))
/-- What `State.startWatches` leaves unchanged of the Order Gate. -/
@[simp] theorem State.startWatches_gate (s : State) (r : SpanRecord) :
    (s.startWatches r).gate.permits = s.gate.permits ∧ (s.startWatches r).gate.orders = s.gate.orders
      ∧ (s.startWatches r).gate.held = s.gate.held := by
  and_intros <;> (unfold State.startWatches; (repeat' split) <;> (try simp))
/-- What `State.startWatches` leaves unchanged of the Crossing Sequencer. -/
@[simp] theorem State.startWatches_seq (s : State) (r : SpanRecord) :
    (s.startWatches r).seq.table = s.seq.table ∧ (s.startWatches r).seq.serial = s.seq.serial := by
  and_intros <;> (unfold State.startWatches; (repeat' split) <;> (try simp))
/-- What `State.startWatches` leaves unchanged of the Channel Controller. -/
@[simp] theorem State.startWatches_chan (s : State) (r : SpanRecord) :
    (s.startWatches r).chan.record = s.chan.record
      ∧ (s.startWatches r).chan.ignoredCalls = s.chan.ignoredCalls
      ∧ (s.startWatches r).chan.badDirections = s.chan.badDirections
      ∧ (s.startWatches r).chan.unexpectedPassages = s.chan.unexpectedPassages := by
  and_intros <;> (unfold State.startWatches; (repeat' split) <;> (try simp))
/-- What `State.startWatches` leaves unchanged of the Condition Evaluator. -/
@[simp] theorem State.startWatches_cond (s : State) (r : SpanRecord) :
    (s.startWatches r).cond.table = s.cond.table := by
  unfold State.startWatches; (repeat' split) <;> (try simp)
/-- What `State.startWatches` leaves unchanged of the Field Engine. -/
@[simp] theorem State.startWatches_field (s : State) (r : SpanRecord) :
    (s.startWatches r).field.scanList = s.field.scanList ∧ (s.startWatches r).field.tx = s.field.tx
      ∧ (s.startWatches r).field.link = s.field.link ∧ (s.startWatches r).field.nodes = s.field.nodes
      ∧ (s.startWatches r).field.counts = s.field.counts
      ∧ (s.startWatches r).field.receiver = s.field.receiver ∧ (s.startWatches r).field.line = s.field.line
      ∧ (s.startWatches r).field.arrivals = s.field.arrivals
      ∧ (s.startWatches r).field.contention = s.field.contention
      ∧ (s.startWatches r).field.credit = s.field.credit
      ∧ (s.startWatches r).field.scanMode = s.field.scanMode ∧ (s.startWatches r).field.echo = s.field.echo
      ∧ (s.startWatches r).field.nextTag = s.field.nextTag
      ∧ (s.startWatches r).field.pointer = s.field.pointer ∧ (s.startWatches r).field.cycle = s.field.cycle
      ∧ (s.startWatches r).field.sweep = s.field.sweep
      ∧ (s.startWatches r).field.replyTimeout = s.field.replyTimeout
      ∧ (s.startWatches r).field.silentLimit = s.field.silentLimit := by
  and_intros <;> (unfold State.startWatches; (repeat' split) <;> (try simp))
/-- What `State.startWatches` leaves unchanged of the Span Supervisor. -/
@[simp] theorem State.startWatches_span (s : State) (r : SpanRecord) :
    (s.startWatches r).span.record = s.span.record ∧ (s.startWatches r).span.correction = s.span.correction
      ∧ (s.startWatches r).span.level = s.span.level ∧ (s.startWatches r).span.lastSkew = s.span.lastSkew
      ∧ (s.startWatches r).span.lastHold = s.span.lastHold
      ∧ (s.startWatches r).span.holdRunning = s.span.holdRunning
      ∧ (s.startWatches r).span.previous = s.span.previous
      ∧ (s.startWatches r).span.lastTrim = s.span.lastTrim
      ∧ (s.startWatches r).span.levelChanges = s.span.levelChanges := by
  and_intros <;> (unfold State.startWatches; (repeat' split) <;> (try simp))
/-- What `State.startWatches` leaves unchanged of the mode and the chain. -/
@[simp] theorem State.startWatches_unit (s : State) (r : SpanRecord) :
    (s.startWatches r).unit.limits = s.unit.limits ∧ (s.startWatches r).unit.estop = s.unit.estop
      ∧ (s.startWatches r).unit.key = s.unit.key ∧ (s.startWatches r).unit.locked = s.unit.locked
      ∧ (s.startWatches r).unit.validation = s.unit.validation := by
  and_intros <;> (unfold State.startWatches; (repeat' split) <;> (try simp))
/-- What `State.startWatches` leaves unchanged of the Point Image. -/
@[simp] theorem State.startWatches_points (s : State) (r : SpanRecord) :
    (s.startWatches r).points.map = s.points.map ∧ (s.startWatches r).points.firstPair = s.points.firstPair
      ∧ (s.startWatches r).points.pairLoss = s.points.pairLoss := by
  and_intros <;> (unfold State.startWatches; (repeat' split) <;> (try simp))

/-- The blocks `State.firstStart` leaves unchanged. -/
@[simp] theorem State.firstStart_frame (s : State) (r : SpanRecord) (t : Tower) (u : Bool) :
    (s.firstStart r t u).power = s.power ∧ (s.firstStart r t u).now = s.now
      ∧ (s.firstStart r t u).pending = s.pending := by
  and_intros <;> (unfold State.firstStart; (repeat' split) <;> (try simp [Span.started]))
/-- What `State.firstStart` leaves unchanged of the Console Port. -/
@[simp] theorem State.firstStart_console (s : State) (r : SpanRecord) (t : Tower) (u : Bool) :
    (s.firstStart r t u).console.ingress = s.console.ingress
      ∧ (s.firstStart r t u).console.arrivals = s.console.arrivals
      ∧ (s.firstStart r t u).console.restart = s.console.restart
      ∧ (s.firstStart r t u).console.receiver = s.console.receiver
      ∧ (s.firstStart r t u).console.line = s.console.line
      ∧ (s.firstStart r t u).console.counts = s.console.counts
      ∧ (s.firstStart r t u).console.sending = s.console.sending
      ∧ (s.firstStart r t u).console.ingressOverflows = s.console.ingressOverflows := by
  and_intros <;> (unfold State.firstStart; (repeat' split) <;> (try simp [Span.started]))
/-- What `State.firstStart` leaves unchanged of the Order Gate. -/
@[simp] theorem State.firstStart_gate (s : State) (r : SpanRecord) (t : Tower) (u : Bool) :
    (s.firstStart r t u).gate.permits = s.gate.permits ∧ (s.firstStart r t u).gate.orders = s.gate.orders
      ∧ (s.firstStart r t u).gate.held = s.gate.held := by
  and_intros <;> (unfold State.firstStart; (repeat' split) <;> (try simp [Span.started]))
/-- What `State.firstStart` leaves unchanged of the Crossing Sequencer. -/
@[simp] theorem State.firstStart_seq (s : State) (r : SpanRecord) (t : Tower) (u : Bool) :
    (s.firstStart r t u).seq.table = s.seq.table ∧ (s.firstStart r t u).seq.serial = s.seq.serial := by
  and_intros <;> (unfold State.firstStart; (repeat' split) <;> (try simp [Span.started]))
/-- What `State.firstStart` leaves unchanged of the Channel Controller. -/
@[simp] theorem State.firstStart_chan (s : State) (r : SpanRecord) (t : Tower) (u : Bool) :
    (s.firstStart r t u).chan.record = s.chan.record
      ∧ (s.firstStart r t u).chan.ignoredCalls = s.chan.ignoredCalls
      ∧ (s.firstStart r t u).chan.badDirections = s.chan.badDirections
      ∧ (s.firstStart r t u).chan.unexpectedPassages = s.chan.unexpectedPassages := by
  and_intros <;> (unfold State.firstStart; (repeat' split) <;> (try simp [Span.started]))
/-- What `State.firstStart` leaves unchanged of the Condition Evaluator. -/
@[simp] theorem State.firstStart_cond (s : State) (r : SpanRecord) (t : Tower) (u : Bool) :
    (s.firstStart r t u).cond.table = s.cond.table := by
  unfold State.firstStart; (repeat' split) <;> (try simp [Span.started])
/-- What `State.firstStart` leaves unchanged of the Field Engine. -/
@[simp] theorem State.firstStart_field (s : State) (r : SpanRecord) (t : Tower) (u : Bool) :
    (s.firstStart r t u).field.scanList = s.field.scanList ∧ (s.firstStart r t u).field.tx = s.field.tx
      ∧ (s.firstStart r t u).field.link = s.field.link ∧ (s.firstStart r t u).field.nodes = s.field.nodes
      ∧ (s.firstStart r t u).field.counts = s.field.counts
      ∧ (s.firstStart r t u).field.receiver = s.field.receiver
      ∧ (s.firstStart r t u).field.line = s.field.line
      ∧ (s.firstStart r t u).field.arrivals = s.field.arrivals
      ∧ (s.firstStart r t u).field.contention = s.field.contention
      ∧ (s.firstStart r t u).field.credit = s.field.credit
      ∧ (s.firstStart r t u).field.scanMode = s.field.scanMode
      ∧ (s.firstStart r t u).field.echo = s.field.echo
      ∧ (s.firstStart r t u).field.nextTag = s.field.nextTag
      ∧ (s.firstStart r t u).field.pointer = s.field.pointer
      ∧ (s.firstStart r t u).field.cycle = s.field.cycle ∧ (s.firstStart r t u).field.sweep = s.field.sweep
      ∧ (s.firstStart r t u).field.replyTimeout = s.field.replyTimeout
      ∧ (s.firstStart r t u).field.silentLimit = s.field.silentLimit := by
  and_intros <;> (unfold State.firstStart; (repeat' split) <;> (try simp [Span.started]))
/-- What `State.firstStart` leaves unchanged of the Span Supervisor. -/
@[simp] theorem State.firstStart_span (s : State) (r : SpanRecord) (t : Tower) (u : Bool) :
    (s.firstStart r t u).span.record = s.span.record ∧ (s.firstStart r t u).span.level = s.span.level
      ∧ (s.firstStart r t u).span.lastSkew = s.span.lastSkew
      ∧ (s.firstStart r t u).span.lastHold = s.span.lastHold
      ∧ (s.firstStart r t u).span.holdRunning = s.span.holdRunning
      ∧ (s.firstStart r t u).span.levelChanges = s.span.levelChanges := by
  and_intros <;> (unfold State.firstStart; (repeat' split) <;> (try simp [Span.started]))
/-- What `State.firstStart` leaves unchanged of the mode and the chain. -/
@[simp] theorem State.firstStart_unit (s : State) (r : SpanRecord) (t : Tower) (u : Bool) :
    (s.firstStart r t u).unit.limits = s.unit.limits ∧ (s.firstStart r t u).unit.estop = s.unit.estop
      ∧ (s.firstStart r t u).unit.key = s.unit.key ∧ (s.firstStart r t u).unit.locked = s.unit.locked
      ∧ (s.firstStart r t u).unit.validation = s.unit.validation := by
  and_intros <;> (unfold State.firstStart; (repeat' split) <;> (try simp [Span.started]))
/-- What `State.firstStart` leaves unchanged of the Point Image. -/
@[simp] theorem State.firstStart_points (s : State) (r : SpanRecord) (t : Tower) (u : Bool) :
    (s.firstStart r t u).points.map = s.points.map
      ∧ (s.firstStart r t u).points.firstPair = s.points.firstPair
      ∧ (s.firstStart r t u).points.pairLoss = s.points.pairLoss := by
  and_intros <;> (unfold State.firstStart; (repeat' split) <;> (try simp [Span.started]))

/-- The blocks `State.laterStart` leaves unchanged. -/
@[simp] theorem State.laterStart_frame (s : State) (b : Bool) (t : Tower) :
    (s.laterStart b t).power = s.power ∧ (s.laterStart b t).now = s.now
      ∧ (s.laterStart b t).pending = s.pending := by
  and_intros <;> (unfold State.laterStart; (repeat' split) <;> (try simp))
/-- What `State.laterStart` leaves unchanged of the Console Port. -/
@[simp] theorem State.laterStart_console (s : State) (b : Bool) (t : Tower) :
    (s.laterStart b t).console.ingress = s.console.ingress
      ∧ (s.laterStart b t).console.arrivals = s.console.arrivals
      ∧ (s.laterStart b t).console.restart = s.console.restart
      ∧ (s.laterStart b t).console.receiver = s.console.receiver
      ∧ (s.laterStart b t).console.line = s.console.line
      ∧ (s.laterStart b t).console.counts = s.console.counts
      ∧ (s.laterStart b t).console.sending = s.console.sending
      ∧ (s.laterStart b t).console.ingressOverflows = s.console.ingressOverflows := by
  and_intros <;> (unfold State.laterStart; (repeat' split) <;> (try simp))
/-- What `State.laterStart` leaves unchanged of the Order Gate. -/
@[simp] theorem State.laterStart_gate (s : State) (b : Bool) (t : Tower) :
    (s.laterStart b t).gate.permits = s.gate.permits ∧ (s.laterStart b t).gate.orders = s.gate.orders
      ∧ (s.laterStart b t).gate.held = s.gate.held := by
  and_intros <;> (unfold State.laterStart; (repeat' split) <;> (try simp))
/-- What `State.laterStart` leaves unchanged of the Crossing Sequencer. -/
@[simp] theorem State.laterStart_seq (s : State) (b : Bool) (t : Tower) :
    (s.laterStart b t).seq.table = s.seq.table ∧ (s.laterStart b t).seq.serial = s.seq.serial := by
  and_intros <;> (unfold State.laterStart; (repeat' split) <;> (try simp))
/-- What `State.laterStart` leaves unchanged of the Channel Controller. -/
@[simp] theorem State.laterStart_chan (s : State) (b : Bool) (t : Tower) :
    (s.laterStart b t).chan.record = s.chan.record
      ∧ (s.laterStart b t).chan.ignoredCalls = s.chan.ignoredCalls
      ∧ (s.laterStart b t).chan.badDirections = s.chan.badDirections
      ∧ (s.laterStart b t).chan.unexpectedPassages = s.chan.unexpectedPassages := by
  and_intros <;> (unfold State.laterStart; (repeat' split) <;> (try simp))
/-- What `State.laterStart` leaves unchanged of the Condition Evaluator. -/
@[simp] theorem State.laterStart_cond (s : State) (b : Bool) (t : Tower) :
    (s.laterStart b t).cond.table = s.cond.table := by
  unfold State.laterStart; (repeat' split) <;> (try simp)
/-- What `State.laterStart` leaves unchanged of the Field Engine. -/
@[simp] theorem State.laterStart_field (s : State) (b : Bool) (t : Tower) :
    (s.laterStart b t).field.scanList = s.field.scanList ∧ (s.laterStart b t).field.tx = s.field.tx
      ∧ (s.laterStart b t).field.link = s.field.link ∧ (s.laterStart b t).field.nodes = s.field.nodes
      ∧ (s.laterStart b t).field.counts = s.field.counts
      ∧ (s.laterStart b t).field.receiver = s.field.receiver ∧ (s.laterStart b t).field.line = s.field.line
      ∧ (s.laterStart b t).field.arrivals = s.field.arrivals
      ∧ (s.laterStart b t).field.contention = s.field.contention
      ∧ (s.laterStart b t).field.credit = s.field.credit
      ∧ (s.laterStart b t).field.scanMode = s.field.scanMode ∧ (s.laterStart b t).field.echo = s.field.echo
      ∧ (s.laterStart b t).field.nextTag = s.field.nextTag
      ∧ (s.laterStart b t).field.pointer = s.field.pointer ∧ (s.laterStart b t).field.cycle = s.field.cycle
      ∧ (s.laterStart b t).field.sweep = s.field.sweep
      ∧ (s.laterStart b t).field.replyTimeout = s.field.replyTimeout
      ∧ (s.laterStart b t).field.silentLimit = s.field.silentLimit := by
  and_intros <;> (unfold State.laterStart; (repeat' split) <;> (try simp))
/-- What `State.laterStart` leaves unchanged of the Span Supervisor. -/
@[simp] theorem State.laterStart_span (s : State) (b : Bool) (t : Tower) :
    (s.laterStart b t).span.record = s.span.record ∧ (s.laterStart b t).span.correction = s.span.correction
      ∧ (s.laterStart b t).span.level = s.span.level ∧ (s.laterStart b t).span.lastSkew = s.span.lastSkew
      ∧ (s.laterStart b t).span.lastHold = s.span.lastHold
      ∧ (s.laterStart b t).span.holdRunning = s.span.holdRunning
      ∧ (s.laterStart b t).span.previous = s.span.previous
      ∧ (s.laterStart b t).span.lastTrim = s.span.lastTrim
      ∧ (s.laterStart b t).span.levelChanges = s.span.levelChanges := by
  and_intros <;> (unfold State.laterStart; (repeat' split) <;> (try simp))
/-- What `State.laterStart` leaves unchanged of the mode and the chain. -/
@[simp] theorem State.laterStart_unit (s : State) (b : Bool) (t : Tower) :
    (s.laterStart b t).unit.limits = s.unit.limits ∧ (s.laterStart b t).unit.estop = s.unit.estop
      ∧ (s.laterStart b t).unit.key = s.unit.key ∧ (s.laterStart b t).unit.locked = s.unit.locked
      ∧ (s.laterStart b t).unit.validation = s.unit.validation := by
  and_intros <;> (unfold State.laterStart; (repeat' split) <;> (try simp))
/-- What `State.laterStart` leaves unchanged of the Point Image. -/
@[simp] theorem State.laterStart_points (s : State) (b : Bool) (t : Tower) :
    (s.laterStart b t).points.map = s.points.map ∧ (s.laterStart b t).points.firstPair = s.points.firstPair
      ∧ (s.laterStart b t).points.pairLoss = s.points.pairLoss := by
  and_intros <;> (unfold State.laterStart; (repeat' split) <;> (try simp))

/-- The blocks `State.startDone` leaves unchanged. -/
@[simp] theorem State.startDone_frame (s : State) (n c : Nat) :
    (s.startDone n c).power = s.power ∧ (s.startDone n c).now = s.now
      ∧ (s.startDone n c).pending = s.pending := by
  and_intros <;> (unfold State.startDone; (repeat' split) <;> (try simp))
/-- What `State.startDone` leaves unchanged of the Console Port. -/
@[simp] theorem State.startDone_console (s : State) (n c : Nat) :
    (s.startDone n c).console.ingress = s.console.ingress
      ∧ (s.startDone n c).console.arrivals = s.console.arrivals
      ∧ (s.startDone n c).console.restart = s.console.restart
      ∧ (s.startDone n c).console.receiver = s.console.receiver
      ∧ (s.startDone n c).console.line = s.console.line
      ∧ (s.startDone n c).console.counts = s.console.counts
      ∧ (s.startDone n c).console.sending = s.console.sending
      ∧ (s.startDone n c).console.ingressOverflows = s.console.ingressOverflows := by
  and_intros <;> (unfold State.startDone; (repeat' split) <;> (try simp))
/-- What `State.startDone` leaves unchanged of the Order Gate. -/
@[simp] theorem State.startDone_gate (s : State) (n c : Nat) :
    (s.startDone n c).gate.permits = s.gate.permits ∧ (s.startDone n c).gate.orders = s.gate.orders
      ∧ (s.startDone n c).gate.held = s.gate.held := by
  and_intros <;> (unfold State.startDone; (repeat' split) <;> (try simp))
/-- What `State.startDone` leaves unchanged of the Crossing Sequencer. -/
@[simp] theorem State.startDone_seq (s : State) (n c : Nat) :
    (s.startDone n c).seq.table = s.seq.table ∧ (s.startDone n c).seq.serial = s.seq.serial := by
  and_intros <;> (unfold State.startDone; (repeat' split) <;> (try simp))
/-- What `State.startDone` leaves unchanged of the Channel Controller. -/
@[simp] theorem State.startDone_chan (s : State) (n c : Nat) :
    (s.startDone n c).chan.record = s.chan.record
      ∧ (s.startDone n c).chan.ignoredCalls = s.chan.ignoredCalls
      ∧ (s.startDone n c).chan.badDirections = s.chan.badDirections
      ∧ (s.startDone n c).chan.unexpectedPassages = s.chan.unexpectedPassages := by
  and_intros <;> (unfold State.startDone; (repeat' split) <;> (try simp))
/-- What `State.startDone` leaves unchanged of the Condition Evaluator. -/
@[simp] theorem State.startDone_cond (s : State) (n c : Nat) :
    (s.startDone n c).cond.table = s.cond.table := by
  unfold State.startDone; (repeat' split) <;> (try simp)
/-- What `State.startDone` leaves unchanged of the Field Engine. -/
@[simp] theorem State.startDone_field (s : State) (n c : Nat) :
    (s.startDone n c).field.scanList = s.field.scanList ∧ (s.startDone n c).field.tx = s.field.tx
      ∧ (s.startDone n c).field.link = s.field.link ∧ (s.startDone n c).field.nodes = s.field.nodes
      ∧ (s.startDone n c).field.counts = s.field.counts
      ∧ (s.startDone n c).field.receiver = s.field.receiver ∧ (s.startDone n c).field.line = s.field.line
      ∧ (s.startDone n c).field.arrivals = s.field.arrivals
      ∧ (s.startDone n c).field.contention = s.field.contention
      ∧ (s.startDone n c).field.credit = s.field.credit
      ∧ (s.startDone n c).field.scanMode = s.field.scanMode ∧ (s.startDone n c).field.echo = s.field.echo
      ∧ (s.startDone n c).field.nextTag = s.field.nextTag
      ∧ (s.startDone n c).field.pointer = s.field.pointer ∧ (s.startDone n c).field.cycle = s.field.cycle
      ∧ (s.startDone n c).field.sweep = s.field.sweep
      ∧ (s.startDone n c).field.replyTimeout = s.field.replyTimeout
      ∧ (s.startDone n c).field.silentLimit = s.field.silentLimit := by
  and_intros <;> (unfold State.startDone; (repeat' split) <;> (try simp))
/-- What `State.startDone` leaves unchanged of the Span Supervisor. -/
@[simp] theorem State.startDone_span (s : State) (n c : Nat) :
    (s.startDone n c).span.record = s.span.record ∧ (s.startDone n c).span.level = s.span.level
      ∧ (s.startDone n c).span.lastSkew = s.span.lastSkew
      ∧ (s.startDone n c).span.lastHold = s.span.lastHold
      ∧ (s.startDone n c).span.holdRunning = s.span.holdRunning
      ∧ (s.startDone n c).span.levelChanges = s.span.levelChanges := by
  and_intros <;> (unfold State.startDone; (repeat' split) <;> (try simp))
/-- What `State.startDone` leaves unchanged of the mode and the chain. -/
@[simp] theorem State.startDone_unit (s : State) (n c : Nat) :
    (s.startDone n c).unit.limits = s.unit.limits ∧ (s.startDone n c).unit.estop = s.unit.estop
      ∧ (s.startDone n c).unit.key = s.unit.key ∧ (s.startDone n c).unit.locked = s.unit.locked
      ∧ (s.startDone n c).unit.validation = s.unit.validation := by
  and_intros <;> (unfold State.startDone; (repeat' split) <;> (try simp))
/-- What `State.startDone` leaves unchanged of the Point Image. -/
@[simp] theorem State.startDone_points (s : State) (n c : Nat) :
    (s.startDone n c).points.map = s.points.map ∧ (s.startDone n c).points.firstPair = s.points.firstPair
      ∧ (s.startDone n c).points.pairLoss = s.points.pairLoss := by
  and_intros <;> (unfold State.startDone; (repeat' split) <;> (try simp))

/-- The blocks `State.setTrimLoss` leaves unchanged. -/
@[simp] theorem State.setTrimLoss_frame (s : State) (t : Tower) (n : Nat) :
    (s.setTrimLoss t n).power = s.power ∧ (s.setTrimLoss t n).now = s.now
      ∧ (s.setTrimLoss t n).pending = s.pending ∧ (s.setTrimLoss t n).console = s.console
      ∧ (s.setTrimLoss t n).field = s.field ∧ (s.setTrimLoss t n).points = s.points
      ∧ (s.setTrimLoss t n).cond = s.cond ∧ (s.setTrimLoss t n).gate = s.gate
      ∧ (s.setTrimLoss t n).seq = s.seq ∧ (s.setTrimLoss t n).chan = s.chan
      ∧ (s.setTrimLoss t n).duty = s.duty ∧ (s.setTrimLoss t n).unit = s.unit := by
  and_intros <;> (unfold State.setTrimLoss; cases t <;> (try simp [Span.setTower]))
/-- What `State.setTrimLoss` leaves unchanged of the Span Supervisor. -/
@[simp] theorem State.setTrimLoss_span (s : State) (t : Tower) (n : Nat) :
    (s.setTrimLoss t n).span.record = s.span.record ∧ (s.setTrimLoss t n).span.motion = s.span.motion
      ∧ (s.setTrimLoss t n).span.correction = s.span.correction
      ∧ (s.setTrimLoss t n).span.level = s.span.level ∧ (s.setTrimLoss t n).span.lastSkew = s.span.lastSkew
      ∧ (s.setTrimLoss t n).span.lastHold = s.span.lastHold
      ∧ (s.setTrimLoss t n).span.holdRunning = s.span.holdRunning
      ∧ (s.setTrimLoss t n).span.startWindow = s.span.startWindow
      ∧ (s.setTrimLoss t n).span.stopTimer = s.span.stopTimer
      ∧ (s.setTrimLoss t n).span.previous = s.span.previous
      ∧ (s.setTrimLoss t n).span.lastTrim = s.span.lastTrim
      ∧ (s.setTrimLoss t n).span.stopKind = s.span.stopKind
      ∧ (s.setTrimLoss t n).span.levelChanges = s.span.levelChanges := by
  and_intros <;> (unfold State.setTrimLoss; cases t <;> (try simp [Span.setTower]))

/-- The blocks `State.trimOutcome` leaves unchanged. -/
@[simp] theorem State.trimOutcome_frame (s : State) (t : Tower) (r : Result) :
    (s.trimOutcome t r).power = s.power ∧ (s.trimOutcome t r).now = s.now
      ∧ (s.trimOutcome t r).pending = s.pending := by
  and_intros <;> (unfold State.trimOutcome; (try dsimp only); (repeat' split) <;> (try simp))
/-- What `State.trimOutcome` leaves unchanged of the Console Port. -/
@[simp] theorem State.trimOutcome_console (s : State) (t : Tower) (r : Result) :
    (s.trimOutcome t r).console.ingress = s.console.ingress
      ∧ (s.trimOutcome t r).console.arrivals = s.console.arrivals
      ∧ (s.trimOutcome t r).console.restart = s.console.restart
      ∧ (s.trimOutcome t r).console.receiver = s.console.receiver
      ∧ (s.trimOutcome t r).console.line = s.console.line
      ∧ (s.trimOutcome t r).console.counts = s.console.counts
      ∧ (s.trimOutcome t r).console.sending = s.console.sending
      ∧ (s.trimOutcome t r).console.ingressOverflows = s.console.ingressOverflows := by
  and_intros <;> (unfold State.trimOutcome; (try dsimp only); (repeat' split) <;> (try simp))
/-- What `State.trimOutcome` leaves unchanged of the Order Gate. -/
@[simp] theorem State.trimOutcome_gate (s : State) (t : Tower) (r : Result) :
    (s.trimOutcome t r).gate.permits = s.gate.permits ∧ (s.trimOutcome t r).gate.orders = s.gate.orders
      ∧ (s.trimOutcome t r).gate.held = s.gate.held := by
  and_intros <;> (unfold State.trimOutcome; (try dsimp only); (repeat' split) <;> (try simp))
/-- What `State.trimOutcome` leaves unchanged of the Crossing Sequencer. -/
@[simp] theorem State.trimOutcome_seq (s : State) (t : Tower) (r : Result) :
    (s.trimOutcome t r).seq.table = s.seq.table ∧ (s.trimOutcome t r).seq.serial = s.seq.serial := by
  and_intros <;> (unfold State.trimOutcome; (try dsimp only); (repeat' split) <;> (try simp))
/-- What `State.trimOutcome` leaves unchanged of the Channel Controller. -/
@[simp] theorem State.trimOutcome_chan (s : State) (t : Tower) (r : Result) :
    (s.trimOutcome t r).chan.record = s.chan.record
      ∧ (s.trimOutcome t r).chan.ignoredCalls = s.chan.ignoredCalls
      ∧ (s.trimOutcome t r).chan.badDirections = s.chan.badDirections
      ∧ (s.trimOutcome t r).chan.unexpectedPassages = s.chan.unexpectedPassages := by
  and_intros <;> (unfold State.trimOutcome; (try dsimp only); (repeat' split) <;> (try simp))
/-- What `State.trimOutcome` leaves unchanged of the Condition Evaluator. -/
@[simp] theorem State.trimOutcome_cond (s : State) (t : Tower) (r : Result) :
    (s.trimOutcome t r).cond.table = s.cond.table := by
  unfold State.trimOutcome; (try dsimp only); (repeat' split) <;> (try simp)
/-- What `State.trimOutcome` leaves unchanged of the Field Engine. -/
@[simp] theorem State.trimOutcome_field (s : State) (t : Tower) (r : Result) :
    (s.trimOutcome t r).field.scanList = s.field.scanList ∧ (s.trimOutcome t r).field.tx = s.field.tx
      ∧ (s.trimOutcome t r).field.link = s.field.link ∧ (s.trimOutcome t r).field.nodes = s.field.nodes
      ∧ (s.trimOutcome t r).field.counts = s.field.counts
      ∧ (s.trimOutcome t r).field.receiver = s.field.receiver
      ∧ (s.trimOutcome t r).field.line = s.field.line
      ∧ (s.trimOutcome t r).field.arrivals = s.field.arrivals
      ∧ (s.trimOutcome t r).field.contention = s.field.contention
      ∧ (s.trimOutcome t r).field.credit = s.field.credit
      ∧ (s.trimOutcome t r).field.scanMode = s.field.scanMode
      ∧ (s.trimOutcome t r).field.echo = s.field.echo ∧ (s.trimOutcome t r).field.nextTag = s.field.nextTag
      ∧ (s.trimOutcome t r).field.pointer = s.field.pointer
      ∧ (s.trimOutcome t r).field.cycle = s.field.cycle ∧ (s.trimOutcome t r).field.sweep = s.field.sweep
      ∧ (s.trimOutcome t r).field.replyTimeout = s.field.replyTimeout
      ∧ (s.trimOutcome t r).field.silentLimit = s.field.silentLimit := by
  and_intros <;> (unfold State.trimOutcome; (try dsimp only); (repeat' split) <;> (try simp))
/-- What `State.trimOutcome` leaves unchanged of the Span Supervisor. -/
@[simp] theorem State.trimOutcome_span (s : State) (t : Tower) (r : Result) :
    (s.trimOutcome t r).span.record = s.span.record
      ∧ (s.trimOutcome t r).span.correction = s.span.correction
      ∧ (s.trimOutcome t r).span.level = s.span.level ∧ (s.trimOutcome t r).span.lastSkew = s.span.lastSkew
      ∧ (s.trimOutcome t r).span.lastHold = s.span.lastHold
      ∧ (s.trimOutcome t r).span.holdRunning = s.span.holdRunning
      ∧ (s.trimOutcome t r).span.previous = s.span.previous
      ∧ (s.trimOutcome t r).span.lastTrim = s.span.lastTrim
      ∧ (s.trimOutcome t r).span.levelChanges = s.span.levelChanges := by
  and_intros <;> (unfold State.trimOutcome; (try dsimp only); (repeat' split) <;> (try simp))
/-- What `State.trimOutcome` leaves unchanged of the mode and the chain. -/
@[simp] theorem State.trimOutcome_unit (s : State) (t : Tower) (r : Result) :
    (s.trimOutcome t r).unit.limits = s.unit.limits ∧ (s.trimOutcome t r).unit.estop = s.unit.estop
      ∧ (s.trimOutcome t r).unit.key = s.unit.key ∧ (s.trimOutcome t r).unit.locked = s.unit.locked
      ∧ (s.trimOutcome t r).unit.validation = s.unit.validation := by
  and_intros <;> (unfold State.trimOutcome; (try dsimp only); (repeat' split) <;> (try simp))
/-- What `State.trimOutcome` leaves unchanged of the Point Image. -/
@[simp] theorem State.trimOutcome_points (s : State) (t : Tower) (r : Result) :
    (s.trimOutcome t r).points.map = s.points.map
      ∧ (s.trimOutcome t r).points.firstPair = s.points.firstPair
      ∧ (s.trimOutcome t r).points.pairLoss = s.points.pairLoss := by
  and_intros <;> (unfold State.trimOutcome; (try dsimp only); (repeat' split) <;> (try simp))

/-- The blocks `State.stopOutcome` leaves unchanged. -/
@[simp] theorem State.stopOutcome_frame (s : State) (r : Result) :
    (s.stopOutcome r).power = s.power ∧ (s.stopOutcome r).now = s.now
      ∧ (s.stopOutcome r).pending = s.pending := by
  and_intros <;> (unfold State.stopOutcome; split <;> (try simp))
/-- What `State.stopOutcome` leaves unchanged of the Console Port. -/
@[simp] theorem State.stopOutcome_console (s : State) (r : Result) :
    (s.stopOutcome r).console.ingress = s.console.ingress
      ∧ (s.stopOutcome r).console.arrivals = s.console.arrivals
      ∧ (s.stopOutcome r).console.restart = s.console.restart
      ∧ (s.stopOutcome r).console.receiver = s.console.receiver
      ∧ (s.stopOutcome r).console.line = s.console.line
      ∧ (s.stopOutcome r).console.counts = s.console.counts
      ∧ (s.stopOutcome r).console.sending = s.console.sending
      ∧ (s.stopOutcome r).console.ingressOverflows = s.console.ingressOverflows := by
  and_intros <;> (unfold State.stopOutcome; split <;> (try simp))
/-- What `State.stopOutcome` leaves unchanged of the Order Gate. -/
@[simp] theorem State.stopOutcome_gate (s : State) (r : Result) :
    (s.stopOutcome r).gate.permits = s.gate.permits ∧ (s.stopOutcome r).gate.orders = s.gate.orders
      ∧ (s.stopOutcome r).gate.held = s.gate.held ∧ (s.stopOutcome r).gate.own = s.gate.own := by
  and_intros <;> (unfold State.stopOutcome; split <;> (try simp))
/-- What `State.stopOutcome` leaves unchanged of the Crossing Sequencer. -/
@[simp] theorem State.stopOutcome_seq (s : State) (r : Result) :
    (s.stopOutcome r).seq.table = s.seq.table ∧ (s.stopOutcome r).seq.phase = s.seq.phase
      ∧ (s.stopOutcome r).seq.serial = s.seq.serial ∧ (s.stopOutcome r).seq.tracking = s.seq.tracking
      ∧ (s.stopOutcome r).seq.interrupted = s.seq.interrupted
      ∧ (s.stopOutcome r).seq.request = s.seq.request ∧ (s.stopOutcome r).seq.recovery = s.seq.recovery
      ∧ (s.stopOutcome r).seq.dwell = s.seq.dwell ∧ (s.stopOutcome r).seq.limit = s.seq.limit := by
  and_intros <;> (unfold State.stopOutcome; split <;> (try simp))
/-- What `State.stopOutcome` leaves unchanged of the Channel Controller. -/
@[simp] theorem State.stopOutcome_chan (s : State) (r : Result) :
    (s.stopOutcome r).chan.record = s.chan.record ∧ (s.stopOutcome r).chan.vessels = s.chan.vessels
      ∧ (s.stopOutcome r).chan.state = s.chan.state ∧ (s.stopOutcome r).chan.north = s.chan.north
      ∧ (s.stopOutcome r).chan.south = s.chan.south ∧ (s.stopOutcome r).chan.closing = s.chan.closing
      ∧ (s.stopOutcome r).chan.phaseSeen = s.chan.phaseSeen
      ∧ (s.stopOutcome r).chan.changeoverPending = s.chan.changeoverPending
      ∧ (s.stopOutcome r).chan.greenTimer = s.chan.greenTimer
      ∧ (s.stopOutcome r).chan.changeoverTimer = s.chan.changeoverTimer
      ∧ (s.stopOutcome r).chan.retryTimer = s.chan.retryTimer
      ∧ (s.stopOutcome r).chan.greenExpired = s.chan.greenExpired
      ∧ (s.stopOutcome r).chan.ignoredCalls = s.chan.ignoredCalls
      ∧ (s.stopOutcome r).chan.badDirections = s.chan.badDirections
      ∧ (s.stopOutcome r).chan.unexpectedPassages = s.chan.unexpectedPassages := by
  and_intros <;> (unfold State.stopOutcome; split <;> (try simp))
/-- What `State.stopOutcome` leaves unchanged of the Condition Evaluator. -/
@[simp] theorem State.stopOutcome_cond (s : State) (r : Result) :
    (s.stopOutcome r).cond.table = s.cond.table
      ∧ (s.stopOutcome r).cond.counterChanges = s.cond.counterChanges := by
  and_intros <;> (unfold State.stopOutcome; split <;> (try simp))
/-- What `State.stopOutcome` leaves unchanged of the Field Engine. -/
@[simp] theorem State.stopOutcome_field (s : State) (r : Result) :
    (s.stopOutcome r).field.scanList = s.field.scanList ∧ (s.stopOutcome r).field.tx = s.field.tx
      ∧ (s.stopOutcome r).field.link = s.field.link ∧ (s.stopOutcome r).field.nodes = s.field.nodes
      ∧ (s.stopOutcome r).field.counts = s.field.counts
      ∧ (s.stopOutcome r).field.receiver = s.field.receiver ∧ (s.stopOutcome r).field.line = s.field.line
      ∧ (s.stopOutcome r).field.arrivals = s.field.arrivals
      ∧ (s.stopOutcome r).field.contention = s.field.contention
      ∧ (s.stopOutcome r).field.credit = s.field.credit
      ∧ (s.stopOutcome r).field.scanMode = s.field.scanMode ∧ (s.stopOutcome r).field.echo = s.field.echo
      ∧ (s.stopOutcome r).field.nextTag = s.field.nextTag ∧ (s.stopOutcome r).field.trimA = s.field.trimA
      ∧ (s.stopOutcome r).field.trimB = s.field.trimB ∧ (s.stopOutcome r).field.stopA = s.field.stopA
      ∧ (s.stopOutcome r).field.stopB = s.field.stopB ∧ (s.stopOutcome r).field.pointer = s.field.pointer
      ∧ (s.stopOutcome r).field.cycle = s.field.cycle ∧ (s.stopOutcome r).field.sweep = s.field.sweep
      ∧ (s.stopOutcome r).field.replyTimeout = s.field.replyTimeout
      ∧ (s.stopOutcome r).field.silentLimit = s.field.silentLimit := by
  and_intros <;> (unfold State.stopOutcome; split <;> (try simp))
/-- What `State.stopOutcome` leaves unchanged of the Span Supervisor. -/
@[simp] theorem State.stopOutcome_span (s : State) (r : Result) :
    (s.stopOutcome r).span.record = s.span.record ∧ (s.stopOutcome r).span.correction = s.span.correction
      ∧ (s.stopOutcome r).span.level = s.span.level ∧ (s.stopOutcome r).span.lastSkew = s.span.lastSkew
      ∧ (s.stopOutcome r).span.lastHold = s.span.lastHold
      ∧ (s.stopOutcome r).span.holdRunning = s.span.holdRunning
      ∧ (s.stopOutcome r).span.previous = s.span.previous
      ∧ (s.stopOutcome r).span.lastTrim = s.span.lastTrim
      ∧ (s.stopOutcome r).span.levelChanges = s.span.levelChanges := by
  and_intros <;> (unfold State.stopOutcome; split <;> (try simp))
/-- What `State.stopOutcome` leaves unchanged of the mode and the chain. -/
@[simp] theorem State.stopOutcome_unit (s : State) (r : Result) :
    (s.stopOutcome r).unit.mode = s.unit.mode ∧ (s.stopOutcome r).unit.limits = s.unit.limits
      ∧ (s.stopOutcome r).unit.estop = s.unit.estop ∧ (s.stopOutcome r).unit.key = s.unit.key
      ∧ (s.stopOutcome r).unit.locked = s.unit.locked
      ∧ (s.stopOutcome r).unit.validation = s.unit.validation
      ∧ (s.stopOutcome r).unit.maintenancePending = s.unit.maintenancePending := by
  and_intros <;> (unfold State.stopOutcome; split <;> (try simp))
/-- What `State.stopOutcome` leaves unchanged of the Point Image. -/
@[simp] theorem State.stopOutcome_points (s : State) (r : Result) :
    (s.stopOutcome r).points.map = s.points.map ∧ (s.stopOutcome r).points.firstPair = s.points.firstPair
      ∧ (s.stopOutcome r).points.pairLoss = s.points.pairLoss := by
  and_intros <;> (unfold State.stopOutcome; split <;> (try simp))
/-- What `State.stopOutcome` leaves unchanged of the Duty Counter Unit. -/
@[simp] theorem State.stopOutcome_duty (s : State) (r : Result) :
    (s.stopOutcome r).duty.residency = s.duty.residency
      ∧ (s.stopOutcome r).duty.occupancy = s.duty.occupancy
      ∧ (s.stopOutcome r).duty.standing = s.duty.standing ∧ (s.stopOutcome r).duty.phase = s.duty.phase
      ∧ (s.stopOutcome r).duty.frozen = s.duty.frozen ∧ (s.stopOutcome r).duty.bands = s.duty.bands
      ∧ (s.stopOutcome r).duty.counters = s.duty.counters := by
  and_intros <;> (unfold State.stopOutcome; split <;> (try simp))

end Sys2Proof.Machine
end

