-- ==== Sys2Proof/Laws/FramesField.lean ====
section
/-! SUPPORT. What each shared operation of the final results, the replies, the Field Engine and the clearing of causes leaves
unchanged, field by field: the provers cite these lemmas instead of unfolding the operation. -/

namespace Sys2Proof.Machine

set_option linter.all false
set_option Elab.async false

/-- The blocks `State.settleMemory` leaves unchanged. -/
@[simp] theorem State.settleMemory_frame (s : State) (r : OrderRecord) (x : Result) :
    (s.settleMemory r x).power = s.power ∧ (s.settleMemory r x).now = s.now
      ∧ (s.settleMemory r x).pending = s.pending ∧ (s.settleMemory r x).console = s.console
      ∧ (s.settleMemory r x).field = s.field ∧ (s.settleMemory r x).points = s.points
      ∧ (s.settleMemory r x).cond = s.cond ∧ (s.settleMemory r x).gate = s.gate
      ∧ (s.settleMemory r x).span = s.span ∧ (s.settleMemory r x).seq = s.seq
      ∧ (s.settleMemory r x).duty = s.duty ∧ (s.settleMemory r x).unit = s.unit := by
  and_intros <;> (unfold State.settleMemory; split <;> (try simp))
/-- What `State.settleMemory` leaves unchanged of the Channel Controller. -/
@[simp] theorem State.settleMemory_chan (s : State) (r : OrderRecord) (x : Result) :
    (s.settleMemory r x).chan.record = s.chan.record ∧ (s.settleMemory r x).chan.vessels = s.chan.vessels
      ∧ (s.settleMemory r x).chan.state = s.chan.state ∧ (s.settleMemory r x).chan.closing = s.chan.closing
      ∧ (s.settleMemory r x).chan.phaseSeen = s.chan.phaseSeen
      ∧ (s.settleMemory r x).chan.standdowns = s.chan.standdowns
      ∧ (s.settleMemory r x).chan.sets = s.chan.sets
      ∧ (s.settleMemory r x).chan.changeoverPending = s.chan.changeoverPending
      ∧ (s.settleMemory r x).chan.greenTimer = s.chan.greenTimer
      ∧ (s.settleMemory r x).chan.changeoverTimer = s.chan.changeoverTimer
      ∧ (s.settleMemory r x).chan.retryTimer = s.chan.retryTimer
      ∧ (s.settleMemory r x).chan.greenExpired = s.chan.greenExpired
      ∧ (s.settleMemory r x).chan.ignoredCalls = s.chan.ignoredCalls
      ∧ (s.settleMemory r x).chan.badDirections = s.chan.badDirections
      ∧ (s.settleMemory r x).chan.unexpectedPassages = s.chan.unexpectedPassages := by
  and_intros <;> (unfold State.settleMemory; split <;> (try simp))

/-- The blocks `State.rememberOrder` leaves unchanged. -/
@[simp] theorem State.rememberOrder_frame (s : State) (r : OrderRecord) (d : Option Direction) :
    (s.rememberOrder r d).power = s.power ∧ (s.rememberOrder r d).now = s.now
      ∧ (s.rememberOrder r d).pending = s.pending ∧ (s.rememberOrder r d).console = s.console
      ∧ (s.rememberOrder r d).field = s.field ∧ (s.rememberOrder r d).points = s.points
      ∧ (s.rememberOrder r d).cond = s.cond ∧ (s.rememberOrder r d).gate = s.gate
      ∧ (s.rememberOrder r d).span = s.span ∧ (s.rememberOrder r d).seq = s.seq
      ∧ (s.rememberOrder r d).duty = s.duty ∧ (s.rememberOrder r d).unit = s.unit := by
  and_intros <;> (unfold State.rememberOrder; split <;> (try simp))
/-- What `State.rememberOrder` leaves unchanged of the Channel Controller. -/
@[simp] theorem State.rememberOrder_chan (s : State) (r : OrderRecord) (d : Option Direction) :
    (s.rememberOrder r d).chan.record = s.chan.record ∧ (s.rememberOrder r d).chan.vessels = s.chan.vessels
      ∧ (s.rememberOrder r d).chan.state = s.chan.state
      ∧ (s.rememberOrder r d).chan.closing = s.chan.closing
      ∧ (s.rememberOrder r d).chan.phaseSeen = s.chan.phaseSeen
      ∧ (s.rememberOrder r d).chan.standdowns = s.chan.standdowns
      ∧ (s.rememberOrder r d).chan.sets = s.chan.sets
      ∧ (s.rememberOrder r d).chan.changeoverPending = s.chan.changeoverPending
      ∧ (s.rememberOrder r d).chan.greenTimer = s.chan.greenTimer
      ∧ (s.rememberOrder r d).chan.changeoverTimer = s.chan.changeoverTimer
      ∧ (s.rememberOrder r d).chan.retryTimer = s.chan.retryTimer
      ∧ (s.rememberOrder r d).chan.greenExpired = s.chan.greenExpired
      ∧ (s.rememberOrder r d).chan.ignoredCalls = s.chan.ignoredCalls
      ∧ (s.rememberOrder r d).chan.badDirections = s.chan.badDirections
      ∧ (s.rememberOrder r d).chan.unexpectedPassages = s.chan.unexpectedPassages := by
  and_intros <;> (unfold State.rememberOrder; split <;> (try simp))

/-- The blocks `State.memoryTests` leaves unchanged. -/
@[simp] theorem State.memoryTests_frame (s : State) :
    (s.memoryTests).power = s.power ∧ (s.memoryTests).now = s.now ∧ (s.memoryTests).pending = s.pending := by
  and_intros <;> (unfold State.memoryTests State.channelStep State.channelEvent; (try dsimp only); (repeat' split) <;> (try simp))
/-- What `State.memoryTests` leaves unchanged of the Console Port. -/
@[simp] theorem State.memoryTests_console (s : State) :
    (s.memoryTests).console.ingress = s.console.ingress
      ∧ (s.memoryTests).console.arrivals = s.console.arrivals
      ∧ (s.memoryTests).console.restart = s.console.restart
      ∧ (s.memoryTests).console.receiver = s.console.receiver
      ∧ (s.memoryTests).console.line = s.console.line ∧ (s.memoryTests).console.counts = s.console.counts
      ∧ (s.memoryTests).console.sending = s.console.sending
      ∧ (s.memoryTests).console.ingressOverflows = s.console.ingressOverflows := by
  and_intros <;> (unfold State.memoryTests State.channelStep State.channelEvent; (try dsimp only); (repeat' split) <;> (try simp))
/-- What `State.memoryTests` leaves unchanged of the Order Gate. -/
@[simp] theorem State.memoryTests_gate (s : State) :
    (s.memoryTests).gate.permits = s.gate.permits ∧ (s.memoryTests).gate.orders = s.gate.orders
      ∧ (s.memoryTests).gate.held = s.gate.held := by
  and_intros <;> (unfold State.memoryTests State.channelStep State.channelEvent; (try dsimp only); (repeat' split) <;> (try simp))
/-- What `State.memoryTests` leaves unchanged of the Crossing Sequencer. -/
@[simp] theorem State.memoryTests_seq (s : State) :
    (s.memoryTests).seq.table = s.seq.table := by
  unfold State.memoryTests State.channelStep State.channelEvent; (try dsimp only); (repeat' split) <;> (try simp)
/-- What `State.memoryTests` leaves unchanged of the Channel Controller. -/
@[simp] theorem State.memoryTests_chan (s : State) :
    (s.memoryTests).chan.record = s.chan.record
      ∧ (s.memoryTests).chan.ignoredCalls = s.chan.ignoredCalls
      ∧ (s.memoryTests).chan.badDirections = s.chan.badDirections
      ∧ (s.memoryTests).chan.unexpectedPassages = s.chan.unexpectedPassages := by
  and_intros <;> (unfold State.memoryTests State.channelStep State.channelEvent; (try dsimp only); (repeat' split) <;> (try simp))
/-- What `State.memoryTests` leaves unchanged of the Condition Evaluator. -/
@[simp] theorem State.memoryTests_cond (s : State) :
    (s.memoryTests).cond.table = s.cond.table := by
  unfold State.memoryTests State.channelStep State.channelEvent; (try dsimp only); (repeat' split) <;> (try simp)
/-- What `State.memoryTests` leaves unchanged of the Field Engine. -/
@[simp] theorem State.memoryTests_field (s : State) :
    (s.memoryTests).field.scanList = s.field.scanList ∧ (s.memoryTests).field.tx = s.field.tx
      ∧ (s.memoryTests).field.link = s.field.link ∧ (s.memoryTests).field.nodes = s.field.nodes
      ∧ (s.memoryTests).field.counts = s.field.counts ∧ (s.memoryTests).field.receiver = s.field.receiver
      ∧ (s.memoryTests).field.line = s.field.line ∧ (s.memoryTests).field.arrivals = s.field.arrivals
      ∧ (s.memoryTests).field.contention = s.field.contention
      ∧ (s.memoryTests).field.credit = s.field.credit ∧ (s.memoryTests).field.scanMode = s.field.scanMode
      ∧ (s.memoryTests).field.echo = s.field.echo ∧ (s.memoryTests).field.nextTag = s.field.nextTag
      ∧ (s.memoryTests).field.trimA = s.field.trimA ∧ (s.memoryTests).field.trimB = s.field.trimB
      ∧ (s.memoryTests).field.stopA = s.field.stopA ∧ (s.memoryTests).field.stopB = s.field.stopB
      ∧ (s.memoryTests).field.pointer = s.field.pointer ∧ (s.memoryTests).field.cycle = s.field.cycle
      ∧ (s.memoryTests).field.sweep = s.field.sweep
      ∧ (s.memoryTests).field.replyTimeout = s.field.replyTimeout
      ∧ (s.memoryTests).field.silentLimit = s.field.silentLimit := by
  and_intros <;> (unfold State.memoryTests State.channelStep State.channelEvent; (try dsimp only); (repeat' split) <;> (try simp))
/-- What `State.memoryTests` leaves unchanged of the Span Supervisor. -/
@[simp] theorem State.memoryTests_span (s : State) :
    (s.memoryTests).span.record = s.span.record ∧ (s.memoryTests).span.correction = s.span.correction
      ∧ (s.memoryTests).span.level = s.span.level ∧ (s.memoryTests).span.lastSkew = s.span.lastSkew
      ∧ (s.memoryTests).span.lastHold = s.span.lastHold
      ∧ (s.memoryTests).span.holdRunning = s.span.holdRunning
      ∧ (s.memoryTests).span.previous = s.span.previous ∧ (s.memoryTests).span.lastTrim = s.span.lastTrim
      ∧ (s.memoryTests).span.levelChanges = s.span.levelChanges := by
  and_intros <;> (unfold State.memoryTests State.channelStep State.channelEvent; (try dsimp only); (repeat' split) <;> (try simp))
/-- What `State.memoryTests` leaves unchanged of the mode and the chain. -/
@[simp] theorem State.memoryTests_unit (s : State) :
    (s.memoryTests).unit.limits = s.unit.limits ∧ (s.memoryTests).unit.estop = s.unit.estop
      ∧ (s.memoryTests).unit.key = s.unit.key ∧ (s.memoryTests).unit.locked = s.unit.locked
      ∧ (s.memoryTests).unit.validation = s.unit.validation := by
  and_intros <;> (unfold State.memoryTests State.channelStep State.channelEvent; (try dsimp only); (repeat' split) <;> (try simp))
/-- What `State.memoryTests` leaves unchanged of the Point Image. -/
@[simp] theorem State.memoryTests_points (s : State) :
    (s.memoryTests).points.map = s.points.map ∧ (s.memoryTests).points.firstPair = s.points.firstPair
      ∧ (s.memoryTests).points.pairLoss = s.points.pairLoss := by
  and_intros <;> (unfold State.memoryTests State.channelStep State.channelEvent; (try dsimp only); (repeat' split) <;> (try simp))

/-- The blocks `State.toOriginator` leaves unchanged. -/
@[simp] theorem State.toOriginator_frame (s : State) (r : OrderRecord) (x : Result) (d : Nat) (b : Bool) :
    (s.toOriginator r x d b).power = s.power ∧ (s.toOriginator r x d b).now = s.now
      ∧ (s.toOriginator r x d b).pending = s.pending := by
  and_intros <;> (unfold State.toOriginator State.channelStep State.channelEvent; (try dsimp only); (repeat' split) <;> (try simp))
/-- What `State.toOriginator` leaves unchanged of the Console Port. -/
@[simp] theorem State.toOriginator_console (s : State) (r : OrderRecord) (x : Result) (d : Nat) (b : Bool) :
    (s.toOriginator r x d b).console.ingress = s.console.ingress
      ∧ (s.toOriginator r x d b).console.arrivals = s.console.arrivals
      ∧ (s.toOriginator r x d b).console.restart = s.console.restart
      ∧ (s.toOriginator r x d b).console.receiver = s.console.receiver
      ∧ (s.toOriginator r x d b).console.line = s.console.line
      ∧ (s.toOriginator r x d b).console.counts = s.console.counts
      ∧ (s.toOriginator r x d b).console.sending = s.console.sending
      ∧ (s.toOriginator r x d b).console.ingressOverflows = s.console.ingressOverflows := by
  and_intros <;> (unfold State.toOriginator State.channelStep State.channelEvent; (try dsimp only); (repeat' split) <;> (try simp))
/-- What `State.toOriginator` leaves unchanged of the Order Gate. -/
@[simp] theorem State.toOriginator_gate (s : State) (r : OrderRecord) (x : Result) (d : Nat) (b : Bool) :
    (s.toOriginator r x d b).gate.permits = s.gate.permits
      ∧ (s.toOriginator r x d b).gate.orders = s.gate.orders
      ∧ (s.toOriginator r x d b).gate.held = s.gate.held := by
  and_intros <;> (unfold State.toOriginator State.channelStep State.channelEvent; (try dsimp only); (repeat' split) <;> (try simp))
/-- What `State.toOriginator` leaves unchanged of the Crossing Sequencer. -/
@[simp] theorem State.toOriginator_seq (s : State) (r : OrderRecord) (x : Result) (d : Nat) (b : Bool) :
    (s.toOriginator r x d b).seq.table = s.seq.table := by
  unfold State.toOriginator State.channelStep State.channelEvent; (try dsimp only); (repeat' split) <;> (try simp)
/-- What `State.toOriginator` leaves unchanged of the Channel Controller. -/
@[simp] theorem State.toOriginator_chan (s : State) (r : OrderRecord) (x : Result) (d : Nat) (b : Bool) :
    (s.toOriginator r x d b).chan.record = s.chan.record
      ∧ (s.toOriginator r x d b).chan.ignoredCalls = s.chan.ignoredCalls
      ∧ (s.toOriginator r x d b).chan.badDirections = s.chan.badDirections
      ∧ (s.toOriginator r x d b).chan.unexpectedPassages = s.chan.unexpectedPassages := by
  and_intros <;> (unfold State.toOriginator State.channelStep State.channelEvent; (try dsimp only); (repeat' split) <;> (try simp))
/-- What `State.toOriginator` leaves unchanged of the Condition Evaluator. -/
@[simp] theorem State.toOriginator_cond (s : State) (r : OrderRecord) (x : Result) (d : Nat) (b : Bool) :
    (s.toOriginator r x d b).cond.table = s.cond.table := by
  unfold State.toOriginator State.channelStep State.channelEvent; (try dsimp only); (repeat' split) <;> (try simp)
/-- What `State.toOriginator` leaves unchanged of the Field Engine. -/
@[simp] theorem State.toOriginator_field (s : State) (r : OrderRecord) (x : Result) (d : Nat) (b : Bool) :
    (s.toOriginator r x d b).field.scanList = s.field.scanList
      ∧ (s.toOriginator r x d b).field.tx = s.field.tx ∧ (s.toOriginator r x d b).field.link = s.field.link
      ∧ (s.toOriginator r x d b).field.nodes = s.field.nodes
      ∧ (s.toOriginator r x d b).field.counts = s.field.counts
      ∧ (s.toOriginator r x d b).field.receiver = s.field.receiver
      ∧ (s.toOriginator r x d b).field.line = s.field.line
      ∧ (s.toOriginator r x d b).field.arrivals = s.field.arrivals
      ∧ (s.toOriginator r x d b).field.contention = s.field.contention
      ∧ (s.toOriginator r x d b).field.credit = s.field.credit
      ∧ (s.toOriginator r x d b).field.scanMode = s.field.scanMode
      ∧ (s.toOriginator r x d b).field.echo = s.field.echo
      ∧ (s.toOriginator r x d b).field.nextTag = s.field.nextTag
      ∧ (s.toOriginator r x d b).field.trimA = s.field.trimA
      ∧ (s.toOriginator r x d b).field.trimB = s.field.trimB
      ∧ (s.toOriginator r x d b).field.stopA = s.field.stopA
      ∧ (s.toOriginator r x d b).field.stopB = s.field.stopB
      ∧ (s.toOriginator r x d b).field.pointer = s.field.pointer
      ∧ (s.toOriginator r x d b).field.cycle = s.field.cycle
      ∧ (s.toOriginator r x d b).field.sweep = s.field.sweep
      ∧ (s.toOriginator r x d b).field.replyTimeout = s.field.replyTimeout
      ∧ (s.toOriginator r x d b).field.silentLimit = s.field.silentLimit := by
  and_intros <;> (unfold State.toOriginator State.channelStep State.channelEvent; (try dsimp only); (repeat' split) <;> (try simp))
/-- What `State.toOriginator` leaves unchanged of the Span Supervisor. -/
@[simp] theorem State.toOriginator_span (s : State) (r : OrderRecord) (x : Result) (d : Nat) (b : Bool) :
    (s.toOriginator r x d b).span.record = s.span.record
      ∧ (s.toOriginator r x d b).span.correction = s.span.correction
      ∧ (s.toOriginator r x d b).span.level = s.span.level
      ∧ (s.toOriginator r x d b).span.lastSkew = s.span.lastSkew
      ∧ (s.toOriginator r x d b).span.lastHold = s.span.lastHold
      ∧ (s.toOriginator r x d b).span.holdRunning = s.span.holdRunning
      ∧ (s.toOriginator r x d b).span.previous = s.span.previous
      ∧ (s.toOriginator r x d b).span.lastTrim = s.span.lastTrim
      ∧ (s.toOriginator r x d b).span.levelChanges = s.span.levelChanges := by
  and_intros <;> (unfold State.toOriginator State.channelStep State.channelEvent; (try dsimp only); (repeat' split) <;> (try simp))
/-- What `State.toOriginator` leaves unchanged of the mode and the chain. -/
@[simp] theorem State.toOriginator_unit (s : State) (r : OrderRecord) (x : Result) (d : Nat) (b : Bool) :
    (s.toOriginator r x d b).unit.limits = s.unit.limits
      ∧ (s.toOriginator r x d b).unit.estop = s.unit.estop ∧ (s.toOriginator r x d b).unit.key = s.unit.key
      ∧ (s.toOriginator r x d b).unit.locked = s.unit.locked
      ∧ (s.toOriginator r x d b).unit.validation = s.unit.validation := by
  and_intros <;> (unfold State.toOriginator State.channelStep State.channelEvent; (try dsimp only); (repeat' split) <;> (try simp))
/-- What `State.toOriginator` leaves unchanged of the Point Image. -/
@[simp] theorem State.toOriginator_points (s : State) (r : OrderRecord) (x : Result) (d : Nat) (b : Bool) :
    (s.toOriginator r x d b).points.map = s.points.map
      ∧ (s.toOriginator r x d b).points.firstPair = s.points.firstPair
      ∧ (s.toOriginator r x d b).points.pairLoss = s.points.pairLoss := by
  and_intros <;> (unfold State.toOriginator State.channelStep State.channelEvent; (try dsimp only); (repeat' split) <;> (try simp))

/-- The blocks `State.finalResult` leaves unchanged. -/
@[simp] theorem State.finalResult_frame (s : State) (r : OrderRecord) (x : Result) (d : Nat) (b : Bool) :
    (s.finalResult r x d b).power = s.power ∧ (s.finalResult r x d b).now = s.now
      ∧ (s.finalResult r x d b).pending = s.pending := by
  and_intros <;> (unfold State.finalResult; (try dsimp only); (repeat' split) <;> (try simp))
/-- What `State.finalResult` leaves unchanged of the Console Port. -/
@[simp] theorem State.finalResult_console (s : State) (r : OrderRecord) (x : Result) (d : Nat) (b : Bool) :
    (s.finalResult r x d b).console.ingress = s.console.ingress
      ∧ (s.finalResult r x d b).console.arrivals = s.console.arrivals
      ∧ (s.finalResult r x d b).console.restart = s.console.restart
      ∧ (s.finalResult r x d b).console.receiver = s.console.receiver
      ∧ (s.finalResult r x d b).console.line = s.console.line
      ∧ (s.finalResult r x d b).console.counts = s.console.counts
      ∧ (s.finalResult r x d b).console.sending = s.console.sending
      ∧ (s.finalResult r x d b).console.ingressOverflows = s.console.ingressOverflows := by
  and_intros <;> (unfold State.finalResult; (try dsimp only); (repeat' split) <;> (try simp))
/-- What `State.finalResult` leaves unchanged of the Order Gate. -/
@[simp] theorem State.finalResult_gate (s : State) (r : OrderRecord) (x : Result) (d : Nat) (b : Bool) :
    (s.finalResult r x d b).gate.permits = s.gate.permits
      ∧ (s.finalResult r x d b).gate.orders = s.gate.orders
      ∧ (s.finalResult r x d b).gate.held = s.gate.held := by
  and_intros <;> (unfold State.finalResult; (try dsimp only); (repeat' split) <;> (try simp))
/-- What `State.finalResult` leaves unchanged of the Crossing Sequencer. -/
@[simp] theorem State.finalResult_seq (s : State) (r : OrderRecord) (x : Result) (d : Nat) (b : Bool) :
    (s.finalResult r x d b).seq.table = s.seq.table := by
  unfold State.finalResult; (try dsimp only); (repeat' split) <;> (try simp)
/-- What `State.finalResult` leaves unchanged of the Channel Controller. -/
@[simp] theorem State.finalResult_chan (s : State) (r : OrderRecord) (x : Result) (d : Nat) (b : Bool) :
    (s.finalResult r x d b).chan.record = s.chan.record
      ∧ (s.finalResult r x d b).chan.ignoredCalls = s.chan.ignoredCalls
      ∧ (s.finalResult r x d b).chan.badDirections = s.chan.badDirections
      ∧ (s.finalResult r x d b).chan.unexpectedPassages = s.chan.unexpectedPassages := by
  and_intros <;> (unfold State.finalResult; (try dsimp only); (repeat' split) <;> (try simp))
/-- What `State.finalResult` leaves unchanged of the Condition Evaluator. -/
@[simp] theorem State.finalResult_cond (s : State) (r : OrderRecord) (x : Result) (d : Nat) (b : Bool) :
    (s.finalResult r x d b).cond.table = s.cond.table := by
  unfold State.finalResult; (try dsimp only); (repeat' split) <;> (try simp)
/-- What `State.finalResult` leaves unchanged of the Field Engine. -/
@[simp] theorem State.finalResult_field (s : State) (r : OrderRecord) (x : Result) (d : Nat) (b : Bool) :
    (s.finalResult r x d b).field.scanList = s.field.scanList
      ∧ (s.finalResult r x d b).field.tx = s.field.tx ∧ (s.finalResult r x d b).field.link = s.field.link
      ∧ (s.finalResult r x d b).field.nodes = s.field.nodes
      ∧ (s.finalResult r x d b).field.counts = s.field.counts
      ∧ (s.finalResult r x d b).field.receiver = s.field.receiver
      ∧ (s.finalResult r x d b).field.line = s.field.line
      ∧ (s.finalResult r x d b).field.arrivals = s.field.arrivals
      ∧ (s.finalResult r x d b).field.contention = s.field.contention
      ∧ (s.finalResult r x d b).field.credit = s.field.credit
      ∧ (s.finalResult r x d b).field.scanMode = s.field.scanMode
      ∧ (s.finalResult r x d b).field.echo = s.field.echo
      ∧ (s.finalResult r x d b).field.nextTag = s.field.nextTag
      ∧ (s.finalResult r x d b).field.pointer = s.field.pointer
      ∧ (s.finalResult r x d b).field.cycle = s.field.cycle
      ∧ (s.finalResult r x d b).field.sweep = s.field.sweep
      ∧ (s.finalResult r x d b).field.replyTimeout = s.field.replyTimeout
      ∧ (s.finalResult r x d b).field.silentLimit = s.field.silentLimit := by
  and_intros <;> (unfold State.finalResult; (try dsimp only); (repeat' split) <;> (try simp))
/-- What `State.finalResult` leaves unchanged of the Span Supervisor. -/
@[simp] theorem State.finalResult_span (s : State) (r : OrderRecord) (x : Result) (d : Nat) (b : Bool) :
    (s.finalResult r x d b).span.record = s.span.record ∧ (s.finalResult r x d b).span.level = s.span.level
      ∧ (s.finalResult r x d b).span.lastSkew = s.span.lastSkew
      ∧ (s.finalResult r x d b).span.lastHold = s.span.lastHold
      ∧ (s.finalResult r x d b).span.holdRunning = s.span.holdRunning
      ∧ (s.finalResult r x d b).span.levelChanges = s.span.levelChanges := by
  and_intros <;> (unfold State.finalResult; (try dsimp only); (repeat' split) <;> (try simp))
/-- What `State.finalResult` leaves unchanged of the mode and the chain. -/
@[simp] theorem State.finalResult_unit (s : State) (r : OrderRecord) (x : Result) (d : Nat) (b : Bool) :
    (s.finalResult r x d b).unit.limits = s.unit.limits ∧ (s.finalResult r x d b).unit.estop = s.unit.estop
      ∧ (s.finalResult r x d b).unit.key = s.unit.key ∧ (s.finalResult r x d b).unit.locked = s.unit.locked
      ∧ (s.finalResult r x d b).unit.validation = s.unit.validation := by
  and_intros <;> (unfold State.finalResult; (try dsimp only); (repeat' split) <;> (try simp))
/-- What `State.finalResult` leaves unchanged of the Point Image. -/
@[simp] theorem State.finalResult_points (s : State) (r : OrderRecord) (x : Result) (d : Nat) (b : Bool) :
    (s.finalResult r x d b).points.map = s.points.map
      ∧ (s.finalResult r x d b).points.firstPair = s.points.firstPair
      ∧ (s.finalResult r x d b).points.pairLoss = s.points.pairLoss := by
  and_intros <;> (unfold State.finalResult; (try dsimp only); (repeat' split) <;> (try simp))

/-- The blocks `finalResults` leaves unchanged. -/
@[simp] theorem finalResults_frame (rs : List OrderRecord) (x : Result) (d : OrderRecord → Nat) (b : Bool) (s : State) :
    ((rs.foldl (fun s r => s.finalResult r x (d r) b) s)).power = s.power
      ∧ ((rs.foldl (fun s r => s.finalResult r x (d r) b) s)).now = s.now
      ∧ ((rs.foldl (fun s r => s.finalResult r x (d r) b) s)).pending = s.pending := by
  and_intros <;> (induction rs generalizing s with | nil => rfl | cons r rs ih => (rw [List.foldl_cons, ih]; simp))
/-- What `finalResults` leaves unchanged of the Console Port. -/
@[simp] theorem finalResults_console (rs : List OrderRecord) (x : Result) (d : OrderRecord → Nat) (b : Bool) (s : State) :
    ((rs.foldl (fun s r => s.finalResult r x (d r) b) s)).console.ingress = s.console.ingress
      ∧ ((rs.foldl (fun s r => s.finalResult r x (d r) b) s)).console.arrivals = s.console.arrivals
      ∧ ((rs.foldl (fun s r => s.finalResult r x (d r) b) s)).console.restart = s.console.restart
      ∧ ((rs.foldl (fun s r => s.finalResult r x (d r) b) s)).console.receiver = s.console.receiver
      ∧ ((rs.foldl (fun s r => s.finalResult r x (d r) b) s)).console.line = s.console.line
      ∧ ((rs.foldl (fun s r => s.finalResult r x (d r) b) s)).console.counts = s.console.counts
      ∧ ((rs.foldl (fun s r => s.finalResult r x (d r) b) s)).console.sending = s.console.sending
      ∧ ((rs.foldl (fun s r => s.finalResult r x (d r) b) s)).console.ingressOverflows = s.console.ingressOverflows := by
  and_intros <;> (induction rs generalizing s with | nil => rfl | cons r rs ih => (rw [List.foldl_cons, ih]; simp))
/-- What `finalResults` leaves unchanged of the Order Gate. -/
@[simp] theorem finalResults_gate (rs : List OrderRecord) (x : Result) (d : OrderRecord → Nat) (b : Bool) (s : State) :
    ((rs.foldl (fun s r => s.finalResult r x (d r) b) s)).gate.permits = s.gate.permits
      ∧ ((rs.foldl (fun s r => s.finalResult r x (d r) b) s)).gate.orders = s.gate.orders
      ∧ ((rs.foldl (fun s r => s.finalResult r x (d r) b) s)).gate.held = s.gate.held := by
  and_intros <;> (induction rs generalizing s with | nil => rfl | cons r rs ih => (rw [List.foldl_cons, ih]; simp))
/-- What `finalResults` leaves unchanged of the Crossing Sequencer. -/
@[simp] theorem finalResults_seq (rs : List OrderRecord) (x : Result) (d : OrderRecord → Nat) (b : Bool) (s : State) :
    ((rs.foldl (fun s r => s.finalResult r x (d r) b) s)).seq.table = s.seq.table := by
  induction rs generalizing s with | nil => rfl | cons r rs ih => (rw [List.foldl_cons, ih]; simp)
/-- What `finalResults` leaves unchanged of the Channel Controller. -/
@[simp] theorem finalResults_chan (rs : List OrderRecord) (x : Result) (d : OrderRecord → Nat) (b : Bool) (s : State) :
    ((rs.foldl (fun s r => s.finalResult r x (d r) b) s)).chan.record = s.chan.record
      ∧ ((rs.foldl (fun s r => s.finalResult r x (d r) b) s)).chan.ignoredCalls = s.chan.ignoredCalls
      ∧ ((rs.foldl (fun s r => s.finalResult r x (d r) b) s)).chan.badDirections = s.chan.badDirections
      ∧ ((rs.foldl (fun s r => s.finalResult r x (d r) b) s)).chan.unexpectedPassages = s.chan.unexpectedPassages := by
  and_intros <;> (induction rs generalizing s with | nil => rfl | cons r rs ih => (rw [List.foldl_cons, ih]; simp))
/-- What `finalResults` leaves unchanged of the Condition Evaluator. -/
@[simp] theorem finalResults_cond (rs : List OrderRecord) (x : Result) (d : OrderRecord → Nat) (b : Bool) (s : State) :
    ((rs.foldl (fun s r => s.finalResult r x (d r) b) s)).cond.table = s.cond.table := by
  induction rs generalizing s with | nil => rfl | cons r rs ih => (rw [List.foldl_cons, ih]; simp)
/-- What `finalResults` leaves unchanged of the Field Engine. -/
@[simp] theorem finalResults_field (rs : List OrderRecord) (x : Result) (d : OrderRecord → Nat) (b : Bool) (s : State) :
    ((rs.foldl (fun s r => s.finalResult r x (d r) b) s)).field.scanList = s.field.scanList
      ∧ ((rs.foldl (fun s r => s.finalResult r x (d r) b) s)).field.tx = s.field.tx
      ∧ ((rs.foldl (fun s r => s.finalResult r x (d r) b) s)).field.link = s.field.link
      ∧ ((rs.foldl (fun s r => s.finalResult r x (d r) b) s)).field.nodes = s.field.nodes
      ∧ ((rs.foldl (fun s r => s.finalResult r x (d r) b) s)).field.counts = s.field.counts
      ∧ ((rs.foldl (fun s r => s.finalResult r x (d r) b) s)).field.receiver = s.field.receiver
      ∧ ((rs.foldl (fun s r => s.finalResult r x (d r) b) s)).field.line = s.field.line
      ∧ ((rs.foldl (fun s r => s.finalResult r x (d r) b) s)).field.arrivals = s.field.arrivals
      ∧ ((rs.foldl (fun s r => s.finalResult r x (d r) b) s)).field.contention = s.field.contention
      ∧ ((rs.foldl (fun s r => s.finalResult r x (d r) b) s)).field.credit = s.field.credit
      ∧ ((rs.foldl (fun s r => s.finalResult r x (d r) b) s)).field.scanMode = s.field.scanMode
      ∧ ((rs.foldl (fun s r => s.finalResult r x (d r) b) s)).field.echo = s.field.echo
      ∧ ((rs.foldl (fun s r => s.finalResult r x (d r) b) s)).field.nextTag = s.field.nextTag
      ∧ ((rs.foldl (fun s r => s.finalResult r x (d r) b) s)).field.pointer = s.field.pointer
      ∧ ((rs.foldl (fun s r => s.finalResult r x (d r) b) s)).field.cycle = s.field.cycle
      ∧ ((rs.foldl (fun s r => s.finalResult r x (d r) b) s)).field.sweep = s.field.sweep
      ∧ ((rs.foldl (fun s r => s.finalResult r x (d r) b) s)).field.replyTimeout = s.field.replyTimeout
      ∧ ((rs.foldl (fun s r => s.finalResult r x (d r) b) s)).field.silentLimit = s.field.silentLimit := by
  and_intros <;> (induction rs generalizing s with | nil => rfl | cons r rs ih => (rw [List.foldl_cons, ih]; simp))
/-- What `finalResults` leaves unchanged of the Span Supervisor. -/
@[simp] theorem finalResults_span (rs : List OrderRecord) (x : Result) (d : OrderRecord → Nat) (b : Bool) (s : State) :
    ((rs.foldl (fun s r => s.finalResult r x (d r) b) s)).span.record = s.span.record
      ∧ ((rs.foldl (fun s r => s.finalResult r x (d r) b) s)).span.level = s.span.level
      ∧ ((rs.foldl (fun s r => s.finalResult r x (d r) b) s)).span.lastSkew = s.span.lastSkew
      ∧ ((rs.foldl (fun s r => s.finalResult r x (d r) b) s)).span.lastHold = s.span.lastHold
      ∧ ((rs.foldl (fun s r => s.finalResult r x (d r) b) s)).span.holdRunning = s.span.holdRunning
      ∧ ((rs.foldl (fun s r => s.finalResult r x (d r) b) s)).span.levelChanges = s.span.levelChanges := by
  and_intros <;> (induction rs generalizing s with | nil => rfl | cons r rs ih => (rw [List.foldl_cons, ih]; simp))
/-- What `finalResults` leaves unchanged of the mode and the chain. -/
@[simp] theorem finalResults_unit (rs : List OrderRecord) (x : Result) (d : OrderRecord → Nat) (b : Bool) (s : State) :
    ((rs.foldl (fun s r => s.finalResult r x (d r) b) s)).unit.limits = s.unit.limits
      ∧ ((rs.foldl (fun s r => s.finalResult r x (d r) b) s)).unit.estop = s.unit.estop
      ∧ ((rs.foldl (fun s r => s.finalResult r x (d r) b) s)).unit.key = s.unit.key
      ∧ ((rs.foldl (fun s r => s.finalResult r x (d r) b) s)).unit.locked = s.unit.locked
      ∧ ((rs.foldl (fun s r => s.finalResult r x (d r) b) s)).unit.validation = s.unit.validation := by
  and_intros <;> (induction rs generalizing s with | nil => rfl | cons r rs ih => (rw [List.foldl_cons, ih]; simp))
/-- What `finalResults` leaves unchanged of the Point Image. -/
@[simp] theorem finalResults_points (rs : List OrderRecord) (x : Result) (d : OrderRecord → Nat) (b : Bool) (s : State) :
    ((rs.foldl (fun s r => s.finalResult r x (d r) b) s)).points.map = s.points.map
      ∧ ((rs.foldl (fun s r => s.finalResult r x (d r) b) s)).points.firstPair = s.points.firstPair
      ∧ ((rs.foldl (fun s r => s.finalResult r x (d r) b) s)).points.pairLoss = s.points.pairLoss := by
  and_intros <;> (induction rs generalizing s with | nil => rfl | cons r rs ih => (rw [List.foldl_cons, ih]; simp))

/-- The blocks `State.cancelQueues` leaves unchanged. -/
@[simp] theorem State.cancelQueues_frame (s : State) :
    (s.cancelQueues).power = s.power ∧ (s.cancelQueues).now = s.now ∧ (s.cancelQueues).pending = s.pending := by
  and_intros <;> (unfold State.cancelQueues; (try dsimp only); (try simp))
/-- What `State.cancelQueues` leaves unchanged of the Console Port. -/
@[simp] theorem State.cancelQueues_console (s : State) :
    (s.cancelQueues).console.ingress = s.console.ingress
      ∧ (s.cancelQueues).console.arrivals = s.console.arrivals
      ∧ (s.cancelQueues).console.restart = s.console.restart
      ∧ (s.cancelQueues).console.receiver = s.console.receiver
      ∧ (s.cancelQueues).console.line = s.console.line ∧ (s.cancelQueues).console.counts = s.console.counts
      ∧ (s.cancelQueues).console.sending = s.console.sending
      ∧ (s.cancelQueues).console.ingressOverflows = s.console.ingressOverflows := by
  and_intros <;> (unfold State.cancelQueues; (try dsimp only); (try simp))
/-- What `State.cancelQueues` leaves unchanged of the Order Gate. -/
@[simp] theorem State.cancelQueues_gate (s : State) :
    (s.cancelQueues).gate.permits = s.gate.permits := by
  unfold State.cancelQueues; (try dsimp only); (try simp)
/-- What `State.cancelQueues` leaves unchanged of the Crossing Sequencer. -/
@[simp] theorem State.cancelQueues_seq (s : State) :
    (s.cancelQueues).seq.table = s.seq.table := by
  unfold State.cancelQueues; (try dsimp only); (try simp)
/-- What `State.cancelQueues` leaves unchanged of the Channel Controller. -/
@[simp] theorem State.cancelQueues_chan (s : State) :
    (s.cancelQueues).chan.record = s.chan.record
      ∧ (s.cancelQueues).chan.ignoredCalls = s.chan.ignoredCalls
      ∧ (s.cancelQueues).chan.badDirections = s.chan.badDirections
      ∧ (s.cancelQueues).chan.unexpectedPassages = s.chan.unexpectedPassages := by
  and_intros <;> (unfold State.cancelQueues; (try dsimp only); (try simp))
/-- What `State.cancelQueues` leaves unchanged of the Condition Evaluator. -/
@[simp] theorem State.cancelQueues_cond (s : State) :
    (s.cancelQueues).cond.table = s.cond.table := by
  unfold State.cancelQueues; (try dsimp only); (try simp)
/-- What `State.cancelQueues` leaves unchanged of the Field Engine. -/
@[simp] theorem State.cancelQueues_field (s : State) :
    (s.cancelQueues).field.scanList = s.field.scanList ∧ (s.cancelQueues).field.tx = s.field.tx
      ∧ (s.cancelQueues).field.link = s.field.link ∧ (s.cancelQueues).field.nodes = s.field.nodes
      ∧ (s.cancelQueues).field.counts = s.field.counts ∧ (s.cancelQueues).field.receiver = s.field.receiver
      ∧ (s.cancelQueues).field.line = s.field.line ∧ (s.cancelQueues).field.arrivals = s.field.arrivals
      ∧ (s.cancelQueues).field.contention = s.field.contention
      ∧ (s.cancelQueues).field.credit = s.field.credit ∧ (s.cancelQueues).field.scanMode = s.field.scanMode
      ∧ (s.cancelQueues).field.echo = s.field.echo ∧ (s.cancelQueues).field.nextTag = s.field.nextTag
      ∧ (s.cancelQueues).field.pointer = s.field.pointer ∧ (s.cancelQueues).field.cycle = s.field.cycle
      ∧ (s.cancelQueues).field.sweep = s.field.sweep
      ∧ (s.cancelQueues).field.replyTimeout = s.field.replyTimeout
      ∧ (s.cancelQueues).field.silentLimit = s.field.silentLimit := by
  and_intros <;> (unfold State.cancelQueues; (try dsimp only); (try simp))
/-- What `State.cancelQueues` leaves unchanged of the Span Supervisor. -/
@[simp] theorem State.cancelQueues_span (s : State) :
    (s.cancelQueues).span.record = s.span.record ∧ (s.cancelQueues).span.level = s.span.level
      ∧ (s.cancelQueues).span.lastSkew = s.span.lastSkew ∧ (s.cancelQueues).span.lastHold = s.span.lastHold
      ∧ (s.cancelQueues).span.holdRunning = s.span.holdRunning
      ∧ (s.cancelQueues).span.levelChanges = s.span.levelChanges := by
  and_intros <;> (unfold State.cancelQueues; (try dsimp only); (try simp))
/-- What `State.cancelQueues` leaves unchanged of the mode and the chain. -/
@[simp] theorem State.cancelQueues_unit (s : State) :
    (s.cancelQueues).unit.limits = s.unit.limits ∧ (s.cancelQueues).unit.estop = s.unit.estop
      ∧ (s.cancelQueues).unit.key = s.unit.key ∧ (s.cancelQueues).unit.locked = s.unit.locked
      ∧ (s.cancelQueues).unit.validation = s.unit.validation := by
  and_intros <;> (unfold State.cancelQueues; (try dsimp only); (try simp))
/-- What `State.cancelQueues` leaves unchanged of the Point Image. -/
@[simp] theorem State.cancelQueues_points (s : State) :
    (s.cancelQueues).points.map = s.points.map ∧ (s.cancelQueues).points.firstPair = s.points.firstPair
      ∧ (s.cancelQueues).points.pairLoss = s.points.pairLoss := by
  and_intros <;> (unfold State.cancelQueues; (try dsimp only); (try simp))

/-- The blocks `State.encoderLoss` leaves unchanged. -/
@[simp] theorem State.encoderLoss_frame (s b : State) (r : SpanRecord) (t : Tower) :
    (s.encoderLoss b r t).power = s.power ∧ (s.encoderLoss b r t).now = s.now
      ∧ (s.encoderLoss b r t).pending = s.pending := by
  and_intros <;> (unfold State.encoderLoss; split <;> (try simp))
/-- What `State.encoderLoss` leaves unchanged of the Console Port. -/
@[simp] theorem State.encoderLoss_console (s b : State) (r : SpanRecord) (t : Tower) :
    (s.encoderLoss b r t).console.ingress = s.console.ingress
      ∧ (s.encoderLoss b r t).console.arrivals = s.console.arrivals
      ∧ (s.encoderLoss b r t).console.restart = s.console.restart
      ∧ (s.encoderLoss b r t).console.receiver = s.console.receiver
      ∧ (s.encoderLoss b r t).console.line = s.console.line
      ∧ (s.encoderLoss b r t).console.counts = s.console.counts
      ∧ (s.encoderLoss b r t).console.sending = s.console.sending
      ∧ (s.encoderLoss b r t).console.ingressOverflows = s.console.ingressOverflows := by
  and_intros <;> (unfold State.encoderLoss; split <;> (try simp))
/-- What `State.encoderLoss` leaves unchanged of the Order Gate. -/
@[simp] theorem State.encoderLoss_gate (s b : State) (r : SpanRecord) (t : Tower) :
    (s.encoderLoss b r t).gate.permits = s.gate.permits ∧ (s.encoderLoss b r t).gate.orders = s.gate.orders
      ∧ (s.encoderLoss b r t).gate.held = s.gate.held := by
  and_intros <;> (unfold State.encoderLoss; split <;> (try simp))
/-- What `State.encoderLoss` leaves unchanged of the Crossing Sequencer. -/
@[simp] theorem State.encoderLoss_seq (s b : State) (r : SpanRecord) (t : Tower) :
    (s.encoderLoss b r t).seq.table = s.seq.table ∧ (s.encoderLoss b r t).seq.serial = s.seq.serial := by
  and_intros <;> (unfold State.encoderLoss; split <;> (try simp))
/-- What `State.encoderLoss` leaves unchanged of the Channel Controller. -/
@[simp] theorem State.encoderLoss_chan (s b : State) (r : SpanRecord) (t : Tower) :
    (s.encoderLoss b r t).chan.record = s.chan.record
      ∧ (s.encoderLoss b r t).chan.ignoredCalls = s.chan.ignoredCalls
      ∧ (s.encoderLoss b r t).chan.badDirections = s.chan.badDirections
      ∧ (s.encoderLoss b r t).chan.unexpectedPassages = s.chan.unexpectedPassages := by
  and_intros <;> (unfold State.encoderLoss; split <;> (try simp))
/-- What `State.encoderLoss` leaves unchanged of the Condition Evaluator. -/
@[simp] theorem State.encoderLoss_cond (s b : State) (r : SpanRecord) (t : Tower) :
    (s.encoderLoss b r t).cond.table = s.cond.table := by
  unfold State.encoderLoss; split <;> (try simp)
/-- What `State.encoderLoss` leaves unchanged of the Field Engine. -/
@[simp] theorem State.encoderLoss_field (s b : State) (r : SpanRecord) (t : Tower) :
    (s.encoderLoss b r t).field.scanList = s.field.scanList ∧ (s.encoderLoss b r t).field.tx = s.field.tx
      ∧ (s.encoderLoss b r t).field.link = s.field.link ∧ (s.encoderLoss b r t).field.nodes = s.field.nodes
      ∧ (s.encoderLoss b r t).field.counts = s.field.counts
      ∧ (s.encoderLoss b r t).field.receiver = s.field.receiver
      ∧ (s.encoderLoss b r t).field.line = s.field.line
      ∧ (s.encoderLoss b r t).field.arrivals = s.field.arrivals
      ∧ (s.encoderLoss b r t).field.contention = s.field.contention
      ∧ (s.encoderLoss b r t).field.credit = s.field.credit
      ∧ (s.encoderLoss b r t).field.scanMode = s.field.scanMode
      ∧ (s.encoderLoss b r t).field.echo = s.field.echo
      ∧ (s.encoderLoss b r t).field.nextTag = s.field.nextTag
      ∧ (s.encoderLoss b r t).field.pointer = s.field.pointer
      ∧ (s.encoderLoss b r t).field.cycle = s.field.cycle
      ∧ (s.encoderLoss b r t).field.sweep = s.field.sweep
      ∧ (s.encoderLoss b r t).field.replyTimeout = s.field.replyTimeout
      ∧ (s.encoderLoss b r t).field.silentLimit = s.field.silentLimit := by
  and_intros <;> (unfold State.encoderLoss; split <;> (try simp))
/-- What `State.encoderLoss` leaves unchanged of the Span Supervisor. -/
@[simp] theorem State.encoderLoss_span (s b : State) (r : SpanRecord) (t : Tower) :
    (s.encoderLoss b r t).span.record = s.span.record
      ∧ (s.encoderLoss b r t).span.correction = s.span.correction
      ∧ (s.encoderLoss b r t).span.lastSkew = s.span.lastSkew
      ∧ (s.encoderLoss b r t).span.lastHold = s.span.lastHold
      ∧ (s.encoderLoss b r t).span.holdRunning = s.span.holdRunning
      ∧ (s.encoderLoss b r t).span.previous = s.span.previous
      ∧ (s.encoderLoss b r t).span.lastTrim = s.span.lastTrim := by
  and_intros <;> (unfold State.encoderLoss; split <;> (try simp))
/-- What `State.encoderLoss` leaves unchanged of the mode and the chain. -/
@[simp] theorem State.encoderLoss_unit (s b : State) (r : SpanRecord) (t : Tower) :
    (s.encoderLoss b r t).unit.limits = s.unit.limits ∧ (s.encoderLoss b r t).unit.estop = s.unit.estop
      ∧ (s.encoderLoss b r t).unit.key = s.unit.key ∧ (s.encoderLoss b r t).unit.locked = s.unit.locked
      ∧ (s.encoderLoss b r t).unit.validation = s.unit.validation := by
  and_intros <;> (unfold State.encoderLoss; split <;> (try simp))
/-- What `State.encoderLoss` leaves unchanged of the Point Image. -/
@[simp] theorem State.encoderLoss_points (s b : State) (r : SpanRecord) (t : Tower) :
    (s.encoderLoss b r t).points.map = s.points.map
      ∧ (s.encoderLoss b r t).points.firstPair = s.points.firstPair
      ∧ (s.encoderLoss b r t).points.pairLoss = s.points.pairLoss := by
  and_intros <;> (unfold State.encoderLoss; split <;> (try simp))

/-- The blocks `State.encodersAfter` leaves unchanged. -/
@[simp] theorem State.encodersAfter_frame (s b : State) :
    (s.encodersAfter b).power = s.power ∧ (s.encodersAfter b).now = s.now
      ∧ (s.encodersAfter b).pending = s.pending := by
  and_intros <;> (unfold State.encodersAfter; (try dsimp only); split <;> (try simp))
/-- What `State.encodersAfter` leaves unchanged of the Console Port. -/
@[simp] theorem State.encodersAfter_console (s b : State) :
    (s.encodersAfter b).console.ingress = s.console.ingress
      ∧ (s.encodersAfter b).console.arrivals = s.console.arrivals
      ∧ (s.encodersAfter b).console.restart = s.console.restart
      ∧ (s.encodersAfter b).console.receiver = s.console.receiver
      ∧ (s.encodersAfter b).console.line = s.console.line
      ∧ (s.encodersAfter b).console.counts = s.console.counts
      ∧ (s.encodersAfter b).console.sending = s.console.sending
      ∧ (s.encodersAfter b).console.ingressOverflows = s.console.ingressOverflows := by
  and_intros <;> (unfold State.encodersAfter; (try dsimp only); split <;> (try simp))
/-- What `State.encodersAfter` leaves unchanged of the Order Gate. -/
@[simp] theorem State.encodersAfter_gate (s b : State) :
    (s.encodersAfter b).gate.permits = s.gate.permits ∧ (s.encodersAfter b).gate.orders = s.gate.orders
      ∧ (s.encodersAfter b).gate.held = s.gate.held := by
  and_intros <;> (unfold State.encodersAfter; (try dsimp only); split <;> (try simp))
/-- What `State.encodersAfter` leaves unchanged of the Crossing Sequencer. -/
@[simp] theorem State.encodersAfter_seq (s b : State) :
    (s.encodersAfter b).seq.table = s.seq.table ∧ (s.encodersAfter b).seq.serial = s.seq.serial := by
  and_intros <;> (unfold State.encodersAfter; (try dsimp only); split <;> (try simp))
/-- What `State.encodersAfter` leaves unchanged of the Channel Controller. -/
@[simp] theorem State.encodersAfter_chan (s b : State) :
    (s.encodersAfter b).chan.record = s.chan.record
      ∧ (s.encodersAfter b).chan.ignoredCalls = s.chan.ignoredCalls
      ∧ (s.encodersAfter b).chan.badDirections = s.chan.badDirections
      ∧ (s.encodersAfter b).chan.unexpectedPassages = s.chan.unexpectedPassages := by
  and_intros <;> (unfold State.encodersAfter; (try dsimp only); split <;> (try simp))
/-- What `State.encodersAfter` leaves unchanged of the Condition Evaluator. -/
@[simp] theorem State.encodersAfter_cond (s b : State) :
    (s.encodersAfter b).cond.table = s.cond.table := by
  unfold State.encodersAfter; (try dsimp only); split <;> (try simp)
/-- What `State.encodersAfter` leaves unchanged of the Field Engine. -/
@[simp] theorem State.encodersAfter_field (s b : State) :
    (s.encodersAfter b).field.scanList = s.field.scanList ∧ (s.encodersAfter b).field.tx = s.field.tx
      ∧ (s.encodersAfter b).field.link = s.field.link ∧ (s.encodersAfter b).field.nodes = s.field.nodes
      ∧ (s.encodersAfter b).field.counts = s.field.counts
      ∧ (s.encodersAfter b).field.receiver = s.field.receiver
      ∧ (s.encodersAfter b).field.line = s.field.line
      ∧ (s.encodersAfter b).field.arrivals = s.field.arrivals
      ∧ (s.encodersAfter b).field.contention = s.field.contention
      ∧ (s.encodersAfter b).field.credit = s.field.credit
      ∧ (s.encodersAfter b).field.scanMode = s.field.scanMode
      ∧ (s.encodersAfter b).field.echo = s.field.echo ∧ (s.encodersAfter b).field.nextTag = s.field.nextTag
      ∧ (s.encodersAfter b).field.pointer = s.field.pointer
      ∧ (s.encodersAfter b).field.cycle = s.field.cycle ∧ (s.encodersAfter b).field.sweep = s.field.sweep
      ∧ (s.encodersAfter b).field.replyTimeout = s.field.replyTimeout
      ∧ (s.encodersAfter b).field.silentLimit = s.field.silentLimit := by
  and_intros <;> (unfold State.encodersAfter; (try dsimp only); split <;> (try simp))
/-- What `State.encodersAfter` leaves unchanged of the Span Supervisor. -/
@[simp] theorem State.encodersAfter_span (s b : State) :
    (s.encodersAfter b).span.record = s.span.record
      ∧ (s.encodersAfter b).span.correction = s.span.correction
      ∧ (s.encodersAfter b).span.lastSkew = s.span.lastSkew
      ∧ (s.encodersAfter b).span.lastHold = s.span.lastHold
      ∧ (s.encodersAfter b).span.holdRunning = s.span.holdRunning
      ∧ (s.encodersAfter b).span.previous = s.span.previous
      ∧ (s.encodersAfter b).span.lastTrim = s.span.lastTrim := by
  and_intros <;> (unfold State.encodersAfter; (try dsimp only); split <;> (try simp))
/-- What `State.encodersAfter` leaves unchanged of the mode and the chain. -/
@[simp] theorem State.encodersAfter_unit (s b : State) :
    (s.encodersAfter b).unit.limits = s.unit.limits ∧ (s.encodersAfter b).unit.estop = s.unit.estop
      ∧ (s.encodersAfter b).unit.key = s.unit.key ∧ (s.encodersAfter b).unit.locked = s.unit.locked
      ∧ (s.encodersAfter b).unit.validation = s.unit.validation := by
  and_intros <;> (unfold State.encodersAfter; (try dsimp only); split <;> (try simp))
/-- What `State.encodersAfter` leaves unchanged of the Point Image. -/
@[simp] theorem State.encodersAfter_points (s b : State) :
    (s.encodersAfter b).points.map = s.points.map
      ∧ (s.encodersAfter b).points.firstPair = s.points.firstPair
      ∧ (s.encodersAfter b).points.pairLoss = s.points.pairLoss := by
  and_intros <;> (unfold State.encodersAfter; (try dsimp only); split <;> (try simp))

/-- The blocks `State.encoderReading` leaves unchanged. -/
@[simp] theorem State.encoderReading_frame (s : State) (ps : List (Nat × PointEntry)) (p : List Byte) (t : Time) (x : Tower) :
    (s.encoderReading ps p t x).power = s.power ∧ (s.encoderReading ps p t x).now = s.now
      ∧ (s.encoderReading ps p t x).pending = s.pending := by
  and_intros <;> (unfold State.encoderReading; (repeat' split) <;> (try simp))
/-- What `State.encoderReading` leaves unchanged of the Console Port. -/
@[simp] theorem State.encoderReading_console (s : State) (ps : List (Nat × PointEntry)) (p : List Byte) (t : Time) (x : Tower) :
    (s.encoderReading ps p t x).console.ingress = s.console.ingress
      ∧ (s.encoderReading ps p t x).console.arrivals = s.console.arrivals
      ∧ (s.encoderReading ps p t x).console.restart = s.console.restart
      ∧ (s.encoderReading ps p t x).console.receiver = s.console.receiver
      ∧ (s.encoderReading ps p t x).console.line = s.console.line
      ∧ (s.encoderReading ps p t x).console.counts = s.console.counts
      ∧ (s.encoderReading ps p t x).console.sending = s.console.sending
      ∧ (s.encoderReading ps p t x).console.ingressOverflows = s.console.ingressOverflows := by
  and_intros <;> (unfold State.encoderReading; (repeat' split) <;> (try simp))
/-- What `State.encoderReading` leaves unchanged of the Order Gate. -/
@[simp] theorem State.encoderReading_gate (s : State) (ps : List (Nat × PointEntry)) (p : List Byte) (t : Time) (x : Tower) :
    (s.encoderReading ps p t x).gate.permits = s.gate.permits
      ∧ (s.encoderReading ps p t x).gate.orders = s.gate.orders
      ∧ (s.encoderReading ps p t x).gate.held = s.gate.held := by
  and_intros <;> (unfold State.encoderReading; (repeat' split) <;> (try simp))
/-- What `State.encoderReading` leaves unchanged of the Crossing Sequencer. -/
@[simp] theorem State.encoderReading_seq (s : State) (ps : List (Nat × PointEntry)) (p : List Byte) (t : Time) (x : Tower) :
    (s.encoderReading ps p t x).seq.table = s.seq.table
      ∧ (s.encoderReading ps p t x).seq.serial = s.seq.serial := by
  and_intros <;> (unfold State.encoderReading; (repeat' split) <;> (try simp))
/-- What `State.encoderReading` leaves unchanged of the Channel Controller. -/
@[simp] theorem State.encoderReading_chan (s : State) (ps : List (Nat × PointEntry)) (p : List Byte) (t : Time) (x : Tower) :
    (s.encoderReading ps p t x).chan.record = s.chan.record
      ∧ (s.encoderReading ps p t x).chan.ignoredCalls = s.chan.ignoredCalls
      ∧ (s.encoderReading ps p t x).chan.badDirections = s.chan.badDirections
      ∧ (s.encoderReading ps p t x).chan.unexpectedPassages = s.chan.unexpectedPassages := by
  and_intros <;> (unfold State.encoderReading; (repeat' split) <;> (try simp))
/-- What `State.encoderReading` leaves unchanged of the Condition Evaluator. -/
@[simp] theorem State.encoderReading_cond (s : State) (ps : List (Nat × PointEntry)) (p : List Byte) (t : Time) (x : Tower) :
    (s.encoderReading ps p t x).cond.table = s.cond.table := by
  unfold State.encoderReading; (repeat' split) <;> (try simp)
/-- What `State.encoderReading` leaves unchanged of the Field Engine. -/
@[simp] theorem State.encoderReading_field (s : State) (ps : List (Nat × PointEntry)) (p : List Byte) (t : Time) (x : Tower) :
    (s.encoderReading ps p t x).field.scanList = s.field.scanList
      ∧ (s.encoderReading ps p t x).field.tx = s.field.tx
      ∧ (s.encoderReading ps p t x).field.link = s.field.link
      ∧ (s.encoderReading ps p t x).field.nodes = s.field.nodes
      ∧ (s.encoderReading ps p t x).field.counts = s.field.counts
      ∧ (s.encoderReading ps p t x).field.receiver = s.field.receiver
      ∧ (s.encoderReading ps p t x).field.line = s.field.line
      ∧ (s.encoderReading ps p t x).field.arrivals = s.field.arrivals
      ∧ (s.encoderReading ps p t x).field.contention = s.field.contention
      ∧ (s.encoderReading ps p t x).field.credit = s.field.credit
      ∧ (s.encoderReading ps p t x).field.scanMode = s.field.scanMode
      ∧ (s.encoderReading ps p t x).field.echo = s.field.echo
      ∧ (s.encoderReading ps p t x).field.nextTag = s.field.nextTag
      ∧ (s.encoderReading ps p t x).field.pointer = s.field.pointer
      ∧ (s.encoderReading ps p t x).field.cycle = s.field.cycle
      ∧ (s.encoderReading ps p t x).field.sweep = s.field.sweep
      ∧ (s.encoderReading ps p t x).field.replyTimeout = s.field.replyTimeout
      ∧ (s.encoderReading ps p t x).field.silentLimit = s.field.silentLimit := by
  and_intros <;> (unfold State.encoderReading; (repeat' split) <;> (try simp))
/-- What `State.encoderReading` leaves unchanged of the Span Supervisor. -/
@[simp] theorem State.encoderReading_span (s : State) (ps : List (Nat × PointEntry)) (p : List Byte) (t : Time) (x : Tower) :
    (s.encoderReading ps p t x).span.record = s.span.record
      ∧ (s.encoderReading ps p t x).span.lastHold = s.span.lastHold
      ∧ (s.encoderReading ps p t x).span.holdRunning = s.span.holdRunning := by
  and_intros <;> (unfold State.encoderReading; (repeat' split) <;> (try simp))
/-- What `State.encoderReading` leaves unchanged of the mode and the chain. -/
@[simp] theorem State.encoderReading_unit (s : State) (ps : List (Nat × PointEntry)) (p : List Byte) (t : Time) (x : Tower) :
    (s.encoderReading ps p t x).unit.limits = s.unit.limits
      ∧ (s.encoderReading ps p t x).unit.estop = s.unit.estop
      ∧ (s.encoderReading ps p t x).unit.key = s.unit.key
      ∧ (s.encoderReading ps p t x).unit.locked = s.unit.locked
      ∧ (s.encoderReading ps p t x).unit.validation = s.unit.validation := by
  and_intros <;> (unfold State.encoderReading; (repeat' split) <;> (try simp))
/-- What `State.encoderReading` leaves unchanged of the Point Image. -/
@[simp] theorem State.encoderReading_points (s : State) (ps : List (Nat × PointEntry)) (p : List Byte) (t : Time) (x : Tower) :
    (s.encoderReading ps p t x).points.map = s.points.map := by
  unfold State.encoderReading; (repeat' split) <;> (try simp)

/-- The blocks `State.offerCall` leaves unchanged. -/
@[simp] theorem State.offerCall_frame (s b : State) (q : Nat × PointEntry) :
    (s.offerCall b q).power = s.power ∧ (s.offerCall b q).now = s.now
      ∧ (s.offerCall b q).pending = s.pending := by
  and_intros <;> (unfold State.offerCall State.channelStep State.channelEvent; (try dsimp only); (repeat' split) <;> (try simp))
/-- What `State.offerCall` leaves unchanged of the Console Port. -/
@[simp] theorem State.offerCall_console (s b : State) (q : Nat × PointEntry) :
    (s.offerCall b q).console.ingress = s.console.ingress
      ∧ (s.offerCall b q).console.arrivals = s.console.arrivals
      ∧ (s.offerCall b q).console.restart = s.console.restart
      ∧ (s.offerCall b q).console.receiver = s.console.receiver
      ∧ (s.offerCall b q).console.line = s.console.line
      ∧ (s.offerCall b q).console.counts = s.console.counts
      ∧ (s.offerCall b q).console.sending = s.console.sending
      ∧ (s.offerCall b q).console.ingressOverflows = s.console.ingressOverflows := by
  and_intros <;> (unfold State.offerCall State.channelStep State.channelEvent; (try dsimp only); (repeat' split) <;> (try simp))
/-- What `State.offerCall` leaves unchanged of the Order Gate. -/
@[simp] theorem State.offerCall_gate (s b : State) (q : Nat × PointEntry) :
    (s.offerCall b q).gate.permits = s.gate.permits ∧ (s.offerCall b q).gate.orders = s.gate.orders
      ∧ (s.offerCall b q).gate.held = s.gate.held := by
  and_intros <;> (unfold State.offerCall State.channelStep State.channelEvent; (try dsimp only); (repeat' split) <;> (try simp))
/-- What `State.offerCall` leaves unchanged of the Crossing Sequencer. -/
@[simp] theorem State.offerCall_seq (s b : State) (q : Nat × PointEntry) :
    (s.offerCall b q).seq.table = s.seq.table := by
  unfold State.offerCall State.channelStep State.channelEvent; (try dsimp only); (repeat' split) <;> (try simp)
/-- What `State.offerCall` leaves unchanged of the Channel Controller. -/
@[simp] theorem State.offerCall_chan (s b : State) (q : Nat × PointEntry) :
    (s.offerCall b q).chan.record = s.chan.record
      ∧ (s.offerCall b q).chan.unexpectedPassages = s.chan.unexpectedPassages := by
  and_intros <;> (unfold State.offerCall State.channelStep State.channelEvent; (try dsimp only); (repeat' split) <;> (try simp))
/-- What `State.offerCall` leaves unchanged of the Condition Evaluator. -/
@[simp] theorem State.offerCall_cond (s b : State) (q : Nat × PointEntry) :
    (s.offerCall b q).cond.table = s.cond.table := by
  unfold State.offerCall State.channelStep State.channelEvent; (try dsimp only); (repeat' split) <;> (try simp)
/-- What `State.offerCall` leaves unchanged of the Field Engine. -/
@[simp] theorem State.offerCall_field (s b : State) (q : Nat × PointEntry) :
    (s.offerCall b q).field.scanList = s.field.scanList ∧ (s.offerCall b q).field.tx = s.field.tx
      ∧ (s.offerCall b q).field.link = s.field.link ∧ (s.offerCall b q).field.nodes = s.field.nodes
      ∧ (s.offerCall b q).field.counts = s.field.counts
      ∧ (s.offerCall b q).field.receiver = s.field.receiver ∧ (s.offerCall b q).field.line = s.field.line
      ∧ (s.offerCall b q).field.arrivals = s.field.arrivals
      ∧ (s.offerCall b q).field.contention = s.field.contention
      ∧ (s.offerCall b q).field.credit = s.field.credit
      ∧ (s.offerCall b q).field.scanMode = s.field.scanMode ∧ (s.offerCall b q).field.echo = s.field.echo
      ∧ (s.offerCall b q).field.nextTag = s.field.nextTag ∧ (s.offerCall b q).field.trimA = s.field.trimA
      ∧ (s.offerCall b q).field.trimB = s.field.trimB ∧ (s.offerCall b q).field.stopA = s.field.stopA
      ∧ (s.offerCall b q).field.stopB = s.field.stopB ∧ (s.offerCall b q).field.pointer = s.field.pointer
      ∧ (s.offerCall b q).field.cycle = s.field.cycle ∧ (s.offerCall b q).field.sweep = s.field.sweep
      ∧ (s.offerCall b q).field.replyTimeout = s.field.replyTimeout
      ∧ (s.offerCall b q).field.silentLimit = s.field.silentLimit := by
  and_intros <;> (unfold State.offerCall State.channelStep State.channelEvent; (try dsimp only); (repeat' split) <;> (try simp))
/-- What `State.offerCall` leaves unchanged of the Span Supervisor. -/
@[simp] theorem State.offerCall_span (s b : State) (q : Nat × PointEntry) :
    (s.offerCall b q).span.record = s.span.record ∧ (s.offerCall b q).span.correction = s.span.correction
      ∧ (s.offerCall b q).span.level = s.span.level ∧ (s.offerCall b q).span.lastSkew = s.span.lastSkew
      ∧ (s.offerCall b q).span.lastHold = s.span.lastHold
      ∧ (s.offerCall b q).span.holdRunning = s.span.holdRunning
      ∧ (s.offerCall b q).span.previous = s.span.previous
      ∧ (s.offerCall b q).span.lastTrim = s.span.lastTrim
      ∧ (s.offerCall b q).span.levelChanges = s.span.levelChanges := by
  and_intros <;> (unfold State.offerCall State.channelStep State.channelEvent; (try dsimp only); (repeat' split) <;> (try simp))
/-- What `State.offerCall` leaves unchanged of the mode and the chain. -/
@[simp] theorem State.offerCall_unit (s b : State) (q : Nat × PointEntry) :
    (s.offerCall b q).unit.limits = s.unit.limits ∧ (s.offerCall b q).unit.estop = s.unit.estop
      ∧ (s.offerCall b q).unit.key = s.unit.key ∧ (s.offerCall b q).unit.locked = s.unit.locked
      ∧ (s.offerCall b q).unit.validation = s.unit.validation := by
  and_intros <;> (unfold State.offerCall State.channelStep State.channelEvent; (try dsimp only); (repeat' split) <;> (try simp))
/-- What `State.offerCall` leaves unchanged of the Point Image. -/
@[simp] theorem State.offerCall_points (s b : State) (q : Nat × PointEntry) :
    (s.offerCall b q).points.map = s.points.map ∧ (s.offerCall b q).points.firstPair = s.points.firstPair
      ∧ (s.offerCall b q).points.pairLoss = s.points.pairLoss := by
  and_intros <;> (unfold State.offerCall State.channelStep State.channelEvent; (try dsimp only); (repeat' split) <;> (try simp))

/-- The blocks `State.nodeAnswers` leaves unchanged. -/
@[simp] theorem State.nodeAnswers_frame (s : State) (n : Nat) (t : Time) :
    (s.nodeAnswers n t).power = s.power ∧ (s.nodeAnswers n t).now = s.now
      ∧ (s.nodeAnswers n t).pending = s.pending ∧ (s.nodeAnswers n t).span = s.span
      ∧ (s.nodeAnswers n t).unit = s.unit := by
  and_intros <;> (unfold State.nodeAnswers State.writeSilent Field.setNode; (try dsimp only); (repeat' split) <;> (try simp))
/-- What `State.nodeAnswers` leaves unchanged of the Console Port. -/
@[simp] theorem State.nodeAnswers_console (s : State) (n : Nat) (t : Time) :
    (s.nodeAnswers n t).console.ingress = s.console.ingress
      ∧ (s.nodeAnswers n t).console.arrivals = s.console.arrivals
      ∧ (s.nodeAnswers n t).console.restart = s.console.restart
      ∧ (s.nodeAnswers n t).console.receiver = s.console.receiver
      ∧ (s.nodeAnswers n t).console.line = s.console.line
      ∧ (s.nodeAnswers n t).console.counts = s.console.counts
      ∧ (s.nodeAnswers n t).console.sending = s.console.sending
      ∧ (s.nodeAnswers n t).console.ingressOverflows = s.console.ingressOverflows := by
  and_intros <;> (unfold State.nodeAnswers State.writeSilent Field.setNode; (try dsimp only); (repeat' split) <;> (try simp))
/-- What `State.nodeAnswers` leaves unchanged of the Order Gate. -/
@[simp] theorem State.nodeAnswers_gate (s : State) (n : Nat) (t : Time) :
    (s.nodeAnswers n t).gate.permits = s.gate.permits ∧ (s.nodeAnswers n t).gate.orders = s.gate.orders
      ∧ (s.nodeAnswers n t).gate.held = s.gate.held ∧ (s.nodeAnswers n t).gate.own = s.gate.own
      ∧ (s.nodeAnswers n t).gate.standdowns = s.gate.standdowns := by
  and_intros <;> (unfold State.nodeAnswers State.writeSilent Field.setNode; (try dsimp only); (repeat' split) <;> (try simp))
/-- What `State.nodeAnswers` leaves unchanged of the Crossing Sequencer. -/
@[simp] theorem State.nodeAnswers_seq (s : State) (n : Nat) (t : Time) :
    (s.nodeAnswers n t).seq.table = s.seq.table ∧ (s.nodeAnswers n t).seq.phase = s.seq.phase
      ∧ (s.nodeAnswers n t).seq.standdowns = s.seq.standdowns
      ∧ (s.nodeAnswers n t).seq.serial = s.seq.serial ∧ (s.nodeAnswers n t).seq.tracking = s.seq.tracking
      ∧ (s.nodeAnswers n t).seq.interrupted = s.seq.interrupted
      ∧ (s.nodeAnswers n t).seq.request = s.seq.request ∧ (s.nodeAnswers n t).seq.recovery = s.seq.recovery
      ∧ (s.nodeAnswers n t).seq.dwell = s.seq.dwell ∧ (s.nodeAnswers n t).seq.limit = s.seq.limit := by
  and_intros <;> (unfold State.nodeAnswers State.writeSilent Field.setNode; (try dsimp only); (repeat' split) <;> (try simp))
/-- What `State.nodeAnswers` leaves unchanged of the Channel Controller. -/
@[simp] theorem State.nodeAnswers_chan (s : State) (n : Nat) (t : Time) :
    (s.nodeAnswers n t).chan.record = s.chan.record ∧ (s.nodeAnswers n t).chan.vessels = s.chan.vessels
      ∧ (s.nodeAnswers n t).chan.state = s.chan.state ∧ (s.nodeAnswers n t).chan.north = s.chan.north
      ∧ (s.nodeAnswers n t).chan.south = s.chan.south ∧ (s.nodeAnswers n t).chan.closing = s.chan.closing
      ∧ (s.nodeAnswers n t).chan.phaseSeen = s.chan.phaseSeen
      ∧ (s.nodeAnswers n t).chan.standdowns = s.chan.standdowns
      ∧ (s.nodeAnswers n t).chan.changeoverPending = s.chan.changeoverPending
      ∧ (s.nodeAnswers n t).chan.greenTimer = s.chan.greenTimer
      ∧ (s.nodeAnswers n t).chan.changeoverTimer = s.chan.changeoverTimer
      ∧ (s.nodeAnswers n t).chan.retryTimer = s.chan.retryTimer
      ∧ (s.nodeAnswers n t).chan.greenExpired = s.chan.greenExpired
      ∧ (s.nodeAnswers n t).chan.ignoredCalls = s.chan.ignoredCalls
      ∧ (s.nodeAnswers n t).chan.badDirections = s.chan.badDirections
      ∧ (s.nodeAnswers n t).chan.unexpectedPassages = s.chan.unexpectedPassages := by
  and_intros <;> (unfold State.nodeAnswers State.writeSilent Field.setNode; (try dsimp only); (repeat' split) <;> (try simp))
/-- What `State.nodeAnswers` leaves unchanged of the Condition Evaluator. -/
@[simp] theorem State.nodeAnswers_cond (s : State) (n : Nat) (t : Time) :
    (s.nodeAnswers n t).cond.table = s.cond.table
      ∧ (s.nodeAnswers n t).cond.counterChanges = s.cond.counterChanges := by
  and_intros <;> (unfold State.nodeAnswers State.writeSilent Field.setNode; (try dsimp only); (repeat' split) <;> (try simp))
/-- What `State.nodeAnswers` leaves unchanged of the Field Engine. -/
@[simp] theorem State.nodeAnswers_field (s : State) (n : Nat) (t : Time) :
    (s.nodeAnswers n t).field.scanList = s.field.scanList ∧ (s.nodeAnswers n t).field.tx = s.field.tx
      ∧ (s.nodeAnswers n t).field.link = s.field.link ∧ (s.nodeAnswers n t).field.allStop = s.field.allStop
      ∧ (s.nodeAnswers n t).field.counts = s.field.counts
      ∧ (s.nodeAnswers n t).field.receiver = s.field.receiver
      ∧ (s.nodeAnswers n t).field.line = s.field.line
      ∧ (s.nodeAnswers n t).field.arrivals = s.field.arrivals
      ∧ (s.nodeAnswers n t).field.contention = s.field.contention
      ∧ (s.nodeAnswers n t).field.credit = s.field.credit
      ∧ (s.nodeAnswers n t).field.scanMode = s.field.scanMode
      ∧ (s.nodeAnswers n t).field.echo = s.field.echo ∧ (s.nodeAnswers n t).field.nextTag = s.field.nextTag
      ∧ (s.nodeAnswers n t).field.trimA = s.field.trimA ∧ (s.nodeAnswers n t).field.trimB = s.field.trimB
      ∧ (s.nodeAnswers n t).field.stopA = s.field.stopA ∧ (s.nodeAnswers n t).field.stopB = s.field.stopB
      ∧ (s.nodeAnswers n t).field.pointer = s.field.pointer
      ∧ (s.nodeAnswers n t).field.cycle = s.field.cycle ∧ (s.nodeAnswers n t).field.sweep = s.field.sweep
      ∧ (s.nodeAnswers n t).field.replyTimeout = s.field.replyTimeout
      ∧ (s.nodeAnswers n t).field.silentLimit = s.field.silentLimit := by
  and_intros <;> (unfold State.nodeAnswers State.writeSilent Field.setNode; (try dsimp only); (repeat' split) <;> (try simp))
/-- What `State.nodeAnswers` leaves unchanged of the Point Image. -/
@[simp] theorem State.nodeAnswers_points (s : State) (n : Nat) (t : Time) :
    (s.nodeAnswers n t).points.map = s.points.map
      ∧ (s.nodeAnswers n t).points.firstPair = s.points.firstPair
      ∧ (s.nodeAnswers n t).points.pairLoss = s.points.pairLoss := by
  and_intros <;> (unfold State.nodeAnswers State.writeSilent Field.setNode; (try dsimp only); (repeat' split) <;> (try simp))
/-- What `State.nodeAnswers` leaves unchanged of the Duty Counter Unit. -/
@[simp] theorem State.nodeAnswers_duty (s : State) (n : Nat) (t : Time) :
    (s.nodeAnswers n t).duty.residency = s.duty.residency
      ∧ (s.nodeAnswers n t).duty.occupancy = s.duty.occupancy
      ∧ (s.nodeAnswers n t).duty.standing = s.duty.standing ∧ (s.nodeAnswers n t).duty.phase = s.duty.phase
      ∧ (s.nodeAnswers n t).duty.frozen = s.duty.frozen ∧ (s.nodeAnswers n t).duty.bands = s.duty.bands
      ∧ (s.nodeAnswers n t).duty.counters = s.duty.counters := by
  and_intros <;> (unfold State.nodeAnswers State.writeSilent Field.setNode; (try dsimp only); (repeat' split) <;> (try simp))

/-- The blocks `State.nodeMisses` leaves unchanged. -/
@[simp] theorem State.nodeMisses_frame (s : State) (n : Nat) :
    (s.nodeMisses n).power = s.power ∧ (s.nodeMisses n).now = s.now ∧ (s.nodeMisses n).pending = s.pending
      ∧ (s.nodeMisses n).span = s.span ∧ (s.nodeMisses n).unit = s.unit := by
  and_intros <;> (unfold State.nodeMisses State.writeSilent Field.setNode; (try dsimp only); (repeat' split) <;> (try simp))
/-- What `State.nodeMisses` leaves unchanged of the Console Port. -/
@[simp] theorem State.nodeMisses_console (s : State) (n : Nat) :
    (s.nodeMisses n).console.ingress = s.console.ingress
      ∧ (s.nodeMisses n).console.arrivals = s.console.arrivals
      ∧ (s.nodeMisses n).console.restart = s.console.restart
      ∧ (s.nodeMisses n).console.receiver = s.console.receiver
      ∧ (s.nodeMisses n).console.line = s.console.line ∧ (s.nodeMisses n).console.counts = s.console.counts
      ∧ (s.nodeMisses n).console.sending = s.console.sending
      ∧ (s.nodeMisses n).console.ingressOverflows = s.console.ingressOverflows := by
  and_intros <;> (unfold State.nodeMisses State.writeSilent Field.setNode; (try dsimp only); (repeat' split) <;> (try simp))
/-- What `State.nodeMisses` leaves unchanged of the Order Gate. -/
@[simp] theorem State.nodeMisses_gate (s : State) (n : Nat) :
    (s.nodeMisses n).gate.permits = s.gate.permits ∧ (s.nodeMisses n).gate.orders = s.gate.orders
      ∧ (s.nodeMisses n).gate.held = s.gate.held ∧ (s.nodeMisses n).gate.own = s.gate.own
      ∧ (s.nodeMisses n).gate.standdowns = s.gate.standdowns := by
  and_intros <;> (unfold State.nodeMisses State.writeSilent Field.setNode; (try dsimp only); (repeat' split) <;> (try simp))
/-- What `State.nodeMisses` leaves unchanged of the Crossing Sequencer. -/
@[simp] theorem State.nodeMisses_seq (s : State) (n : Nat) :
    (s.nodeMisses n).seq.table = s.seq.table ∧ (s.nodeMisses n).seq.phase = s.seq.phase
      ∧ (s.nodeMisses n).seq.standdowns = s.seq.standdowns ∧ (s.nodeMisses n).seq.serial = s.seq.serial
      ∧ (s.nodeMisses n).seq.tracking = s.seq.tracking
      ∧ (s.nodeMisses n).seq.interrupted = s.seq.interrupted ∧ (s.nodeMisses n).seq.request = s.seq.request
      ∧ (s.nodeMisses n).seq.recovery = s.seq.recovery ∧ (s.nodeMisses n).seq.dwell = s.seq.dwell
      ∧ (s.nodeMisses n).seq.limit = s.seq.limit := by
  and_intros <;> (unfold State.nodeMisses State.writeSilent Field.setNode; (try dsimp only); (repeat' split) <;> (try simp))
/-- What `State.nodeMisses` leaves unchanged of the Channel Controller. -/
@[simp] theorem State.nodeMisses_chan (s : State) (n : Nat) :
    (s.nodeMisses n).chan.record = s.chan.record ∧ (s.nodeMisses n).chan.vessels = s.chan.vessels
      ∧ (s.nodeMisses n).chan.state = s.chan.state ∧ (s.nodeMisses n).chan.north = s.chan.north
      ∧ (s.nodeMisses n).chan.south = s.chan.south ∧ (s.nodeMisses n).chan.closing = s.chan.closing
      ∧ (s.nodeMisses n).chan.phaseSeen = s.chan.phaseSeen
      ∧ (s.nodeMisses n).chan.standdowns = s.chan.standdowns
      ∧ (s.nodeMisses n).chan.changeoverPending = s.chan.changeoverPending
      ∧ (s.nodeMisses n).chan.greenTimer = s.chan.greenTimer
      ∧ (s.nodeMisses n).chan.changeoverTimer = s.chan.changeoverTimer
      ∧ (s.nodeMisses n).chan.retryTimer = s.chan.retryTimer
      ∧ (s.nodeMisses n).chan.greenExpired = s.chan.greenExpired
      ∧ (s.nodeMisses n).chan.ignoredCalls = s.chan.ignoredCalls
      ∧ (s.nodeMisses n).chan.badDirections = s.chan.badDirections
      ∧ (s.nodeMisses n).chan.unexpectedPassages = s.chan.unexpectedPassages := by
  and_intros <;> (unfold State.nodeMisses State.writeSilent Field.setNode; (try dsimp only); (repeat' split) <;> (try simp))
/-- What `State.nodeMisses` leaves unchanged of the Condition Evaluator. -/
@[simp] theorem State.nodeMisses_cond (s : State) (n : Nat) :
    (s.nodeMisses n).cond.table = s.cond.table := by
  unfold State.nodeMisses State.writeSilent Field.setNode; (try dsimp only); (repeat' split) <;> (try simp)
/-- What `State.nodeMisses` leaves unchanged of the Field Engine. -/
@[simp] theorem State.nodeMisses_field (s : State) (n : Nat) :
    (s.nodeMisses n).field.scanList = s.field.scanList ∧ (s.nodeMisses n).field.tx = s.field.tx
      ∧ (s.nodeMisses n).field.link = s.field.link ∧ (s.nodeMisses n).field.allStop = s.field.allStop
      ∧ (s.nodeMisses n).field.counts = s.field.counts ∧ (s.nodeMisses n).field.receiver = s.field.receiver
      ∧ (s.nodeMisses n).field.line = s.field.line ∧ (s.nodeMisses n).field.arrivals = s.field.arrivals
      ∧ (s.nodeMisses n).field.contention = s.field.contention
      ∧ (s.nodeMisses n).field.credit = s.field.credit ∧ (s.nodeMisses n).field.scanMode = s.field.scanMode
      ∧ (s.nodeMisses n).field.echo = s.field.echo ∧ (s.nodeMisses n).field.nextTag = s.field.nextTag
      ∧ (s.nodeMisses n).field.trimA = s.field.trimA ∧ (s.nodeMisses n).field.trimB = s.field.trimB
      ∧ (s.nodeMisses n).field.stopA = s.field.stopA ∧ (s.nodeMisses n).field.stopB = s.field.stopB
      ∧ (s.nodeMisses n).field.pointer = s.field.pointer ∧ (s.nodeMisses n).field.cycle = s.field.cycle
      ∧ (s.nodeMisses n).field.sweep = s.field.sweep
      ∧ (s.nodeMisses n).field.replyTimeout = s.field.replyTimeout
      ∧ (s.nodeMisses n).field.silentLimit = s.field.silentLimit := by
  and_intros <;> (unfold State.nodeMisses State.writeSilent Field.setNode; (try dsimp only); (repeat' split) <;> (try simp))
/-- What `State.nodeMisses` leaves unchanged of the Point Image. -/
@[simp] theorem State.nodeMisses_points (s : State) (n : Nat) :
    (s.nodeMisses n).points.map = s.points.map ∧ (s.nodeMisses n).points.firstPair = s.points.firstPair
      ∧ (s.nodeMisses n).points.pairLoss = s.points.pairLoss := by
  and_intros <;> (unfold State.nodeMisses State.writeSilent Field.setNode; (try dsimp only); (repeat' split) <;> (try simp))

/-- The blocks `State.endTransaction` leaves unchanged. -/
@[simp] theorem State.endTransaction_frame (s : State) (tx : Transaction) :
    (s.endTransaction tx).power = s.power ∧ (s.endTransaction tx).now = s.now
      ∧ (s.endTransaction tx).pending = s.pending := by
  and_intros <;> (unfold State.endTransaction; (try dsimp only); (repeat' split) <;> (try simp))
/-- What `State.endTransaction` leaves unchanged of the Console Port. -/
@[simp] theorem State.endTransaction_console (s : State) (tx : Transaction) :
    (s.endTransaction tx).console.ingress = s.console.ingress
      ∧ (s.endTransaction tx).console.arrivals = s.console.arrivals
      ∧ (s.endTransaction tx).console.restart = s.console.restart
      ∧ (s.endTransaction tx).console.receiver = s.console.receiver
      ∧ (s.endTransaction tx).console.line = s.console.line
      ∧ (s.endTransaction tx).console.counts = s.console.counts
      ∧ (s.endTransaction tx).console.sending = s.console.sending
      ∧ (s.endTransaction tx).console.ingressOverflows = s.console.ingressOverflows := by
  and_intros <;> (unfold State.endTransaction; (try dsimp only); (repeat' split) <;> (try simp))
/-- What `State.endTransaction` leaves unchanged of the Order Gate. -/
@[simp] theorem State.endTransaction_gate (s : State) (tx : Transaction) :
    (s.endTransaction tx).gate.permits = s.gate.permits ∧ (s.endTransaction tx).gate.orders = s.gate.orders
      ∧ (s.endTransaction tx).gate.held = s.gate.held ∧ (s.endTransaction tx).gate.own = s.gate.own := by
  and_intros <;> (unfold State.endTransaction; (try dsimp only); (repeat' split) <;> (try simp))
/-- What `State.endTransaction` leaves unchanged of the Crossing Sequencer. -/
@[simp] theorem State.endTransaction_seq (s : State) (tx : Transaction) :
    (s.endTransaction tx).seq.table = s.seq.table ∧ (s.endTransaction tx).seq.phase = s.seq.phase
      ∧ (s.endTransaction tx).seq.serial = s.seq.serial
      ∧ (s.endTransaction tx).seq.tracking = s.seq.tracking
      ∧ (s.endTransaction tx).seq.interrupted = s.seq.interrupted
      ∧ (s.endTransaction tx).seq.request = s.seq.request
      ∧ (s.endTransaction tx).seq.recovery = s.seq.recovery ∧ (s.endTransaction tx).seq.dwell = s.seq.dwell
      ∧ (s.endTransaction tx).seq.limit = s.seq.limit := by
  and_intros <;> (unfold State.endTransaction; (try dsimp only); (repeat' split) <;> (try simp))
/-- What `State.endTransaction` leaves unchanged of the Channel Controller. -/
@[simp] theorem State.endTransaction_chan (s : State) (tx : Transaction) :
    (s.endTransaction tx).chan.record = s.chan.record ∧ (s.endTransaction tx).chan.vessels = s.chan.vessels
      ∧ (s.endTransaction tx).chan.state = s.chan.state ∧ (s.endTransaction tx).chan.north = s.chan.north
      ∧ (s.endTransaction tx).chan.south = s.chan.south
      ∧ (s.endTransaction tx).chan.closing = s.chan.closing
      ∧ (s.endTransaction tx).chan.phaseSeen = s.chan.phaseSeen
      ∧ (s.endTransaction tx).chan.changeoverPending = s.chan.changeoverPending
      ∧ (s.endTransaction tx).chan.greenTimer = s.chan.greenTimer
      ∧ (s.endTransaction tx).chan.changeoverTimer = s.chan.changeoverTimer
      ∧ (s.endTransaction tx).chan.retryTimer = s.chan.retryTimer
      ∧ (s.endTransaction tx).chan.greenExpired = s.chan.greenExpired
      ∧ (s.endTransaction tx).chan.ignoredCalls = s.chan.ignoredCalls
      ∧ (s.endTransaction tx).chan.badDirections = s.chan.badDirections
      ∧ (s.endTransaction tx).chan.unexpectedPassages = s.chan.unexpectedPassages := by
  and_intros <;> (unfold State.endTransaction; (try dsimp only); (repeat' split) <;> (try simp))
/-- What `State.endTransaction` leaves unchanged of the Condition Evaluator. -/
@[simp] theorem State.endTransaction_cond (s : State) (tx : Transaction) :
    (s.endTransaction tx).cond.table = s.cond.table
      ∧ (s.endTransaction tx).cond.counterChanges = s.cond.counterChanges := by
  and_intros <;> (unfold State.endTransaction; (try dsimp only); (repeat' split) <;> (try simp))
/-- What `State.endTransaction` leaves unchanged of the Field Engine; the receiver is in HUNTING (02:R19). -/
@[simp] theorem State.endTransaction_field (s : State) (tx : Transaction) :
    (s.endTransaction tx).field.scanList = s.field.scanList
      ∧ (s.endTransaction tx).field.nodes = s.field.nodes
      ∧ (s.endTransaction tx).field.counts = s.field.counts
      ∧ (s.endTransaction tx).field.receiver = .hunting
      ∧ (s.endTransaction tx).field.line = s.field.line
      ∧ (s.endTransaction tx).field.arrivals = s.field.arrivals
      ∧ (s.endTransaction tx).field.credit = s.field.credit
      ∧ (s.endTransaction tx).field.scanMode = s.field.scanMode
      ∧ (s.endTransaction tx).field.echo = s.field.echo
      ∧ (s.endTransaction tx).field.nextTag = s.field.nextTag
      ∧ (s.endTransaction tx).field.trimA = s.field.trimA
      ∧ (s.endTransaction tx).field.trimB = s.field.trimB
      ∧ (s.endTransaction tx).field.stopA = s.field.stopA
      ∧ (s.endTransaction tx).field.stopB = s.field.stopB
      ∧ (s.endTransaction tx).field.pointer = s.field.pointer
      ∧ (s.endTransaction tx).field.cycle = s.field.cycle
      ∧ (s.endTransaction tx).field.sweep = s.field.sweep
      ∧ (s.endTransaction tx).field.replyTimeout = s.field.replyTimeout
      ∧ (s.endTransaction tx).field.silentLimit = s.field.silentLimit := by
  and_intros <;> (unfold State.endTransaction; (try dsimp only); (repeat' split) <;> (try simp))
/-- What `State.endTransaction` leaves unchanged of the Span Supervisor. -/
@[simp] theorem State.endTransaction_span (s : State) (tx : Transaction) :
    (s.endTransaction tx).span.record = s.span.record
      ∧ (s.endTransaction tx).span.correction = s.span.correction
      ∧ (s.endTransaction tx).span.level = s.span.level
      ∧ (s.endTransaction tx).span.lastSkew = s.span.lastSkew
      ∧ (s.endTransaction tx).span.lastHold = s.span.lastHold
      ∧ (s.endTransaction tx).span.holdRunning = s.span.holdRunning
      ∧ (s.endTransaction tx).span.previous = s.span.previous
      ∧ (s.endTransaction tx).span.lastTrim = s.span.lastTrim
      ∧ (s.endTransaction tx).span.levelChanges = s.span.levelChanges := by
  and_intros <;> (unfold State.endTransaction; (try dsimp only); (repeat' split) <;> (try simp))
/-- What `State.endTransaction` leaves unchanged of the mode and the chain. -/
@[simp] theorem State.endTransaction_unit (s : State) (tx : Transaction) :
    (s.endTransaction tx).unit.mode = s.unit.mode ∧ (s.endTransaction tx).unit.limits = s.unit.limits
      ∧ (s.endTransaction tx).unit.estop = s.unit.estop ∧ (s.endTransaction tx).unit.key = s.unit.key
      ∧ (s.endTransaction tx).unit.locked = s.unit.locked
      ∧ (s.endTransaction tx).unit.validation = s.unit.validation
      ∧ (s.endTransaction tx).unit.maintenancePending = s.unit.maintenancePending := by
  and_intros <;> (unfold State.endTransaction; (try dsimp only); (repeat' split) <;> (try simp))
/-- What `State.endTransaction` leaves unchanged of the Point Image. -/
@[simp] theorem State.endTransaction_points (s : State) (tx : Transaction) :
    (s.endTransaction tx).points.map = s.points.map
      ∧ (s.endTransaction tx).points.firstPair = s.points.firstPair
      ∧ (s.endTransaction tx).points.pairLoss = s.points.pairLoss := by
  and_intros <;> (unfold State.endTransaction; (try dsimp only); (repeat' split) <;> (try simp))
/-- What `State.endTransaction` leaves unchanged of the Duty Counter Unit. -/
@[simp] theorem State.endTransaction_duty (s : State) (tx : Transaction) :
    (s.endTransaction tx).duty.residency = s.duty.residency
      ∧ (s.endTransaction tx).duty.occupancy = s.duty.occupancy
      ∧ (s.endTransaction tx).duty.standing = s.duty.standing
      ∧ (s.endTransaction tx).duty.phase = s.duty.phase ∧ (s.endTransaction tx).duty.frozen = s.duty.frozen
      ∧ (s.endTransaction tx).duty.bands = s.duty.bands
      ∧ (s.endTransaction tx).duty.counters = s.duty.counters := by
  and_intros <;> (unfold State.endTransaction; (try dsimp only); (repeat' split) <;> (try simp))

/-- The blocks `State.orderOutcome` leaves unchanged. -/
@[simp] theorem State.orderOutcome_frame (s : State) (tx : Transaction) (x : Result) (d : Nat) :
    (s.orderOutcome tx x d).power = s.power ∧ (s.orderOutcome tx x d).now = s.now
      ∧ (s.orderOutcome tx x d).pending = s.pending := by
  and_intros <;> (unfold State.orderOutcome; (repeat' split) <;> (try simp))
/-- What `State.orderOutcome` leaves unchanged of the Console Port. -/
@[simp] theorem State.orderOutcome_console (s : State) (tx : Transaction) (x : Result) (d : Nat) :
    (s.orderOutcome tx x d).console.ingress = s.console.ingress
      ∧ (s.orderOutcome tx x d).console.arrivals = s.console.arrivals
      ∧ (s.orderOutcome tx x d).console.restart = s.console.restart
      ∧ (s.orderOutcome tx x d).console.receiver = s.console.receiver
      ∧ (s.orderOutcome tx x d).console.line = s.console.line
      ∧ (s.orderOutcome tx x d).console.counts = s.console.counts
      ∧ (s.orderOutcome tx x d).console.sending = s.console.sending
      ∧ (s.orderOutcome tx x d).console.ingressOverflows = s.console.ingressOverflows := by
  and_intros <;> (unfold State.orderOutcome; (repeat' split) <;> (try simp))
/-- What `State.orderOutcome` leaves unchanged of the Order Gate. -/
@[simp] theorem State.orderOutcome_gate (s : State) (tx : Transaction) (x : Result) (d : Nat) :
    (s.orderOutcome tx x d).gate.permits = s.gate.permits
      ∧ (s.orderOutcome tx x d).gate.orders = s.gate.orders
      ∧ (s.orderOutcome tx x d).gate.held = s.gate.held := by
  and_intros <;> (unfold State.orderOutcome; (repeat' split) <;> (try simp))
/-- What `State.orderOutcome` leaves unchanged of the Crossing Sequencer. -/
@[simp] theorem State.orderOutcome_seq (s : State) (tx : Transaction) (x : Result) (d : Nat) :
    (s.orderOutcome tx x d).seq.table = s.seq.table := by
  unfold State.orderOutcome; (repeat' split) <;> (try simp)
/-- What `State.orderOutcome` leaves unchanged of the Channel Controller. -/
@[simp] theorem State.orderOutcome_chan (s : State) (tx : Transaction) (x : Result) (d : Nat) :
    (s.orderOutcome tx x d).chan.record = s.chan.record
      ∧ (s.orderOutcome tx x d).chan.ignoredCalls = s.chan.ignoredCalls
      ∧ (s.orderOutcome tx x d).chan.badDirections = s.chan.badDirections
      ∧ (s.orderOutcome tx x d).chan.unexpectedPassages = s.chan.unexpectedPassages := by
  and_intros <;> (unfold State.orderOutcome; (repeat' split) <;> (try simp))
/-- What `State.orderOutcome` leaves unchanged of the Condition Evaluator. -/
@[simp] theorem State.orderOutcome_cond (s : State) (tx : Transaction) (x : Result) (d : Nat) :
    (s.orderOutcome tx x d).cond.table = s.cond.table := by
  unfold State.orderOutcome; (repeat' split) <;> (try simp)
/-- What `State.orderOutcome` leaves unchanged of the Field Engine. -/
@[simp] theorem State.orderOutcome_field (s : State) (tx : Transaction) (x : Result) (d : Nat) :
    (s.orderOutcome tx x d).field.scanList = s.field.scanList
      ∧ (s.orderOutcome tx x d).field.tx = s.field.tx ∧ (s.orderOutcome tx x d).field.link = s.field.link
      ∧ (s.orderOutcome tx x d).field.nodes = s.field.nodes
      ∧ (s.orderOutcome tx x d).field.counts = s.field.counts
      ∧ (s.orderOutcome tx x d).field.receiver = s.field.receiver
      ∧ (s.orderOutcome tx x d).field.line = s.field.line
      ∧ (s.orderOutcome tx x d).field.arrivals = s.field.arrivals
      ∧ (s.orderOutcome tx x d).field.contention = s.field.contention
      ∧ (s.orderOutcome tx x d).field.credit = s.field.credit
      ∧ (s.orderOutcome tx x d).field.scanMode = s.field.scanMode
      ∧ (s.orderOutcome tx x d).field.echo = s.field.echo
      ∧ (s.orderOutcome tx x d).field.nextTag = s.field.nextTag
      ∧ (s.orderOutcome tx x d).field.pointer = s.field.pointer
      ∧ (s.orderOutcome tx x d).field.cycle = s.field.cycle
      ∧ (s.orderOutcome tx x d).field.sweep = s.field.sweep
      ∧ (s.orderOutcome tx x d).field.replyTimeout = s.field.replyTimeout
      ∧ (s.orderOutcome tx x d).field.silentLimit = s.field.silentLimit := by
  and_intros <;> (unfold State.orderOutcome; (repeat' split) <;> (try simp))
/-- What `State.orderOutcome` leaves unchanged of the Span Supervisor. -/
@[simp] theorem State.orderOutcome_span (s : State) (tx : Transaction) (x : Result) (d : Nat) :
    (s.orderOutcome tx x d).span.record = s.span.record ∧ (s.orderOutcome tx x d).span.level = s.span.level
      ∧ (s.orderOutcome tx x d).span.lastSkew = s.span.lastSkew
      ∧ (s.orderOutcome tx x d).span.lastHold = s.span.lastHold
      ∧ (s.orderOutcome tx x d).span.holdRunning = s.span.holdRunning
      ∧ (s.orderOutcome tx x d).span.levelChanges = s.span.levelChanges := by
  and_intros <;> (unfold State.orderOutcome; (repeat' split) <;> (try simp))
/-- What `State.orderOutcome` leaves unchanged of the mode and the chain. -/
@[simp] theorem State.orderOutcome_unit (s : State) (tx : Transaction) (x : Result) (d : Nat) :
    (s.orderOutcome tx x d).unit.limits = s.unit.limits ∧ (s.orderOutcome tx x d).unit.estop = s.unit.estop
      ∧ (s.orderOutcome tx x d).unit.key = s.unit.key ∧ (s.orderOutcome tx x d).unit.locked = s.unit.locked
      ∧ (s.orderOutcome tx x d).unit.validation = s.unit.validation := by
  and_intros <;> (unfold State.orderOutcome; (repeat' split) <;> (try simp))
/-- What `State.orderOutcome` leaves unchanged of the Point Image. -/
@[simp] theorem State.orderOutcome_points (s : State) (tx : Transaction) (x : Result) (d : Nat) :
    (s.orderOutcome tx x d).points.map = s.points.map
      ∧ (s.orderOutcome tx x d).points.firstPair = s.points.firstPair
      ∧ (s.orderOutcome tx x d).points.pairLoss = s.points.pairLoss := by
  and_intros <;> (unfold State.orderOutcome; (repeat' split) <;> (try simp))

/-- The blocks `State.endOrder` leaves unchanged. -/
@[simp] theorem State.endOrder_frame (s : State) (tx : Transaction) (x : Result) (d : Nat) :
    (s.endOrder tx x d).power = s.power ∧ (s.endOrder tx x d).now = s.now
      ∧ (s.endOrder tx x d).pending = s.pending := by
  and_intros <;> (unfold State.endOrder; (try simp))
/-- What `State.endOrder` leaves unchanged of the Console Port. -/
@[simp] theorem State.endOrder_console (s : State) (tx : Transaction) (x : Result) (d : Nat) :
    (s.endOrder tx x d).console.ingress = s.console.ingress
      ∧ (s.endOrder tx x d).console.arrivals = s.console.arrivals
      ∧ (s.endOrder tx x d).console.restart = s.console.restart
      ∧ (s.endOrder tx x d).console.receiver = s.console.receiver
      ∧ (s.endOrder tx x d).console.line = s.console.line
      ∧ (s.endOrder tx x d).console.counts = s.console.counts
      ∧ (s.endOrder tx x d).console.sending = s.console.sending
      ∧ (s.endOrder tx x d).console.ingressOverflows = s.console.ingressOverflows := by
  and_intros <;> (unfold State.endOrder; (try simp))
/-- What `State.endOrder` leaves unchanged of the Order Gate. -/
@[simp] theorem State.endOrder_gate (s : State) (tx : Transaction) (x : Result) (d : Nat) :
    (s.endOrder tx x d).gate.permits = s.gate.permits ∧ (s.endOrder tx x d).gate.orders = s.gate.orders
      ∧ (s.endOrder tx x d).gate.held = s.gate.held := by
  and_intros <;> (unfold State.endOrder; (try simp))
/-- What `State.endOrder` leaves unchanged of the Crossing Sequencer. -/
@[simp] theorem State.endOrder_seq (s : State) (tx : Transaction) (x : Result) (d : Nat) :
    (s.endOrder tx x d).seq.table = s.seq.table := by
  unfold State.endOrder; (try simp)
/-- What `State.endOrder` leaves unchanged of the Channel Controller. -/
@[simp] theorem State.endOrder_chan (s : State) (tx : Transaction) (x : Result) (d : Nat) :
    (s.endOrder tx x d).chan.record = s.chan.record
      ∧ (s.endOrder tx x d).chan.ignoredCalls = s.chan.ignoredCalls
      ∧ (s.endOrder tx x d).chan.badDirections = s.chan.badDirections
      ∧ (s.endOrder tx x d).chan.unexpectedPassages = s.chan.unexpectedPassages := by
  and_intros <;> (unfold State.endOrder; (try simp))
/-- What `State.endOrder` leaves unchanged of the Condition Evaluator. -/
@[simp] theorem State.endOrder_cond (s : State) (tx : Transaction) (x : Result) (d : Nat) :
    (s.endOrder tx x d).cond.table = s.cond.table := by
  unfold State.endOrder; (try simp)
/-- What `State.endOrder` leaves unchanged of the Field Engine; the receiver is in HUNTING (02:R19). -/
@[simp] theorem State.endOrder_field (s : State) (tx : Transaction) (x : Result) (d : Nat) :
    (s.endOrder tx x d).field.scanList = s.field.scanList ∧ (s.endOrder tx x d).field.nodes = s.field.nodes
      ∧ (s.endOrder tx x d).field.counts = s.field.counts ∧ (s.endOrder tx x d).field.receiver = .hunting
      ∧ (s.endOrder tx x d).field.line = s.field.line
      ∧ (s.endOrder tx x d).field.arrivals = s.field.arrivals
      ∧ (s.endOrder tx x d).field.credit = s.field.credit
      ∧ (s.endOrder tx x d).field.scanMode = s.field.scanMode
      ∧ (s.endOrder tx x d).field.echo = s.field.echo ∧ (s.endOrder tx x d).field.nextTag = s.field.nextTag
      ∧ (s.endOrder tx x d).field.pointer = s.field.pointer
      ∧ (s.endOrder tx x d).field.cycle = s.field.cycle ∧ (s.endOrder tx x d).field.sweep = s.field.sweep
      ∧ (s.endOrder tx x d).field.replyTimeout = s.field.replyTimeout
      ∧ (s.endOrder tx x d).field.silentLimit = s.field.silentLimit := by
  and_intros <;> (unfold State.endOrder; (try simp))
/-- What `State.endOrder` leaves unchanged of the Span Supervisor. -/
@[simp] theorem State.endOrder_span (s : State) (tx : Transaction) (x : Result) (d : Nat) :
    (s.endOrder tx x d).span.record = s.span.record ∧ (s.endOrder tx x d).span.level = s.span.level
      ∧ (s.endOrder tx x d).span.lastSkew = s.span.lastSkew
      ∧ (s.endOrder tx x d).span.lastHold = s.span.lastHold
      ∧ (s.endOrder tx x d).span.holdRunning = s.span.holdRunning
      ∧ (s.endOrder tx x d).span.levelChanges = s.span.levelChanges := by
  and_intros <;> (unfold State.endOrder; (try simp))
/-- What `State.endOrder` leaves unchanged of the mode and the chain. -/
@[simp] theorem State.endOrder_unit (s : State) (tx : Transaction) (x : Result) (d : Nat) :
    (s.endOrder tx x d).unit.limits = s.unit.limits ∧ (s.endOrder tx x d).unit.estop = s.unit.estop
      ∧ (s.endOrder tx x d).unit.key = s.unit.key ∧ (s.endOrder tx x d).unit.locked = s.unit.locked
      ∧ (s.endOrder tx x d).unit.validation = s.unit.validation := by
  and_intros <;> (unfold State.endOrder; (try simp))
/-- What `State.endOrder` leaves unchanged of the Point Image. -/
@[simp] theorem State.endOrder_points (s : State) (tx : Transaction) (x : Result) (d : Nat) :
    (s.endOrder tx x d).points.map = s.points.map
      ∧ (s.endOrder tx x d).points.firstPair = s.points.firstPair
      ∧ (s.endOrder tx x d).points.pairLoss = s.points.pairLoss := by
  and_intros <;> (unfold State.endOrder; (try simp))

/-- The blocks `State.cutOutcome` leaves unchanged. -/
@[simp] theorem State.cutOutcome_frame (s : State) (tx : Option Transaction) :
    (s.cutOutcome tx).power = s.power ∧ (s.cutOutcome tx).now = s.now
      ∧ (s.cutOutcome tx).pending = s.pending := by
  and_intros <;> (unfold State.cutOutcome; (repeat' split) <;> (try simp))
/-- What `State.cutOutcome` leaves unchanged of the Console Port. -/
@[simp] theorem State.cutOutcome_console (s : State) (tx : Option Transaction) :
    (s.cutOutcome tx).console.ingress = s.console.ingress
      ∧ (s.cutOutcome tx).console.arrivals = s.console.arrivals
      ∧ (s.cutOutcome tx).console.restart = s.console.restart
      ∧ (s.cutOutcome tx).console.receiver = s.console.receiver
      ∧ (s.cutOutcome tx).console.line = s.console.line
      ∧ (s.cutOutcome tx).console.counts = s.console.counts
      ∧ (s.cutOutcome tx).console.sending = s.console.sending
      ∧ (s.cutOutcome tx).console.ingressOverflows = s.console.ingressOverflows := by
  and_intros <;> (unfold State.cutOutcome; (repeat' split) <;> (try simp))
/-- What `State.cutOutcome` leaves unchanged of the Order Gate. -/
@[simp] theorem State.cutOutcome_gate (s : State) (tx : Option Transaction) :
    (s.cutOutcome tx).gate.permits = s.gate.permits ∧ (s.cutOutcome tx).gate.orders = s.gate.orders
      ∧ (s.cutOutcome tx).gate.held = s.gate.held := by
  and_intros <;> (unfold State.cutOutcome; (repeat' split) <;> (try simp))
/-- What `State.cutOutcome` leaves unchanged of the Crossing Sequencer. -/
@[simp] theorem State.cutOutcome_seq (s : State) (tx : Option Transaction) :
    (s.cutOutcome tx).seq.table = s.seq.table := by
  unfold State.cutOutcome; (repeat' split) <;> (try simp)
/-- What `State.cutOutcome` leaves unchanged of the Channel Controller. -/
@[simp] theorem State.cutOutcome_chan (s : State) (tx : Option Transaction) :
    (s.cutOutcome tx).chan.record = s.chan.record
      ∧ (s.cutOutcome tx).chan.ignoredCalls = s.chan.ignoredCalls
      ∧ (s.cutOutcome tx).chan.badDirections = s.chan.badDirections
      ∧ (s.cutOutcome tx).chan.unexpectedPassages = s.chan.unexpectedPassages := by
  and_intros <;> (unfold State.cutOutcome; (repeat' split) <;> (try simp))
/-- What `State.cutOutcome` leaves unchanged of the Condition Evaluator. -/
@[simp] theorem State.cutOutcome_cond (s : State) (tx : Option Transaction) :
    (s.cutOutcome tx).cond.table = s.cond.table := by
  unfold State.cutOutcome; (repeat' split) <;> (try simp)
/-- What `State.cutOutcome` leaves unchanged of the Field Engine. -/
@[simp] theorem State.cutOutcome_field (s : State) (tx : Option Transaction) :
    (s.cutOutcome tx).field.scanList = s.field.scanList ∧ (s.cutOutcome tx).field.tx = s.field.tx
      ∧ (s.cutOutcome tx).field.link = s.field.link ∧ (s.cutOutcome tx).field.nodes = s.field.nodes
      ∧ (s.cutOutcome tx).field.counts = s.field.counts
      ∧ (s.cutOutcome tx).field.receiver = s.field.receiver ∧ (s.cutOutcome tx).field.line = s.field.line
      ∧ (s.cutOutcome tx).field.arrivals = s.field.arrivals
      ∧ (s.cutOutcome tx).field.contention = s.field.contention
      ∧ (s.cutOutcome tx).field.credit = s.field.credit
      ∧ (s.cutOutcome tx).field.scanMode = s.field.scanMode ∧ (s.cutOutcome tx).field.echo = s.field.echo
      ∧ (s.cutOutcome tx).field.nextTag = s.field.nextTag
      ∧ (s.cutOutcome tx).field.pointer = s.field.pointer ∧ (s.cutOutcome tx).field.cycle = s.field.cycle
      ∧ (s.cutOutcome tx).field.sweep = s.field.sweep
      ∧ (s.cutOutcome tx).field.replyTimeout = s.field.replyTimeout
      ∧ (s.cutOutcome tx).field.silentLimit = s.field.silentLimit := by
  and_intros <;> (unfold State.cutOutcome; (repeat' split) <;> (try simp))
/-- What `State.cutOutcome` leaves unchanged of the Span Supervisor. -/
@[simp] theorem State.cutOutcome_span (s : State) (tx : Option Transaction) :
    (s.cutOutcome tx).span.record = s.span.record ∧ (s.cutOutcome tx).span.level = s.span.level
      ∧ (s.cutOutcome tx).span.lastSkew = s.span.lastSkew
      ∧ (s.cutOutcome tx).span.lastHold = s.span.lastHold
      ∧ (s.cutOutcome tx).span.holdRunning = s.span.holdRunning
      ∧ (s.cutOutcome tx).span.levelChanges = s.span.levelChanges := by
  and_intros <;> (unfold State.cutOutcome; (repeat' split) <;> (try simp))
/-- What `State.cutOutcome` leaves unchanged of the mode and the chain. -/
@[simp] theorem State.cutOutcome_unit (s : State) (tx : Option Transaction) :
    (s.cutOutcome tx).unit.limits = s.unit.limits ∧ (s.cutOutcome tx).unit.estop = s.unit.estop
      ∧ (s.cutOutcome tx).unit.key = s.unit.key ∧ (s.cutOutcome tx).unit.locked = s.unit.locked
      ∧ (s.cutOutcome tx).unit.validation = s.unit.validation := by
  and_intros <;> (unfold State.cutOutcome; (repeat' split) <;> (try simp))
/-- What `State.cutOutcome` leaves unchanged of the Point Image. -/
@[simp] theorem State.cutOutcome_points (s : State) (tx : Option Transaction) :
    (s.cutOutcome tx).points.map = s.points.map ∧ (s.cutOutcome tx).points.firstPair = s.points.firstPair
      ∧ (s.cutOutcome tx).points.pairLoss = s.points.pairLoss := by
  and_intros <;> (unfold State.cutOutcome; (repeat' split) <;> (try simp))

/-- The blocks `State.beginBreak` leaves unchanged. -/
@[simp] theorem State.beginBreak_frame (s : State) :
    (s.beginBreak).power = s.power ∧ (s.beginBreak).now = s.now ∧ (s.beginBreak).pending = s.pending := by
  and_intros <;> (unfold State.beginBreak; (try dsimp only); (try simp))
/-- What `State.beginBreak` leaves unchanged of the Console Port. -/
@[simp] theorem State.beginBreak_console (s : State) :
    (s.beginBreak).console.ingress = s.console.ingress
      ∧ (s.beginBreak).console.arrivals = s.console.arrivals
      ∧ (s.beginBreak).console.restart = s.console.restart
      ∧ (s.beginBreak).console.receiver = s.console.receiver ∧ (s.beginBreak).console.line = s.console.line
      ∧ (s.beginBreak).console.counts = s.console.counts
      ∧ (s.beginBreak).console.sending = s.console.sending
      ∧ (s.beginBreak).console.ingressOverflows = s.console.ingressOverflows := by
  and_intros <;> (unfold State.beginBreak; (try dsimp only); (try simp))
/-- What `State.beginBreak` leaves unchanged of the Order Gate. -/
@[simp] theorem State.beginBreak_gate (s : State) :
    (s.beginBreak).gate.permits = s.gate.permits ∧ (s.beginBreak).gate.orders = s.gate.orders
      ∧ (s.beginBreak).gate.held = s.gate.held := by
  and_intros <;> (unfold State.beginBreak; (try dsimp only); (try simp))
/-- What `State.beginBreak` leaves unchanged of the Crossing Sequencer. -/
@[simp] theorem State.beginBreak_seq (s : State) :
    (s.beginBreak).seq.table = s.seq.table := by
  unfold State.beginBreak; (try dsimp only); (try simp)
/-- What `State.beginBreak` leaves unchanged of the Channel Controller. -/
@[simp] theorem State.beginBreak_chan (s : State) :
    (s.beginBreak).chan.record = s.chan.record
      ∧ (s.beginBreak).chan.ignoredCalls = s.chan.ignoredCalls
      ∧ (s.beginBreak).chan.badDirections = s.chan.badDirections
      ∧ (s.beginBreak).chan.unexpectedPassages = s.chan.unexpectedPassages := by
  and_intros <;> (unfold State.beginBreak; (try dsimp only); (try simp))
/-- What `State.beginBreak` leaves unchanged of the Condition Evaluator. -/
@[simp] theorem State.beginBreak_cond (s : State) :
    (s.beginBreak).cond.table = s.cond.table := by
  unfold State.beginBreak; (try dsimp only); (try simp)
/-- What `State.beginBreak` leaves unchanged of the Field Engine. -/
@[simp] theorem State.beginBreak_field (s : State) :
    (s.beginBreak).field.scanList = s.field.scanList ∧ (s.beginBreak).field.nodes = s.field.nodes
      ∧ (s.beginBreak).field.counts = s.field.counts ∧ (s.beginBreak).field.line = s.field.line
      ∧ (s.beginBreak).field.contention = s.field.contention ∧ (s.beginBreak).field.credit = s.field.credit
      ∧ (s.beginBreak).field.scanMode = s.field.scanMode ∧ (s.beginBreak).field.echo = s.field.echo
      ∧ (s.beginBreak).field.nextTag = s.field.nextTag ∧ (s.beginBreak).field.pointer = s.field.pointer
      ∧ (s.beginBreak).field.cycle = s.field.cycle ∧ (s.beginBreak).field.sweep = s.field.sweep
      ∧ (s.beginBreak).field.replyTimeout = s.field.replyTimeout
      ∧ (s.beginBreak).field.silentLimit = s.field.silentLimit := by
  and_intros <;> (unfold State.beginBreak; (try dsimp only); (try simp))
/-- What `State.beginBreak` leaves unchanged of the Span Supervisor. -/
@[simp] theorem State.beginBreak_span (s : State) :
    (s.beginBreak).span.record = s.span.record ∧ (s.beginBreak).span.level = s.span.level
      ∧ (s.beginBreak).span.lastSkew = s.span.lastSkew ∧ (s.beginBreak).span.lastHold = s.span.lastHold
      ∧ (s.beginBreak).span.holdRunning = s.span.holdRunning
      ∧ (s.beginBreak).span.levelChanges = s.span.levelChanges := by
  and_intros <;> (unfold State.beginBreak; (try dsimp only); (try simp))
/-- What `State.beginBreak` leaves unchanged of the mode and the chain. -/
@[simp] theorem State.beginBreak_unit (s : State) :
    (s.beginBreak).unit.limits = s.unit.limits ∧ (s.beginBreak).unit.estop = s.unit.estop
      ∧ (s.beginBreak).unit.key = s.unit.key ∧ (s.beginBreak).unit.locked = s.unit.locked
      ∧ (s.beginBreak).unit.validation = s.unit.validation := by
  and_intros <;> (unfold State.beginBreak; (try dsimp only); (try simp))
/-- What `State.beginBreak` leaves unchanged of the Point Image. -/
@[simp] theorem State.beginBreak_points (s : State) :
    (s.beginBreak).points.map = s.points.map ∧ (s.beginBreak).points.firstPair = s.points.firstPair
      ∧ (s.beginBreak).points.pairLoss = s.points.pairLoss := by
  and_intros <;> (unfold State.beginBreak; (try dsimp only); (try simp))

/-- The blocks `State.clearCauses` leaves unchanged. -/
@[simp] theorem State.clearCauses_frame (s : State) (c : CauseSet) :
    (s.clearCauses c).power = s.power ∧ (s.clearCauses c).now = s.now
      ∧ (s.clearCauses c).pending = s.pending ∧ (s.clearCauses c).field = s.field
      ∧ (s.clearCauses c).span = s.span := by
  and_intros <;> (unfold State.clearCauses ModeChain.settleChain; split <;> (try simp))
/-- What `State.clearCauses` leaves unchanged of the Console Port. -/
@[simp] theorem State.clearCauses_console (s : State) (c : CauseSet) :
    (s.clearCauses c).console.ingress = s.console.ingress
      ∧ (s.clearCauses c).console.arrivals = s.console.arrivals
      ∧ (s.clearCauses c).console.restart = s.console.restart
      ∧ (s.clearCauses c).console.receiver = s.console.receiver
      ∧ (s.clearCauses c).console.line = s.console.line
      ∧ (s.clearCauses c).console.counts = s.console.counts
      ∧ (s.clearCauses c).console.sending = s.console.sending
      ∧ (s.clearCauses c).console.ingressOverflows = s.console.ingressOverflows := by
  and_intros <;> (unfold State.clearCauses ModeChain.settleChain; split <;> (try simp))
/-- What `State.clearCauses` leaves unchanged of the Order Gate. -/
@[simp] theorem State.clearCauses_gate (s : State) (c : CauseSet) :
    (s.clearCauses c).gate.permits = s.gate.permits ∧ (s.clearCauses c).gate.orders = s.gate.orders
      ∧ (s.clearCauses c).gate.held = s.gate.held ∧ (s.clearCauses c).gate.own = s.gate.own
      ∧ (s.clearCauses c).gate.standdowns = s.gate.standdowns := by
  and_intros <;> (unfold State.clearCauses ModeChain.settleChain; split <;> (try simp))
/-- What `State.clearCauses` leaves unchanged of the Crossing Sequencer. -/
@[simp] theorem State.clearCauses_seq (s : State) (c : CauseSet) :
    (s.clearCauses c).seq.table = s.seq.table ∧ (s.clearCauses c).seq.phase = s.seq.phase
      ∧ (s.clearCauses c).seq.standdowns = s.seq.standdowns ∧ (s.clearCauses c).seq.serial = s.seq.serial
      ∧ (s.clearCauses c).seq.tracking = s.seq.tracking
      ∧ (s.clearCauses c).seq.interrupted = s.seq.interrupted
      ∧ (s.clearCauses c).seq.request = s.seq.request ∧ (s.clearCauses c).seq.recovery = s.seq.recovery
      ∧ (s.clearCauses c).seq.dwell = s.seq.dwell ∧ (s.clearCauses c).seq.limit = s.seq.limit := by
  and_intros <;> (unfold State.clearCauses ModeChain.settleChain; split <;> (try simp))
/-- What `State.clearCauses` leaves unchanged of the Channel Controller. -/
@[simp] theorem State.clearCauses_chan (s : State) (c : CauseSet) :
    (s.clearCauses c).chan.record = s.chan.record ∧ (s.clearCauses c).chan.vessels = s.chan.vessels
      ∧ (s.clearCauses c).chan.state = s.chan.state ∧ (s.clearCauses c).chan.north = s.chan.north
      ∧ (s.clearCauses c).chan.south = s.chan.south ∧ (s.clearCauses c).chan.closing = s.chan.closing
      ∧ (s.clearCauses c).chan.phaseSeen = s.chan.phaseSeen
      ∧ (s.clearCauses c).chan.standdowns = s.chan.standdowns
      ∧ (s.clearCauses c).chan.changeoverPending = s.chan.changeoverPending
      ∧ (s.clearCauses c).chan.greenTimer = s.chan.greenTimer
      ∧ (s.clearCauses c).chan.changeoverTimer = s.chan.changeoverTimer
      ∧ (s.clearCauses c).chan.retryTimer = s.chan.retryTimer
      ∧ (s.clearCauses c).chan.greenExpired = s.chan.greenExpired
      ∧ (s.clearCauses c).chan.ignoredCalls = s.chan.ignoredCalls
      ∧ (s.clearCauses c).chan.badDirections = s.chan.badDirections
      ∧ (s.clearCauses c).chan.unexpectedPassages = s.chan.unexpectedPassages := by
  and_intros <;> (unfold State.clearCauses ModeChain.settleChain; split <;> (try simp))
/-- What `State.clearCauses` leaves unchanged of the Condition Evaluator. -/
@[simp] theorem State.clearCauses_cond (s : State) (c : CauseSet) :
    (s.clearCauses c).cond.table = s.cond.table
      ∧ (s.clearCauses c).cond.counterChanges = s.cond.counterChanges := by
  and_intros <;> (unfold State.clearCauses ModeChain.settleChain; split <;> (try simp))
/-- What `State.clearCauses` leaves unchanged of the mode and the chain. -/
@[simp] theorem State.clearCauses_unit (s : State) (c : CauseSet) :
    (s.clearCauses c).unit.mode = s.unit.mode ∧ (s.clearCauses c).unit.limits = s.unit.limits
      ∧ (s.clearCauses c).unit.estop = s.unit.estop ∧ (s.clearCauses c).unit.key = s.unit.key
      ∧ (s.clearCauses c).unit.locked = s.unit.locked
      ∧ (s.clearCauses c).unit.validation = s.unit.validation
      ∧ (s.clearCauses c).unit.maintenancePending = s.unit.maintenancePending := by
  and_intros <;> (unfold State.clearCauses ModeChain.settleChain; split <;> (try simp))
/-- What `State.clearCauses` leaves unchanged of the Point Image. -/
@[simp] theorem State.clearCauses_points (s : State) (c : CauseSet) :
    (s.clearCauses c).points.map = s.points.map ∧ (s.clearCauses c).points.firstPair = s.points.firstPair
      ∧ (s.clearCauses c).points.pairLoss = s.points.pairLoss := by
  and_intros <;> (unfold State.clearCauses ModeChain.settleChain; split <;> (try simp))
/-- What `State.clearCauses` leaves unchanged of the Duty Counter Unit. -/
@[simp] theorem State.clearCauses_duty (s : State) (c : CauseSet) :
    (s.clearCauses c).duty.residency = s.duty.residency
      ∧ (s.clearCauses c).duty.occupancy = s.duty.occupancy
      ∧ (s.clearCauses c).duty.standing = s.duty.standing ∧ (s.clearCauses c).duty.phase = s.duty.phase
      ∧ (s.clearCauses c).duty.frozen = s.duty.frozen ∧ (s.clearCauses c).duty.bands = s.duty.bands
      ∧ (s.clearCauses c).duty.counters = s.duty.counters := by
  and_intros <;> (unfold State.clearCauses ModeChain.settleChain; split <;> (try simp))

end Sys2Proof.Machine
end

