-- ==== Sys2Proof/Laws/Shapes.lean ====
section
/-! SUPPORT. The machine's lookups against the shapes of Safety.lean that spell them. -/

namespace Sys2Proof.Machine

/-- The hoist START that an order is (05:R78). -/
theorem State.startOf_eq_some (s : State) (n c : Nat) (x : Tower) (up : Bool) :
    s.startOf n c = some (x, up) ↔ IsStart s n c x up := by
  unfold State.startOf IsStart
  cases h : s.span.record <;> cases x <;> cases up <;> simp [SpanRecord.startOf] <;> grind

/-- An order that is no hoist START. -/
theorem State.startOf_eq_none (s : State) (n c : Nat) : s.startOf n c = none ↔ ∀ x up, ¬IsStart s n c x up := by
  rw [Option.eq_none_iff_forall_ne_some]
  exact ⟨fun h x up g => h (x, up) ((s.startOf_eq_some n c x up).mpr g),
    fun h a g => h a.1 a.2 ((s.startOf_eq_some n c a.1 a.2).mp g)⟩

/-- The signal that an order is addressed to (08:R143, R145). -/
theorem State.signalOf_eq_some (s : State) (n c : Nat) (d : Direction) : s.signalOf n c = some d ↔ IsSignal s n c d := by
  unfold State.signalOf IsSignal
  cases h : s.chan.record <;> cases d <;> simp [ChannelRecord.signalOf] <;> grind

/-- An order that is no signal order. -/
theorem State.signalOf_eq_none (s : State) (n c : Nat) : s.signalOf n c = none ↔ ∀ d, ¬IsSignal s n c d := by
  rw [Option.eq_none_iff_forall_ne_some]
  exact ⟨fun h d g => h d ((s.signalOf_eq_some n c d).mpr g), fun h d g => h d ((s.signalOf_eq_some n c d).mp g)⟩

/-- The field receiver takes characters while its line is at mark and the link state is none of SENDING, BREAK and TURNAROUND
(01:R8, R10, R11; 02:R19). -/
theorem State.hears_field (s : State) :
    s.hears .field = true ↔
      s.field.line = .mark ∧ s.field.link ≠ .sending ∧ s.field.link ≠ .breaking ∧ s.field.link ≠ .turnaround := by
  simp [State.hears, State.listens, and_assoc]

/-- In TURNAROUND the field receiver assembles nothing (02:R19). -/
theorem State.assembly_turnaround (s : State) (h : s.field.link = .turnaround) : s.assembly .field = none := by
  simp [State.assembly, State.hears, h]

/-- A close offers a RED exactly where the signal does not show RED (08:R152). -/
theorem Signal.needsRed_iff (g : Signal) : g.needsRed = true ↔ ¬SignalRed g := by
  rcases g with ⟨_ | ⟨_, _⟩, _, _⟩ <;>
    simp [Signal.needsRed, Signal.redDone, Signal.hasOwn, SignalRed, Decidable.imp_iff_not_or]

/-- A walk that marks no condition leaves the state as it is (04:R66, R68). -/
theorem Walks.refl (s : State) (marked : Nat → Prop) (h : ∀ n, ¬marked n) : Walks s s marked := by
  refine ⟨⟨⟨[], by simp, by simp⟩, by cases s; rfl⟩, [], ⟨List.Pairwise.nil, by intro n b; simp⟩,
    ⟨by simp, by simp, by simp, by simp, by simp⟩, fun _ n _ => ⟨fun g => ?_, fun _ _ => rfl⟩⟩
  rcases g with g | ⟨_, _, _, _, g⟩
  · exact absurd g (h n)
  · exact absurd rfl g

/-- The kinds and lengths that a link admits (01:R7). -/
theorem lengthAllowed_iff (l : Link) (kind : Byte) (n : Nat) : lengthAllowed l kind n = true ↔ LengthFits l kind n := by
  cases l <;> simp [lengthAllowed, payloadMax, inwardLength, LengthFits, Config.consolePayloadMax, Config.fieldPayloadMax,
    kindConsoleOrder, kindRequest, kindMotionHold, kindReply, kindAck, kindNak] <;> grind

/-- A length that a link does not admit. -/
theorem lengthAllowed_false (l : Link) (kind : Byte) (n : Nat) :
    lengthAllowed l kind n = false ↔ ¬LengthFits l kind n := by
  rw [← lengthAllowed_iff]; simp

end Sys2Proof.Machine
end

