-- ==== Sys2Proof/Tests/Slice0.lean ====
section
/-!
SUPPORT. Tests: values worked out in spec/, and for each statement with hypotheses a witness, a concrete state and operands
that meet them, at the bounds of each clause. WellFormed checks nothing beyond the types, so it has no ill-formed term.
-/

open Sys2Proof Sys2Proof.Machine

namespace Sys2Proof.Tests

set_option Elab.async false

/-! ### Helpers -/

/-- The next state of an outcome. -/
def nextOf : Host.Outcome State Fault Refusal → Option State
  | .next t => some t
  | .fault _ => none
  | .refused _ => none

/-- The state after a command; reset where there is none. -/
def after1 (c : Instr) (s : State) : State := (nextOf (exec c s)).getD State.reset

/-- Commands run in order. -/
def run (cs : List Instr) (s : State) : State := cs.foldl (fun s c => after1 c s) s

/-- The commands by which a frame arrives on a link, character by character (01:R4). -/
def arrive (l : Link) (f : Frame) : List Instr :=
  match f.wire with
  | [] => []
  | k :: rest =>
    .validCharacter l true k :: (rest.dropLast.map (Instr.validCharacter l false)) ++ [.frameComplete l (rest.getLastD 0)]

def onConsole (s : State) (f : Console → Console) : State := s.setConsole (f s.console)
def onField (s : State) (f : Field → Field) : State := s.setField (f s.field)
def onGate (s : State) (f : Gate → Gate) : State := s.setGate (f s.gate)
def onSpan (s : State) (f : Span → Span) : State := s.setSpan (f s.span)
def onSeq (s : State) (f : Sequencer → Sequencer) : State := s.setSeq (f s.seq)
def onChan (s : State) (f : Channel → Channel) : State := s.setChan (f s.chan)
def onUnit (s : State) (f : ModeChain → ModeChain) : State := s.setUnit (f s.unit)
def onCond (s : State) (f : Conditions → Conditions) : State := s.setCond (f s.cond)
def onDuty (s : State) (f : Duty → Duty) : State := s.setDuty (f s.duty)
def inMode (m : Mode) (s : State) : State := onUnit s fun u => { u with mode := m }

/-- A limit record whose fields lie in their ranges. -/
def limits : LimitRecord :=
  { eTrk := 50, xTrk := 80, lTol := 25, aSkew := 200, tSkew := 400, nTrk := 4, nLvl := 8, uMax := 50, window := 30
    missLimit := 4, holdInterval := 300, stopLimit := 8, z1 := { bound := 80000, speed := 3000 }
    z2 := { bound := 80000, speed := 3000 }, z3 := { bound := 80000, speed := 3000 }, z4 := { bound := 80000, speed := 3000 } }

/-- A span record whose fields lie in their ranges. -/
def spanRecord : SpanRecord :=
  { a := { encoder := 0, zero := 12345, scale := 1600, negative := false, hoist := 51 }
    b := { encoder := 1, zero := 20000, scale := 1600, negative := false, hoist := 52 }
    startUp := 1, startDown := 2, stop := 3, trim := 4, gainAcquire := 96, gainTrack := 32, deadband := 1, top := 60000
    seat := 0, arrival := 100, startWindow := 500, stallLimit := 10, stallGrace := 1000, standstill := 5, b1 := 100
    b2 := 200, b3 := 300, b4 := 400 }

/-- A channel record whose fields lie in their ranges. -/
def channelRecord : ChannelRecord :=
  { northNode := 61, southNode := 62, cls := 9, northPassage := 20, southPassage := 21, changeover := 30, greenLimit := 600 }

/-- A permit for a class to every node, clamping to 0 to 100, holding for 5 s, with every flag. -/
def permit (cls : Nat) : Permit :=
  { node := none, cls := cls, argMin := 0, argMax := 100, clamp := true, required := [], hold := true, holdLimit := 5
    maint := true, standdown := true, owned := true }

/-- The permit stands alone in the table, as entry 0. -/
def permits (p : Permit) : Vector (Option Permit) 96 := put (Vector.replicate 96 none) 0 (some p)

/-- A signal whose last order was a RED that was DONE. -/
def redSignal : Signal := { memory := some { kind := .red, result := .done }, redWanted := false, outstanding := [] }

/-- A phase entry with a dwell. -/
def phaseOf (orders : List EntryOrder) : PhaseEntry :=
  { orders := orders, advance := none, dwell := 100, limit := 0, proof := none }

/-- SERVICE, with the records in place, both signals RED and one permit of class 9; time stands at 1000 ms. -/
def service : State :=
  { State.reset with
    now := 1000
    unit := { ModeChain.reset with mode := .service, chain := true, limits := some limits }
    span := { Span.reset with record := some spanRecord }
    chan := { Channel.reset with record := some channelRecord, north := redSignal, south := redSignal }
    gate := { Gate.reset with permits := permits (permit 9) } }

/-- A crossing in phase p, its dwell running, with an entry for phase q. -/
def inPhase (p q : Phase) (orders : List EntryOrder) : State :=
  onSeq service fun x =>
    { x with phase := p, dwell := .running 5000, table := put x.table q.num (some (phaseOf orders)) }

/-- A request stands alone in the ingress queue. -/
def request (payload : List Byte) : Frame := { kind := 2, node := 0, tag := 7, payload := payload }
def asked (s : State) (f : Frame) : State := onConsole s fun c => { c with ingress := [f] }

/-- An ORDER to node 30 of class 9. -/
def orderFrame (arg : List Byte) : Frame := { kind := 1, node := 30, tag := 8, payload := 9 :: arg }

/-- A console order to a node of class 9. -/
def order (node : Nat) (required : List Nat) : OrderRecord :=
  { origin := .console 9, node := node, cls := 9, arg := 5, clamped := false, entry := 0, required := required
    deadline := none, memory := none }

/-- The transaction of that order. -/
def orderTx (abandoned : Nat) : Transaction :=
  { source := .order (order 30 []), node := 30, cls := 9, arg := 5, tag := 3, abandoned := abandoned, transmitted := true }

/-- A link that awaits an answer until 900. -/
def awaiting (tx : Transaction) (arrivals : List Arrival) : State :=
  onField service fun f => { f with link := .awaiting 900, tx := some tx, arrivals := arrivals }

def answer (kind node : Byte) : Arrival := { frame := { kind := kind, node := node, tag := 3, payload := [] }, time := 990 }

def vessel (tag : Nat) (d : Direction) (cleared : Bool) : Vessel :=
  { tag := tag, direction := d, arrival := 10, cleared := cleared }

/-- Whether a state answers a request with this status, at the end of its egress queue. -/
def lastPayload (s : State) : List Byte := (s.console.egress.getLast?.map Frame.payload).getD []

/-- An entry in the first place of a table is its first match. -/
theorem matches_first (v : Vector (Option Permit) 96) (node cls : Nat) (p : Permit) (h : look v 0 none = some p)
    (g : Governs p node cls) : Matches v node cls 0 p :=
  ⟨h, g, fun m _ hm => absurd hm (Nat.not_lt_zero m)⟩

theorem governs_any (cls node : Nat) (h : 1 ≤ node) (h' : node ≤ 100) : Governs (permit cls) node cls :=
  ⟨rfl, .inr ⟨rfl, h, h'⟩⟩

/-- A state with no channel record and no span record gives no order a meaning of its own. -/
theorem matches_service (cls : Nat) : Matches (permits (permit cls)) 30 cls 0 (permit cls) :=
  matches_first _ _ _ _ (by simp [permits]) (governs_any cls 30 (by decide) (by decide))

/-! ### Values worked out in spec/ -/

/-- 01:R3: the check of the ASCII digits 1 to 9. -/
theorem test_check_of_nine_digits : (frameCheck [0x31, 0x32, 0x33, 0x34, 0x35, 0x36, 0x37, 0x38, 0x39]).toNat = 10673 := by
  decide +kernel

/-- 06, the worked example of a height and its trims. -/
theorem test_trim_values : trimOf 88 96 50 = 33 ∧ trimOf (-88) 96 50 = -33 ∧ trimOf 1000 96 50 = 50 := by decide +kernel

/-- 06, the worked example continued: a tie goes away from zero, in either sense. -/
theorem test_trim_ties : trimOf 92 96 50 = 35 ∧ trimOf (-3) 128 50 = -2 ∧ trimOf 3 128 50 = 2 := by decide +kernel

/-- 03, section 3.8: the map entry of the worked example. -/
def exampleEntry : PointEntry :=
  { node := 7, offset := 2, width := .bit, bitIndex := 3, invert := false, debounce := 2, staleLimit := 3 }

/-- A reply of the worked example: a reading of 0 or 1, or a payload of length 2. -/
def exampleReply : Option Bool → List Byte
  | some true => [0, 0, 8, 0]
  | some false => [0, 0, 0, 0]
  | none => [0, 0]

/-- The point through the replies of the worked example, with each value, freshness and age. -/
def exampleRun : Point → List (Option (Option Bool)) → List (Int × Freshness × Nat)
  | _, [] => []
  | p, x :: xs =>
    let q := match x with
      | some r => p.onReply exampleEntry (exampleReply r) 0
      | none => p.miss 3
    (q.value, q.freshness, q.age) :: exampleRun q xs

/-- 03, section 3.8: the table of the worked example, row by row. -/
theorem test_debounce_example :
    exampleRun Point.first
      [some (some true), some (some true), some (some true), some (some false), none, some (some false), some (some false),
        some (some true), some (some false), some (some false), some (some false), none, none, none, some none,
        some (some false), some (some false), some (some false)] =
      [(0, .never, 0), (0, .never, 0), (1, .fresh, 0), (1, .fresh, 0), (1, .fresh, 1), (1, .fresh, 0), (1, .fresh, 0),
        (1, .fresh, 0), (1, .fresh, 0), (1, .fresh, 0), (0, .fresh, 0), (0, .fresh, 1), (0, .fresh, 2), (0, .stale, 3),
        (0, .stale, 4), (0, .stale, 0), (0, .stale, 0), (0, .fresh, 0)] := by decide +kernel

/-- 02, section 2.5: the scan list of the worked example. -/
def exampleScan : Vector (Option ScanSlot) 32 :=
  [(0, 41, 1), (1, 7, 2), (2, 42, 1), (3, 22, 4), (4, 41, 1)].foldl
    (fun v x => put v x.1 (some { node := x.2.1, divisor := x.2.2, enabled := true })) (Vector.replicate 32 none)

/-- The nodes of the next polls, from a pointer and a cycle count. -/
def examplePolls : Nat → Nat → Nat → List Nat
  | 0, _, _ => []
  | k + 1, pointer, cycle =>
    match continuousSearch exampleScan 841 pointer cycle with
    | some x => ((look exampleScan x.slot none).map ScanSlot.node).getD 0 :: examplePolls k (x.slot + 1) x.cycle
    | none => []

/-- 02, section 2.5: the polls of the first five cycles. -/
theorem test_scan_example :
    examplePolls 20 0 0 = [41, 7, 42, 22, 41, 41, 42, 41, 41, 7, 42, 41, 41, 42, 41, 41, 7, 42, 22, 41] := by
  decide +kernel

/-- 06:R103: 400,000 counts at 100 µm a count are 40,000 mm; below the range the height is saturated and marked. -/
theorem test_height : spanRecord.a.height 412345 = 40000 ∧ spanRecord.a.outOfRange 412345 = false
    ∧ ({ spanRecord.a with zero := 16777215 } : TowerRecord).height 0 = -5000 := by decide +kernel

/-- 01:R4, R13: an OPEN request that arrives character by character joins the ingress queue. -/
theorem test_frame_arrives :
    (run (arrive .console (request [15]) ++ [.consoleFrameReceived]) State.reset).console.ingress = [request [15]] := by
  decide +kernel

/-- 10:R173: the key on in INIT begins MAINTENANCE and energises the CHAIN output, after 20 ms. -/
theorem test_key_on :
    let t := run [.rawLineChange .maintKey .low, .maintKeyOn] State.reset
    let u := after1 .maintKeyOn (t.setNow 20)
    t.unit.mode = .init ∧ u.unit.mode = .maintenance ∧ u.unit.chain = true ∧ (u.point 123).value = 1 := by
  decide +kernel

/-- 10:R177: ESTOP in SERVICE de-energises the CHAIN output, asks for ALL-STOP and offers its alert. -/
theorem test_estop :
    let t := run [.estopAsserted] (onUnit service fun u => { u with estop := { raw := .low, active := false, since := some 980 } })
    t.unit.chain = false ∧ t.field.allStop = true ∧ t.unit.causes.estopLine = true ∧ lastPayload t = [1, 0, 1] := by
  decide +kernel

/-- 07:R134, R126: OPEN in a road-open phase whose dwell is over enters WARNING and reports it. -/
theorem test_open :
    let t := after1 .openRequest (asked (onSeq (inPhase .roadOpen .warning []) fun x => { x with dwell := .elapsed }) (request [15]))
    t.seq.phase = .warning ∧ t.seq.serial = 1 ∧ (t.point 120).value = 1 ∧ lastPayload t = [1, 0] := by
  decide +kernel

/-- 08:R149: a vessel that joins in CHANNEL OPEN has a GREEN ordered for it. -/
theorem test_vessel_opens :
    let t := after1 .vesselAdd (asked (onChan (inPhase .channelOpen .channelOpen []) fun c => { c with phaseSeen := .channelOpen })
      (request [21, 1, 44, 1]))
    t.chan.vessels.map Vessel.tag = [300] ∧ t.gate.own.map OrderRecord.node = [61] ∧ t.chan.north.outstanding = [.green] := by
  decide +kernel

/-- 01, section 1.10: a WRITE LIMITS of the record's own layout is accepted in MAINTENANCE and locks it. -/
theorem test_write_limits :
    let t := after1 .writeLimits (asked (inMode .maintenance service) (request (4 :: limits.encode)))
    t.unit.limits = some limits ∧ t.unit.locked = true ∧ lastPayload t = [4, 0, 0] := by
  decide +kernel

/-- 01, section 1.10: the bytes of a scan list entry, written out. -/
theorem test_scan_slot_bytes :
    let t := after1 .writeEntryScanList (asked (inMode .maintenance service) (request [1, 4, 31, 41, 8, 1]))
    look t.field.scanList 31 none = some { node := 41, divisor := 8, enabled := true } ∧ lastPayload t = [1, 0, 0] := by
  decide +kernel

/-- 05:R81, R83: an order whose condition is not TRUE is held, and its HELD result names the condition. -/
theorem test_order_is_held :
    let t := after1 .consoleOrderAdmission (asked
      (onGate service fun g => { g with permits := permits { permit 9 with required := [3] } }) (orderFrame [0, 5]))
    t.gate.held.map OrderRecord.deadline = [some 6000] ∧ lastPayload t = [9, 0, 5, 128, 3, 4] := by
  decide +kernel

/-- 11:R183: a request code outside 1 to 25 is refused RANGE. -/
theorem test_unknown_request : lastPayload (after1 .unknownRequest (asked service (request [26]))) = [26, 5, 0] := by
  decide +kernel

/-! ### Witnesses: the machine and its invariants -/

theorem witness_EveryCommandCompletes :
    (State.reset.setPower .heldInReset).power ≠ .running ∧ (State.reset.setPower .unpowered).power ≠ .running
      ∧ Instr.lineMark ≠ .powerOnReset ∧ Instr.lineMark ≠ .supplyLoss ∧ Instr.lineMark ≠ .resetLineReleased
      ∧ ∀ l v, Instr.lineMark ≠ .rawLineChange l v := by
  refine ⟨by decide, by decide, by decide, by decide, by decide, fun _ _ h => nomatch h⟩

/-- A controller in SERVICE with a command that opens the cause set. -/
def busy : State := (onSpan service fun p => { p with motion := .raising }).setPending [.lineBreak]

theorem witness_ChainFollowsModeAndCauses : ChainLaw busy ∧ ∃ t, step busy = .next t := by
  refine ⟨?_, _, rfl⟩
  unfold ChainLaw
  decide

theorem witness_MotionOnlyWithChainAllowed : MotionLaw busy ∧ ∃ t, step busy = .next t := by
  refine ⟨?_, _, rfl⟩
  unfold MotionLaw
  decide

/-- An own order of the crossing. -/
def ownOrder (node : Nat) : OrderRecord := { order node [] with origin := .sequencer 0 0 }

theorem own_not_console (node : Nat) : ¬FromConsole (ownOrder node) := fun h => nomatch h.choose_spec

/-- Every queue at its bound. -/
def full : State :=
  (onGate (onConsole service fun c => { c with ingress := List.replicate 4 (request [15]) }) fun g =>
    { g with
      orders := List.replicate 8 (order 30 []), held := (List.range 8).map fun n => order n [], own := List.replicate 12 (ownOrder 30) }).setPending
    [.arbiterChoice]

theorem witness_QueuesStayWithinTheirPlaces : QueueLaw full ∧ ∃ t, step full = .next t := by
  refine ⟨?_, _, rfl⟩
  unfold QueueLaw HeldDistinct
  decide +kernel

theorem witness_VesselTagsStayDistinct :
    let s := (onChan service fun c => { c with vessels := (List.range 8).map fun n => vessel n .north false }).setPending
      [.vesselRemove]
    VesselLaw s ∧ ∃ t, step s = .next t := by
  refine ⟨?_, _, rfl⟩
  unfold VesselLaw
  decide +kernel

/-- An own GREEN or RED that has joined its queue. -/
def signalOrder (d : Direction) (k : SignalKind) : OrderRecord :=
  { order (channelRecord.node d) [] with origin := .channel d k, arg := k.arg }

/-- What holds of both directions holds of each. -/
theorem both {p : Direction → Prop} (n : p .north) (s : p .south) : ∀ d, p d := fun d => by cases d <;> assumption

/-- The channel open to NORTH with a passage to come, and in CHANGEOVER with a GREEN to SOUTH queued. -/
theorem witness_VesselTagsStayDistinct_clearances :
    (let s := (onChan service fun c =>
        { c with state := .greenNorth, sets := [[(20, true)]], vessels := [vessel 1 .north true, vessel 2 .south false] }).setPending
        [.passage];
      ClearanceLaw s ∧ ∃ t, step s = .next t)
      ∧ (let s := (onGate (onChan service fun c =>
            { c with state := .changeover, south := { redSignal with outstanding := [.green] }, vessels := [vessel 2 .south false] })
          fun g => { g with own := [signalOrder .south .green] }).setPending [.arbiterChoice];
        ClearanceLaw s ∧ ∃ t, step s = .next t) := by
  refine ⟨⟨⟨both (by decide +kernel) (by decide +kernel), fun h => absurd rfl (h .north), by decide +kernel, fun h => (nomatch h),
      fun h => absurd rfl h, by decide +kernel, both (by decide +kernel) (by decide +kernel), fun d r h => (nomatch h),
      fun d tx h => (nomatch h), .nil, fun r h => (nomatch h)⟩, _, rfl⟩,
    ⟨⟨both (by decide +kernel) (by decide +kernel), fun _ => by decide +kernel, by decide +kernel, fun h => (nomatch h),
      fun h => absurd rfl h, by decide +kernel, both (by decide +kernel) (by decide +kernel), fun d r h g => ?_,
      fun d tx h => (nomatch h), List.pairwise_singleton _ _, fun r h => (nomatch h)⟩, _, rfl⟩⟩
  rw [List.mem_singleton.1 h] at g
  cases g
  decide

theorem witness_EgressNeverOverflows :
    let s := (onConsole (onField full fun f => { f with link := .awaiting 900, tx := some (orderTx 0) }) fun c =>
      { c with egress := List.replicate 25 (request []) }).setPending [.replyTimeout]
    EgressLaw s ∧ s.console.egress.length + pool s = 42 ∧ ∃ t, step s = .next t := by
  refine ⟨⟨by decide, by decide, by decide +kernel, fun r h => ?_⟩, by decide +kernel, _, rfl⟩
  rw [(List.mem_replicate.1 h).2]
  exact own_not_console 30

/-- Condition 0 tests point 126, which is FRESH, and is TRUE; condition 1 references it. -/
def proven : State :=
  onCond service fun c =>
    { c with
      table := put (put c.table 0 (some { terms := [.point 126 (.eq 0)], hold := 0, report := true })) 1
        (some { terms := [.condition 0], hold := 0, report := false })
      states := put c.states 0 .isTrue }

theorem table_reset (n : Nat) : look Conditions.reset.table n none = none := by simp [Conditions.reset]

theorem proven_table : TableLaw proven := by
  refine ⟨rfl, fun n e h j hj => ?_⟩
  simp only [proven, onCond, State.setCond_cond, look_put] at h
  split at h
  · injection h with h; subst h
    simp at hj; omega
  · split at h
    · injection h with h; subst h
      simp at hj
    · exact nomatch (table_reset n).symm.trans h

theorem witness_TrueConditionsRestOnFreshPoints :
    TableLaw (proven.setPending [.lineBreak]) ∧ FreshLaw (proven.setPending [.lineBreak])
      ∧ look proven.cond.states 0 .isFalse = .isTrue ∧ ∃ t, step (proven.setPending [.lineBreak]) = .next t := by
  refine ⟨proven_table, fun n h => ?_, by decide +kernel, _, rfl⟩
  by_cases hn : n = 0
  · subst hn
    refine ⟨{ terms := [.point 126 (.eq 0)], hold := 0, report := true }, by decide +kernel, fun t ht => ?_⟩
    simp at ht; subst ht
    show (State.point _ 126).freshness = _
    decide +kernel
  · simp only [State.setPending_cond, proven, onCond, State.setCond_cond, look_put, Ne.symm hn, false_and, if_false] at h
    simp [service, State.reset, Conditions.reset] at h

/-! ### Witnesses: receiving -/

/-- A receiver that has taken these bytes. -/
def taken (bytes : List Byte) : State := onConsole service fun c => { c with receiver := .assembling bytes }

/-- A REPLY frame that fills the field link's longest. -/
def longReply : Frame := { kind := 49, node := 41, tag := 3, payload := List.replicate 24 0 }

/-- The field receiver, in a state of the link, late for the timeout at 900. -/
def listening (receiver : Receiver) (link : LinkState) : State :=
  onField service fun f => { f with receiver := receiver, link := link, tx := some (orderTx 0) }

theorem witness_CharactersBecomeFrames :
    (let f := request [15];
      let s := taken (frameBytes f).dropLast;
      s.power = .running ∧ s.hears .console = true ∧ LengthFits .console f.kind f.payload.length
        ∧ frameBytes f = (frameBytes f).dropLast ++ [(frameBytes f).getLastD 0]
        ∧ s.receiver .console = .assembling (frameBytes f).dropLast)
      ∧ (let bytes := frameBytes longReply;
        let s := listening (.assembling bytes.dropLast) (.awaiting 1001);
        s.hears .field = true ∧ frameBytes longReply = bytes.dropLast ++ [bytes.getLastD 0]
          ∧ LengthFits .field longReply.kind longReply.payload.length ∧ s.receiver .field = .assembling bytes.dropLast)
      ∧ (service.receiver .console = .hunting ∧ (taken [2, 0]).receiver .console = .assembling [2, 0]
        ∧ LengthFits .console 2 (200 : Byte).toNat
        ∧ (4 ≤ [2, 0, 7, 1].length ∧ [2, 0, 7, (1 : Byte)].length ≠ u8 [2, 0, 7, 1] 3 + 5))
      ∧ (let s := listening .hunting (.awaiting 1001);
        s.hears .field = true ∧ s.receiver .field = .hunting ∧ s.field.link = .awaiting 1001 ∧ due s.now 1001 = false)
      ∧ (let s := listening .hunting (.awaiting 1000);
        s.power = .running ∧ s.field.line = .mark ∧ s.field.receiver = .hunting ∧ s.field.link = .awaiting 1000
          ∧ due s.now 1000 = true ∧ s.field.arrivals = [])
      ∧ (let s := listening .hunting .turnaround;
        s.hears .field = false ∧ s.field.link = .turnaround ∧ s.power = .running) := by
  simp only [← lengthAllowed_iff]
  decide +kernel

/-- 02:R19: in TURNAROUND the receiver stays in HUNTING. 01:R10, 02:R24: a break that comes then is counted. -/
theorem test_turnaround_hunts :
    let s := after1 (.validCharacter .field true 49) (listening .hunting .turnaround)
    s.field.receiver = .hunting ∧ (after1 .fieldBreak s).field.counts.gap = 1 := by
  decide +kernel

/-- 02:R19, R21: a kind character after the timeout finds the transaction ended, and the line in TURNAROUND. -/
theorem test_late_character :
    let s := after1 (.validCharacter .field true 49) (listening .hunting (.awaiting 1000))
    s.field.receiver = .hunting ∧ s.field.link = .turnaround ∧ s.field.tx = none := by
  decide +kernel

/-- The bytes of a frame whose payload is empty, but for its check, with a wrong check. -/
theorem bad_check : ∀ g, frameBytes g ≠ [50, 41, 3, 0, 0] ++ [0] := by
  rintro ⟨kind, node, tag, payload⟩ h
  have hl := congrArg List.length h
  obtain rfl : payload = [] := by simpa [frameBytes] using hl
  simp only [frameBytes, List.cons_append, List.nil_append, List.cons.injEq] at h
  obtain ⟨rfl, rfl, rfl, -, h, -⟩ := h
  exact absurd h (by decide +kernel)

/-- A frame in assembly of whose transaction none awaits an answer, on each link; a fault by length, and one by check. -/
theorem witness_FaultsAndBreaksAreCounted :
    (let s := taken [2, 0, 7];
      s.power = .running ∧ s.hears .console = true ∧ s.receiver .console = .assembling [2, 0, 7]
        ∧ ¬LengthFits .console 2 (0 : Byte).toNat ∧ ¬LengthFits .console 2 (201 : Byte).toNat)
      ∧ (let s := listening (.assembling [49]) .idle;
        s.hears .field = true ∧ s.receiver .field = .assembling [49] ∧ s.field.arrivals = [] ∧ s.field.awaited = none)
      ∧ (let bytes : List Byte := [50, 41, 3, 0, 0];
        (listening (.assembling bytes) .idle).receiver .field = .assembling bytes ∧ 4 ≤ bytes.length
          ∧ bytes.length = u8 bytes 3 + 5 ∧ ∀ g, frameBytes g ≠ bytes ++ [0])
      ∧ (service.console.line = .mark ∧ service.points.gather = none ∧ service.unit.causes = CauseSet.empty
        ∧ (onUnit service fun u => { u with causes := CauseSet.empty.join .consoleBreak }).unit.causes ≠ CauseSet.empty
        ∧ service.field.line = .mark ∧ service.field.link ≠ .sending ∧ service.field.link ≠ .breaking
        ∧ service.field.arrivals = [] ∧ service.field.awaited = none) := by
  simp only [← lengthAllowed_false]
  exact ⟨by decide +kernel, by decide +kernel, ⟨rfl, by decide, by decide, bad_check⟩, by decide +kernel⟩

/-- Arrivals of the Console Port. -/
def arrived (kind : Byte) (ingress : Nat) : State :=
  onConsole service fun c =>
    { c with
      arrivals := [{ frame := { kind := kind, node := 0, tag := 7, payload := [15] }, time := 990 }]
      ingress := List.replicate ingress (request [15]) }

theorem witness_IngressJoinsOrOverflows :
    (arrived 1 3).power = .running ∧ (arrived 1 3).console.arrivals.map (·.frame.kind) = [1]
      ∧ (arrived 2 3).console.arrivals.map (·.frame.kind) = [2] ∧ (arrived 1 3).console.ingress.length < 4
      ∧ 4 ≤ (arrived 2 4).console.ingress.length := by
  decide +kernel

theorem witness_EgressHeadIsSent :
    let s := fun (f : Frame) (r : Restart) =>
      onConsole service fun c => { c with egress := [f], sending := true, restart := r }
    let f := { request [25, 0, 0] with kind := 18 }
    (s f .none).power = .running ∧ (s f .none).console.egress = f :: [] ∧ (s f .none).console.sending = true
      ∧ (s f .none).console.restart ≠ .waiting ∧ (s f .waiting).console.restart = .waiting ∧ f.kind = 18
      ∧ f.payload = [25, 0, 0] ∧ ¬((request [25, 0, 0]).kind = 18 ∧ (request [25, 0, 0]).payload = [25, 0, 0]) := by
  decide +kernel

/-! ### Witnesses: the field link -/

/-- A slot order. -/
def slot : SlotOrder := { node := 51, cls := 3, arg := 0 }

/-- A scan list with one slot. -/
def scanning (i : Nat) (credit : Nat) : State :=
  onField service fun f =>
    { f with scanList := put f.scanList i (some { node := 41, divisor := 8, enabled := true }), credit := credit, pointer := i }

theorem scanning_slots (i j credit : Nat) (y : ScanSlot) (hj : j ≠ i) : look (scanning i credit).field.scanList j none ≠ some y := by
  simp [scanning, onField, Ne.symm hj, service, State.reset, Field.reset]

theorem witness_ArbiterChoosesInItsOrder :
    let a := onField service fun f => { f with allStop := true }
    let s := onField service fun f => { f with stopA := some slot, stopB := some slot }
    let t := onField service fun f => { f with stopB := some slot }
    (a.power = .running ∧ a.field.link = .idle ∧ a.field.allStop = true ∧ a.field.tx = none)
      ∧ (s.field.link = .idle ∧ s.field.allStop = false ∧ s.field.stopA = some slot)
      ∧ (t.field.link = .idle ∧ t.field.allStop = false ∧ t.field.stopA = none ∧ t.field.stopB = some slot) := by
  decide +kernel

/-- A slot that is alone in the scan list is due, from the pointer on. -/
theorem due_alone (i credit : Nat) (hi : i < 32) :
    NextDue (scanning i credit).field 0 i { node := 41, divisor := 8, enabled := true } := by
  refine ⟨Nat.le_refl i, hi, by simp [scanning, onField, hi], rfl, rfl, fun j m y hj hm hmi hy _ => ?_⟩
  obtain rfl : j = 0 := by omega
  change i ≤ m at hm
  exact absurd (hmi rfl) (by omega)

/-- Slot 0, behind the pointer, is due when the cycle count has wrapped from 839 to 0. -/
theorem due_wrapped :
    NextDue (onField (scanning 0 3) fun f => { f with pointer := 1, cycle := 839 }).field 1 0
      { node := 41, divisor := 8, enabled := true } := by
  refine ⟨Nat.le_refl 0, by decide, by decide +kernel, rfl, rfl, fun j m y hj hm hmi hy _ => ?_⟩
  by_cases hm0 : m = 0
  · rcases Nat.eq_or_lt_of_le hj with rfl | hj
    · exact absurd (hmi rfl) (by omega)
    · obtain rfl : j = 0 := by omega
      exact absurd hm (by subst hm0; decide)
  · exact absurd hy (scanning_slots 0 m 3 y hm0)

/-- The poll clause at the first slot and at slot 31, in this cycle and in the next, with the credit at 3 and with nothing
waiting. -/
theorem witness_ArbiterChoosesInItsOrder_trims :
    (let s := onField service fun f => { f with trimA := some slot, trimB := some slot, credit := 2 };
      s.power = .running ∧ s.field.link = .idle ∧ s.field.allStop = false ∧ s.field.stopA = none ∧ s.field.stopB = none
        ∧ s.field.trimA = some slot ∧ s.field.credit ≠ 3)
    ∧ (let s := onField service fun f => { f with trimB := some slot, credit := 3 };
      s.field.link = .idle ∧ s.field.trimA = none ∧ s.field.trimB = some slot ∧ s.field.scanRunning = false)
    ∧ (∀ i, i = 0 ∨ i = 31 →
      let s := scanning i 3
      (s.power = .running ∧ s.field.link = .idle ∧ s.field.scanMode = .continuous ∧ s.field.credit = 3)
        ∧ NextDue s.field 0 i { node := 41, divisor := 8, enabled := true })
    ∧ (let s := onField (scanning 0 3) fun f => { f with pointer := 1, cycle := 839 };
      (s.field.scanMode = .continuous ∧ s.field.credit = 3)
        ∧ NextDue s.field 1 0 { node := 41, divisor := 8, enabled := true })
    ∧ (NothingWaits (scanning 0 0) ∧ NextDue (scanning 0 0).field 0 0 { node := 41, divisor := 8, enabled := true })
    ∧ (let s := onField service fun f => { f with scanMode := .stopped };
      NothingWaits s ∧ s.field.scanMode = .stopped)
    ∧ (NothingWaits service ∧ service.field.scanMode = .continuous
      ∧ ∀ i x, look service.field.scanList i none = some x → x.enabled = false) := by
  refine ⟨by decide +kernel, by decide +kernel, ?_, ⟨by decide +kernel, due_wrapped⟩,
    ⟨by unfold NothingWaits SlotsEmpty; decide +kernel, due_alone 0 0 (by decide)⟩,
    by unfold NothingWaits SlotsEmpty; decide +kernel, by unfold NothingWaits SlotsEmpty; decide +kernel, rfl,
    fun i x h => by simp [service, State.reset, Field.reset] at h⟩
  rintro i (rfl | rfl)
  · exact ⟨by decide +kernel, due_alone 0 3 (by decide)⟩
  · exact ⟨by decide +kernel, due_alone 31 3 (by decide)⟩

/-- A SINGLE sweep at its first slot and its last, with nothing waiting, and with the credit at 3 and trims and orders
waiting; and a sweep that is over. -/
theorem witness_ArbiterChoosesInItsOrder_single :
    (∀ i credit, (i = 0 ∧ credit = 0) ∨ (i = 31 ∧ credit = 3) →
      let s := onGate (onField (scanning i credit) fun f =>
          { f with scanMode := .single, sweep := i, trimA := if credit = 3 then some slot else none }) fun g =>
        { g with orders := if credit = 3 then [order 30 []] else [] }
      (s.power = .running ∧ s.field.link = .idle ∧ s.field.allStop = false ∧ s.field.stopA = none ∧ s.field.stopB = none
          ∧ s.field.scanMode = .single ∧ s.field.sweep ≤ i)
        ∧ ((s.field.credit = 3 ∧ ∃ i x, look s.field.scanList i none = some x ∧ x.enabled = true) ∨ NothingWaits s)
        ∧ look s.field.scanList i none = some { node := 41, divisor := 8, enabled := true }
        ∧ ∀ j y, s.field.sweep ≤ j → j < i → look s.field.scanList j none = some y → y.enabled = false)
    ∧ (let s := onField (scanning 0 0) fun f => { f with scanMode := .single, sweep := 1 };
      (s.field.link = .idle ∧ s.field.scanMode = .single ∧ NothingWaits s)
        ∧ ∀ j y, s.field.sweep ≤ j → look s.field.scanList j none = some y → y.enabled = false)
    ∧ (let s := onField (scanning 0 3) fun f => { f with scanMode := .single, sweep := 1, trimA := some slot };
      s.field.credit = 3 ∧ (∃ i x, look s.field.scanList i none = some x ∧ x.enabled = true)
        ∧ ∀ j y, s.field.sweep ≤ j → look s.field.scanList j none = some y → y.enabled = false) := by
  have slots : ∃ x, look (scanning 31 3).field.scanList 31 none = some x ∧ x.enabled = true :=
    ⟨{ node := 41, divisor := 8, enabled := true }, by decide +kernel⟩
  refine ⟨?_, ⟨by unfold NothingWaits SlotsEmpty; decide,
      fun j y h h' => absurd h' (scanning_slots 0 j 0 y (by change 1 ≤ j at h; omega))⟩, rfl,
    ⟨0, { node := 41, divisor := 8, enabled := true }, by decide +kernel⟩,
    fun j y h h' => absurd h' (scanning_slots 0 j 3 y (by change 1 ≤ j at h; omega))⟩
  rintro i credit (⟨rfl, rfl⟩ | ⟨rfl, rfl⟩)
  · exact ⟨by decide +kernel, .inr (by unfold NothingWaits SlotsEmpty; decide +kernel), by decide +kernel,
      fun j y h h' => absurd h' (Nat.not_lt_zero j)⟩
  · exact ⟨by decide +kernel, .inl ⟨rfl, 31, slots⟩, by decide +kernel, fun j y h h' => absurd h (by change ¬31 ≤ j; omega)⟩

/-- Orders wait, condition 0 is TRUE and condition 1 is not. -/
def waiting (own orders : List OrderRecord) : State :=
  onField (onGate proven fun g => { g with own := own, orders := orders }) fun f => { f with scanMode := .stopped }

theorem witness_OrdersAreTakenFromTheHead :
    let a := waiting [order 30 [0]] []
    let b := waiting [] [order 30 [0], order 31 []]
    let c := waiting [] [order 30 [0, 1]]
    (a.power = .running ∧ a.field.link = .idle ∧ a.field.allStop = false ∧ SlotsEmpty a.field ∧ a.field.credit ≠ 3
        ∧ (∀ d, ¬IsSignal a 30 9 d) ∧ a.gate.own = [order 30 [0]] ∧ ∀ c ∈ [0], standsTrue a.cond.states c = true)
      ∧ (b.gate.own = [] ∧ b.gate.orders = order 30 [0] :: [order 31 []] ∧ ∀ c ∈ [0], standsTrue b.cond.states c = true)
      ∧ (c.gate.orders = [order 30 [0, 1]] ∧ c.field.scanMode = .stopped ∧ (order 30 [0, 1]).origin = .console 9
        ∧ (order 30 [0, 1]).memory = none ∧ standsTrue c.cond.states 1 = false
        ∧ ∀ d ∈ [0, 1], standsTrue c.cond.states d = false → 1 ≤ d) := by
  simp only [← State.signalOf_eq_none]
  unfold SlotsEmpty
  decide +kernel

/-- A GREEN to the north signal, with RED DONE as the memory of the south, comes to be in flight at each choice. -/
theorem witness_OnlyProvenOrdersAreTransmitted :
    let r := { order 61 [0] with arg := 1 }
    let s := fun l => onField (waiting [] [r]) fun f => { f with link := l }
    ∀ x, x = (Instr.arbiterChoice, LinkState.idle) ∨ x = (.turnaroundEnd, .turnaround) ∨ x = (.breakIdleEnd, .breaking) →
      (s x.2).field.tx = none
        ∧ (after1 x.1 (s x.2)).field.tx.map Transaction.source = some (.order { r with memory := some .north })
        ∧ r.arg = 1 ∧ IsSignal (after1 x.1 (s x.2)) 61 9 .north := by
  simp only [← State.signalOf_eq_some]
  rintro x (rfl | rfl | rfl) <;> decide +kernel

/-- The transaction is being sent, these characters read back. -/
def sending (tx : Transaction) (echo : List Character) (n : Nat) : State :=
  onField service fun f => { f with link := .sending, tx := some tx, echo := echo, contention := n }

/-- The transaction of a trim. -/
def trimTx : Transaction := { orderTx 0 with source := .trim .a, transmitted := false }

theorem witness_FieldFramesAreBuiltSentAndReadBack :
    let sent := (orderTx 0).frame.characters
    let s := sending (orderTx 0) (sent.take 8) 0
    ({ orderTx 0 with source := .poll }.source = .poll ∧ (orderTx 0).source ≠ .poll)
      ∧ (s.power = .running ∧ s.field.link = .sending ∧ s.field.tx = some (orderTx 0) ∧ s.field.echo <+: sent
        ∧ s.field.echo ≠ sent ∧ (∀ k, (orderTx 0).source ≠ .trim k))
      ∧ (sending (orderTx 0) sent 0).field.echo = sent
      ∧ ¬(sending (orderTx 0) [{ data := 0, mark := true }] 0).field.echo <+: sent
      ∧ (sending trimTx trimTx.frame.characters 0).field.echo = trimTx.frame.characters
      ∧ trimTx.source = .trim .a ∧ trimTx.transmitted = false :=
  ⟨⟨rfl, fun h => nomatch h⟩, ⟨rfl, rfl, rfl, List.take_prefix _ _, by decide +kernel, fun k h => nomatch h⟩, rfl,
    by decide +kernel, rfl, rfl, rfl⟩

/-- The second attempt and the third, of an order and of a poll, with the contention count below 7 and at 7. -/
theorem witness_ContentionRetriesThenFails :
    let s := fun k n => sending (orderTx k) [] n
    let poll : Transaction := { orderTx 2 with source := .poll }
    ((s 1 6).power = .running ∧ (s 1 6).points.gather = none ∧ (s 1 6).field.link = .sending
        ∧ (s 1 6).field.tx = some (orderTx 1) ∧ (s 1 6).field.echo ≠ (orderTx 1).frame.characters ∧ (orderTx 1).abandoned < 2)
      ∧ (2 ≤ (orderTx 2).abandoned ∧ (orderTx 2).source ≠ .poll ∧ ¬8 ≤ (s 2 6).field.contention + 1)
      ∧ 8 ≤ (s 2 7).field.contention + 1
      ∧ ((sending poll [] 7).field.tx = some poll ∧ (sending poll [] 7).field.echo ≠ poll.frame.characters
        ∧ 2 ≤ poll.abandoned ∧ poll.source = .poll ∧ 1 ≤ poll.node) := by
  decide +kernel

theorem witness_TurnaroundsAndBreaksEnd :
    let s := fun (l : LinkState) (a : Bool) (tx : Option Transaction) =>
      onField service fun f => { f with link := l, allStop := a, tx := tx, scanMode := .stopped }
    let trim := onField (awaiting trimTx []) fun f => { f with allStop := true }
    ((s .turnaround false none).power = .running ∧ (s .turnaround false none).field.link = .turnaround
        ∧ (s .turnaround false none).field.tx = none ∧ (s .breaking true none).field.link = .breaking)
      ∧ (NothingWaits (s .breaking false none) ∧ (s .breaking false none).field.scanMode = .stopped)
      ∧ (s .turnaround true (some (orderTx 1))).field.tx ≠ none
      ∧ ((s (.awaiting 900) true (some (orderTx 0))).field.allStop = true
        ∧ (s (.awaiting 900) true (some (orderTx 0))).field.link ≠ .breaking
        ∧ (s (.awaiting 900) true (some (orderTx 0))).field.tx = some (orderTx 0)
        ∧ (orderTx 0).source = .order (order 30 []))
      ∧ trim.field.allStop = true ∧ ∀ tx r, trim.field.tx = some tx → tx.source ≠ .order r := by
  refine ⟨by decide +kernel, by unfold NothingWaits SlotsEmpty; decide +kernel, by decide, by decide +kernel, rfl,
    fun tx r h => ?_⟩
  injection h with h; subst h
  exact fun h => nomatch h

/-- The record of node 30 says SILENT. -/
def silent (s : State) : State :=
  onField s fun f => { f with nodes := put f.nodes 29 { nodeRecord f 30 with state := .silent } }

theorem witness_GoodFrameEndsAnOrder :
    let s := fun k n => awaiting (orderTx 0) [answer k n]
    ((s 50 30).power = .running ∧ (s 50 30).points.gather = none ∧ (s 50 30).field.arrivals = answer 50 30 :: []
        ∧ (s 50 30).field.link = .awaiting 900 ∧ (s 50 30).field.tx = some (orderTx 0)
        ∧ (orderTx 0).source ≠ .poll ∧ trimTx.source ≠ .poll)
      ∧ (Answers (orderTx 0) (answer 50 30).frame ∧ (answer 50 30).frame.kind = 50 ∧ 1 ≤ (orderTx 0).node
        ∧ (nodeRecord (s 50 30).field 30).state ≠ .silent ∧ (nodeRecord (silent (s 50 30)).field 30).state = .silent)
      ∧ (Answers (orderTx 0) (answer 51 30).frame ∧ (answer 51 30).frame.kind = 51)
      ∧ ¬(Answers (orderTx 0) (answer 50 31).frame ∧ ((answer 50 31).frame.kind = 50 ∨ (answer 50 31).frame.kind = 51))
      ∧ ¬(Answers (orderTx 0) (answer 49 30).frame ∧ ((answer 49 30).frame.kind = 50 ∨ (answer 49 30).frame.kind = 51))
      ∧ (onField service fun f => { f with arrivals := [answer 50 30] }).field.awaited = none := by
  unfold Answers
  decide +kernel

/-- A poll of the node that point 0 is read from. -/
def polling (node : Nat) (arrivals : List Arrival) : State :=
  (awaiting { orderTx 0 with source := .poll, node := node } arrivals).setPoints
    { service.points with map := put service.points.map 0 (some
      { node := node, offset := 0, width := .u8, bitIndex := 0, invert := false, debounce := 0, staleLimit := 5 }) }

theorem witness_ReplyReachesItsPoints :
    ∀ n, n = 1 ∨ n = 100 →
      let s := polling n [answer 49 (byte n)]
      let tx : Transaction := { orderTx 0 with source := .poll, node := n }
      s.power = .running ∧ s.points.gather = none ∧ s.field.arrivals = answer 49 (byte n) :: []
        ∧ s.field.link = .awaiting 900 ∧ s.field.tx = some tx ∧ tx.source = .poll ∧ 1 ≤ tx.node ∧ tx.node ≤ 100
        ∧ Answers tx (answer 49 (byte n)).frame ∧ (answer 49 (byte n)).frame.kind = 49 := by
  unfold Answers
  rintro n (rfl | rfl) <;> decide +kernel

/-- A timer that ends one millisecond from now is not due. -/
theorem not_due : ∀ e : Time, some (1001 : Time) = some e → due 1000 e = false :=
  fun e h => by rw [← Option.some.inj h]; decide +kernel

theorem witness_TimeoutIsAMiss :
    (∀ n, n = 1 ∨ n = 100 →
      let s := polling n []
      let tx : Transaction := { orderTx 0 with source := .poll, node := n }
      s.power = .running ∧ s.points.gather = none ∧ s.field.link = .awaiting 900 ∧ due s.now 900 = true
        ∧ s.field.receiver = .hunting ∧ s.field.arrivals = [] ∧ s.field.tx = some tx ∧ 1 ≤ tx.node
        ∧ tx.node ≤ 100 ∧ tx.source = .poll)
    ∧ (let s := awaiting (orderTx 0) [];
      s.field.tx = some (orderTx 0) ∧ (orderTx 0).source ≠ .poll ∧ (orderTx 0).node = 30)
    ∧ (∀ e, (onField service fun f => { f with link := .awaiting 1001 }).field.link = .awaiting e →
        due service.now e = false)
    ∧ (polling 1 []).field.link = .awaiting 900
    ∧ (onField (polling 1 []) fun f => { f with receiver := .assembling [50] }).field.receiver ≠ .hunting
    ∧ (polling 1 [answer 49 1]).field.arrivals ≠ [] ∧ ∀ e, service.field.link ≠ .awaiting e := by
  refine ⟨?_, by decide +kernel, fun e h => not_due e (by injection h with h; rw [h]), by decide +kernel,
    by decide +kernel, by decide +kernel, fun e => by rw [show service.field.link = .idle from rfl]; nofun⟩
  rintro n (rfl | rfl) <;> decide +kernel

/-- A poll of the node, the receiver assembling. -/
def pollingFault (n : Nat) (bytes : List Byte) : State := onField (polling n []) fun f => { f with receiver := .assembling bytes }

/-- 01:R6, 02:R19: the marked character of a TRUNCATED fault begins a new frame; where the fault ends a poll, TURNAROUND
has the receiver in HUNTING. -/
theorem test_truncated_fault :
    let s := after1 (.truncatedFault .field 49) (pollingFault 30 [49, 30, 3])
    let t := after1 (.truncatedFault .field 49) (listening (.assembling [49, 30, 3]) .idle)
    (s.field.receiver = .hunting ∧ s.field.link = .turnaround ∧ s.field.counts.truncated = 1)
      ∧ t.field.receiver = .assembling [49] := by
  decide +kernel

theorem witness_FaultsAndStrayFramesEndATransaction :
    (∀ n, n = 1 ∨ n = 100 →
      let tx : Transaction := { orderTx 0 with source := .poll, node := n }
      let s := pollingFault n [49, byte n, 3]
      (s.power = .running ∧ s.points.gather = none ∧ s.field.tx = some tx ∧ 1 ≤ tx.node ∧ tx.node ≤ 100
          ∧ s.field.link = .awaiting 900 ∧ s.field.arrivals = [] ∧ s.field.line = .mark
          ∧ tx.source = .poll ∧ s.field.receiver = .assembling [49, byte n, 3])
        ∧ ¬LengthFits .field ([49, byte n, 3][0]?.getD 0) (25 : Byte).toNat
        ∧ ¬(Answers tx (answer 51 (byte n)).frame ∧ (answer 51 (byte n)).frame.kind = 49)
        ∧ (polling n [answer 51 (byte n)]).field.arrivals = [answer 51 (byte n)])
      ∧ (BringsFault [49, 41, 3] (.badStopBit .field) LinkCounts.addCheck
        ∧ BringsFault [49, 41, 3] (.gapFault .field) LinkCounts.addGap
        ∧ BringsFault [49, 41, 3] (.truncatedFault .field 49) LinkCounts.addTruncated
        ∧ BringsFault [49, 41, 3] (.lengthFault .field 25) LinkCounts.addLength
        ∧ BringsFault [50, 41, 3, 0, 0] (.frameComplete .field 0) LinkCounts.addCheck)
      ∧ (onField service fun f => { f with link := .awaiting 1001 }).field.receiver = .hunting ∧ due service.now 1001 = false
      ∧ (orderTx 0).source ≠ .poll := by
  refine ⟨?_, ⟨.inl ⟨rfl, rfl⟩, .inr (.inl ⟨rfl, rfl⟩), .inr (.inr ⟨49, .inl ⟨rfl, rfl⟩⟩),
    .inr (.inr ⟨25, .inr (.inl ⟨rfl, rfl, rfl, (lengthAllowed_false _ _ _).mp (by decide)⟩)⟩),
    .inr (.inr ⟨0, .inr (.inr ⟨rfl, rfl, by decide, by decide, bad_check⟩)⟩)⟩, by decide, by decide, by decide⟩
  unfold Answers
  simp only [← lengthAllowed_false]
  rintro n (rfl | rfl) <;> decide +kernel

/-! ### Witnesses: points, conditions and counters -/

theorem witness_NumericPointTakesEveryReading :
    let e : PointEntry := { node := 1, offset := 0, width := .call, bitIndex := 0, invert := false, debounce := 0, staleLimit := 1 }
    e.width ≠ .bit ∧ e.width = .call ∧ { e with width := Width.s16 }.width ≠ .bit ∧ { e with width := Width.s16 }.width ≠ .call := by
  decide

theorem witness_ReadingsAndMissesOfAPoint :
    let fresh := { Point.first with freshness := .fresh }
    (Point.first.run = none ∧ (Point.first.freshness = .fresh → (0 : Int) ≠ Point.first.value))
      ∧ (fresh.run = none ∧ (fresh.freshness = .fresh → (1 : Int) ≠ fresh.value))
      ∧ ([] : List Time).length ≤ 0 ∧ [1, 2, (3 : Time)].length ≤ 3 ∧ [1, 2, (3 : Time)].length = 2 + 1
      ∧ (∀ limit, limit = 1 ∨ limit = 15 → 1 ≤ limit ∧ limit ≤ 15) ∧ fresh.age = 0 ∧ fresh.freshness = .fresh
      ∧ { Point.first with freshness := Freshness.stale }.freshness = .stale ∧ Point.first.freshness = .never := by
  refine ⟨by decide, by decide, by decide, by decide, by decide, ?_, by decide, by decide, by decide, by decide⟩
  rintro _ (rfl | rfl) <;> decide

theorem encoders_in_field (s : State) (h : s.span.record = some spanRecord) : EncodersInField s := fun r hr => by
  rw [h] at hr
  injection hr with hr
  subst hr
  decide

/-- The span points with each mark set and clear, the encoder points FRESH in the last. -/
theorem witness_SpanPointsAreSettled :
    let s := fun first loss f => service.setPoints
      { service.points with
        firstPair := first, pairLoss := loss
        points := put (put service.points.points 0 { Point.first with freshness := f }) 1
          { Point.first with freshness := f } }
    (∀ first loss f, EncodersInField (s first loss f))
      ∧ ((s false false .never).settleSpanPoints.point 112).freshness = .never
      ∧ ((s true true .fresh).settleSpanPoints.point 116).freshness = .stale
      ∧ ((s true false .fresh).settleSpanPoints.point 116).freshness = .fresh
      ∧ ((s true false .fresh).setPoints { (s true false .fresh).points with gather := some [3] }).points.gather ≠ none := by
  refine ⟨fun _ _ _ => encoders_in_field _ rfl, by decide +kernel⟩

/-- 03:R50, R53, 04:R65, R68, R69: an internal write evaluates the conditions that test its point, in the event of the
write. -/
theorem test_internal_write_is_walked :
    let s := onCond service fun c =>
      { c with table := put c.table 5 (some { terms := [.point 120 (.eq 5)], hold := 0, report := true }) }
    let t := s.writePoint 120 5
    standsTrue t.cond.states 5 = true ∧ t.chan.sets = [[(5, true)]] ∧ t.console.egress.map (·.kind) = [19] := by
  decide +kernel

/-- 03:R54, R55, 04:R65: a pair write and a pair loss write evaluate the conditions that test a point changed. -/
theorem test_pair_writes_are_walked :
    let s := onCond (service.setPoints
        { service.points with
          points := put (put service.points.points 0 { Point.first with freshness := .fresh }) 1
            { Point.first with freshness := .fresh } }) fun c =>
      { c with table := put c.table 5 (some { terms := [.point 114 (.lt 10)], hold := 0, report := false }) }
    let t := s.pairWrite 105 100 5 102 0
    standsTrue t.cond.states 5 = true ∧ standsTrue t.pairLossWrite.cond.states 5 = false
      ∧ t.pairLossWrite.duty.sets = [[(5, true)], [(5, false)]] := by
  decide +kernel

/-- Condition 0, in PROVING with a COUNTER BELOW term, its proving time over; a change of counter 7 waits. -/
theorem witness_OneWalkSettlesEveryCondition :
    let e : CondEntry := { terms := [.counterBelow 7], hold := 100, report := true }
    let s := onCond service fun c =>
      { c with table := put c.table 0 (some e), states := put c.states 0 (.proving 900), counterChanges := [7] }
    s.power = .running ∧ TableLaw s ∧ s.cond.counterChanges = 7 :: [] ∧ look s.cond.states 0 .isFalse = .proving 900
      ∧ look s.cond.table 0 none = some e ∧ e.hold ≤ (s.now - 900).toNat ∧ e.terms ≠ []
      ∧ (∀ x ∈ e.terms, ∃ k ∈ s.cond.counterChanges, x = .counterBelow k)
      ∧ look (after1 .provingEnd s).cond.states 0 .isFalse = .isTrue := by
  refine ⟨rfl, ⟨rfl, fun n e h j hj => ?_⟩, rfl, by decide +kernel, by decide +kernel, by decide, by decide,
    fun x h => ⟨7, by decide, by simpa using h⟩, by decide +kernel⟩
  simp only [onCond, State.setCond_cond, look_put] at h
  split at h
  · injection h with h; subst h
    simp at hj
  · exact nomatch (table_reset n).symm.trans h

/-- A write of the last entry, which references condition 62, and a clear of the first. -/
theorem witness_OneWalkSettlesEveryCondition_write :
    (0 < 64 ∧ 63 < 64) ∧ TableLaw proven
      ∧ (∀ x j, some ({ terms := [.condition 62], hold := 0, report := true } : CondEntry) = some x →
        Term.condition j ∈ x.terms → j < 63)
      ∧ ∀ x j, (none : Option CondEntry) = some x → Term.condition j ∈ x.terms → j < 0 := by
  refine ⟨by decide, proven_table, fun x j h hj => ?_, (fun _ _ h => nomatch h)⟩
  injection h with h; subst h
  simp at hj; omega

theorem witness_OccurrencesAndMillisecondsAreCounted : service.power = .running ∧ 0 < 8 ∧ 7 < 8 ∧ 0 < 14 ∧ 13 < 14 := by
  decide

theorem witness_LevelEdgesAreCounted :
    let set : ChangeSet := [(0, true), (63, false)]
    let s := onDuty service fun d => { d with sets := [set, []] }
    let t := onGate service fun g => { g with orders := [order 30 []] }
    (s.power = .running ∧ s.duty.sets = set :: [[]] ∧ (set.map Prod.fst).Nodup ∧ ∀ x ∈ set, x.1 < 64)
      ∧ service.gate.orders.length + service.gate.held.length = service.duty.occupancy
      ∧ t.gate.orders.length + t.gate.held.length ≠ t.duty.occupancy := by
  decide +kernel

/-! ### Witnesses: the Order Gate -/

theorem look_permits (p : Permit) (n : Nat) (q : Permit) (h : look (permits p) n none = some q) : n = 0 ∧ q = p := by
  rw [permits, look_put] at h
  split at h
  · injection h with h
    exact ⟨by omega, h.symm⟩
  · simp at h

theorem witness_LookupTakesTheFirstMatch :
    (∀ n q, look (permits (permit 63)) n none = some q → q.cls ≤ 63 ∧ ∀ m, q.node = some m → 1 ≤ m ∧ m ≤ 100)
      ∧ (0 = 0 ∨ 100 < 0 ∨ 63 < 63) ∧ (101 = 0 ∨ 100 < 101 ∨ 63 < 63) ∧ (100 = 0 ∨ 100 < 100 ∨ 63 < 64)
      ∧ Matches (permits (permit 9)) 30 9 0 (permit 9) := by
  refine ⟨fun n q h => ?_, by decide, by decide, by decide, matches_service 9⟩
  obtain ⟨-, rfl⟩ := look_permits _ _ _ h
  exact ⟨by decide, (fun m hm => nomatch hm)⟩

/-- An ORDER is served, the permit p standing as entry 0. -/
def ordered (s : State) (p : Permit) (arg : List Byte) : State :=
  onConsole (onGate s fun g => { g with permits := permits p }) fun c => { c with ingress := [orderFrame arg] }

theorem served (s : State) (f : Frame) (h : s.power = .running) (hr : s.console.restart = .none)
    (he : s.console.egress.length < 24) : Serves (asked s f) f [] := ⟨h, rfl, hr, he⟩

theorem served_order (s : State) (p : Permit) (arg : List Byte) (h : s.power = .running) (hr : s.console.restart = .none)
    (he : s.console.egress.length < 24) : Serves (ordered s p arg) (orderFrame arg) [] := ⟨h, rfl, hr, he⟩

/-- A permit that governs every node matches as entry 0. -/
theorem matches_ordered (s : State) (p : Permit) (arg : List Byte) (hn : p.node = none) (hc : p.cls = 9) :
    Matches (ordered s p arg).gate.permits (orderNode (orderFrame arg)) (orderClass (orderFrame arg)) 0 p :=
  matches_first _ _ _ _ (by simp [ordered, onGate, onConsole, permits]) ⟨hc, .inr ⟨hn, show 1 ≤ 30 by decide, show 30 ≤ 100 by decide⟩⟩

theorem no_start (s : State) (h : s.startOf 30 9 = none) : MotionPass s 30 9 :=
  fun t up h' => absurd h' ((State.startOf_eq_none _ _ _).mp h t up)

/-- Each check is reached by an ORDER that fails it: the mode, no permit, the three flags, a hoist START against the
motion, the argument at 101 and −1, and condition 3. -/
theorem witness_AdmissionRefusesAtTheFirstFailure :
    (orderFrame [0, 5]).kind = 1
      ∧ (Serves (ordered (inMode .init service) (permit 9) [0, 5]) (orderFrame [0, 5]) []
        ∧ (ordered (inMode .init service) (permit 9) [0, 5]).unit.mode = .init)
      ∧ (∀ n q, look (ordered service (permit 8) [0, 5]).gate.permits n none = some q →
        ¬Governs q (orderNode (orderFrame [0, 5])) (orderClass (orderFrame [0, 5])))
      ∧ (let s := ordered (inMode .maintenance service) { permit 9 with maint := false } [0, 5];
        Serves s (orderFrame [0, 5]) [] ∧ s.unit.mode = .maintenance
          ∧ Matches s.gate.permits 30 9 0 { permit 9 with maint := false })
      ∧ (let s := ordered (onUnit service fun u => { u with causes := CauseSet.empty.join .skewTrip })
          { permit 9 with standdown := false } [0, 5];
        s.unit.causes ≠ CauseSet.empty ∧ Matches s.gate.permits 30 9 0 { permit 9 with standdown := false })
      ∧ (let s := ordered (inPhase .lifting .lifting []) (permit 9) [0, 5];
        FlagsPass s (permit 9) ∧ ¬OwnedPass s (permit 9))
      ∧ (let s := ordered (onSpan service fun p => { p with motion := .lowering
                                                            record := some { spanRecord with startUp := 9, a := { spanRecord.a with hoist := 30 } } })
          { permit 9 with owned := false } [0, 5];
        FlagsPass s { permit 9 with owned := false } ∧ OwnedPass s { permit 9 with owned := false } ∧ ¬MotionPass s 30 9)
      ∧ (Outside { permit 9 with clamp := false } (orderArg (orderFrame [0, 101])) = true
        ∧ Outside { permit 9 with clamp := false } (orderArg (orderFrame [255, 255])) = true
        ∧ Outside { permit 9 with clamp := false } (orderArg (orderFrame [0, 100])) = false)
      ∧ (let p := { permit 9 with required := [3], hold := false };
        ReachesCheckSeven (ordered service p [0, 101]) (orderFrame [0, 101]) 0 p
          ∧ LowestFailing (ordered service p [0, 101]) p.required 3 ∧ p.hold = false) := by
  refine ⟨rfl, ⟨served_order _ _ _ rfl rfl (by decide), rfl⟩, fun n q h g => ?_,
    ⟨served_order _ _ _ rfl rfl (by decide), rfl, matches_ordered _ _ _ rfl rfl⟩, ⟨by decide, matches_ordered _ _ _ rfl rfl⟩,
    ⟨⟨by decide, by decide, by decide⟩, fun h => ?_⟩,
    ⟨⟨by decide, by decide, by decide⟩, (fun h => nomatch h), fun h => ?_⟩, by decide,
    ⟨matches_ordered _ _ _ rfl rfl, ⟨by decide, by decide, by decide⟩, fun _ => .inr rfl, no_start _ (by decide),
      fun _ => rfl⟩, ⟨by decide, by decide +kernel, fun d hd _ => ?_⟩, rfl⟩
  · obtain ⟨-, rfl⟩ := look_permits _ _ _ h
    exact absurd g.1 (by decide)
  · exact absurd (h rfl) (by decide)
  · exact absurd (h .a true ((State.startOf_eq_some _ _ _ _ _).mp (by decide))).2 (by decide)
  · have : d = 3 := by simpa using hd
    omega

theorem witness_AdmissionQueuesOrHolds :
    (let s := ordered (onGate service fun g => { g with orders := List.replicate 7 (order 31 []) }) (permit 9) [0, 100];
      Serves s (orderFrame [0, 100]) [] ∧ ReachesCheckSeven s (orderFrame [0, 100]) 0 (permit 9)
        ∧ AllTrue s (permit 9).required ∧ s.gate.orders.length < 8)
    ∧ 8 ≤ (onGate service fun g => { g with orders := List.replicate 8 (order 31 []) }).gate.orders.length
    ∧ (let p := { permit 9 with required := [3] };
      let s := ordered (onGate service fun g => { g with held := (List.range 7).map fun n => order n [3] }) p [0, 100];
      Serves s (orderFrame [0, 100]) [] ∧ ReachesCheckSeven s (orderFrame [0, 100]) 0 p
        ∧ LowestFailing s p.required 3 ∧ p.hold = true ∧ s.gate.held.length < 8
        ∧ (∀ r ∈ s.gate.held, ¬(r.node = orderNode (orderFrame [0, 100]) ∧ r.cls = orderClass (orderFrame [0, 100])))
        ∧ 8 ≤ (onGate service fun g => { g with held := (List.range 8).map fun n => order n [3] }).gate.held.length)
    ∧ (let pre := (List.range 7).map fun n => order n [3];
      let s := onGate service fun g => { g with held := pre ++ order 30 [3] :: [] };
      s.gate.held = pre ++ order 30 [3] :: [] ∧ (order 30 [3]).node = 30 ∧ (order 30 [3]).cls = 9
        ∧ (order 30 [3]).origin = .console 9 ∧ s.gate.held.length ≤ 8 ∧ ∀ r ∈ pre, ¬(r.node = 30 ∧ r.cls = 9)) := by
  refine ⟨⟨served_order _ _ _ rfl rfl (by decide), ⟨matches_ordered _ _ _ rfl rfl, ⟨by decide, by decide, by decide⟩,
      fun _ => .inr rfl, no_start _ (by decide), fun _ => rfl⟩, (fun c h => nomatch h), by decide⟩, by decide,
    ⟨served_order _ _ _ rfl rfl (by decide), ⟨matches_ordered _ _ _ rfl rfl, ⟨by decide, by decide, by decide⟩,
      fun _ => .inr rfl, no_start _ (by decide), fun _ => rfl⟩, ⟨by decide, by decide +kernel, fun d hd _ => ?_⟩, rfl,
      by decide, by decide +kernel, by decide⟩, by decide +kernel⟩
  have : d = 3 := by simpa using hd
  omega

theorem witness_HeldOrdersAreReleasedOrExpire :
    let s := fun n => onGate service fun g =>
      { g with sets := 1, orders := List.replicate n (order 31 []), held := [order 1 [3], order 2 [], order 3 []] }
    let ready := fun r : OrderRecord => r.required.all (standsTrue service.cond.states)
    ((s 8).power = .running ∧ (s 8).gate.sets = 0 + 1 ∧ (s 8).gate.orders.length ≤ 8)
      ∧ ((s 6).gate.held.filter ready).length ≤ 8 - (s 6).gate.orders.length
      ∧ ((s 7).gate.held = [order 1 [3], order 2 []] ++ order 3 [] :: [] ∧ ready (order 3 []) = true
        ∧ ([order 1 [3], order 2 []].filter ready).length = 8 - (s 7).gate.orders.length) := by
  decide +kernel

/-- One held order at its deadline, one a millisecond before it. -/
theorem witness_HeldOrdersAreReleasedOrExpire_deadline :
    let s := onGate service fun g =>
      { g with held := [{ order 1 [3] with deadline := some 1000 }, { order 2 [] with deadline := some 1001 }] }
    s.power = .running ∧ (∀ r ∈ s.gate.held, FromConsole r) ∧ timerDue s.now (some 1000) = true
      ∧ timerDue s.now (some 1001) = false ∧ LowestFailing s [3] 3 ∧ AllTrue s [] := by
  refine ⟨rfl, fun r h => ?_, by decide, by decide, ⟨by decide, by decide +kernel, fun d hd _ => ?_⟩, fun _ h => nomatch h⟩
  · simp only [onGate, State.setGate_gate, List.mem_cons, List.mem_nil_iff, or_false] at h
    rcases h with rfl | rfl <;> exact ⟨9, rfl⟩
  · exact (List.mem_singleton.1 hd).ge

theorem witness_StandDownCancelsTheQueues :
    let own : OrderRecord := { order 30 [] with origin := .sequencer 0 0 }
    let s := onGate service fun g => { g with standdowns := 1, orders := [order 1 []], held := [order 2 [3]], own := [own] }
    s.power = .running ∧ s.gate.standdowns = 0 + 1 ∧ (∀ r ∈ s.gate.orders ++ s.gate.held, FromConsole r ∧ r.memory = none)
      ∧ ∀ r ∈ s.gate.own, r.memory = none ∧ ∃ serial place, r.origin = .sequencer serial place := by
  refine ⟨rfl, rfl, fun r h => ?_, fun r h => ?_⟩
  · simp only [onGate, State.setGate_gate, List.cons_append, List.nil_append, List.mem_cons, List.mem_nil_iff,
      or_false] at h
    rcases h with rfl | rfl <;> exact ⟨⟨9, rfl⟩, rfl⟩
  · simp only [onGate, State.setGate_gate, List.mem_singleton] at h
    subst h
    exact ⟨rfl, 0, 0, rfl⟩

/-- A GREEN or a RED passes the checks of the gate. -/
theorem signal_passes (s : State) (node : Nat) (arg : Int) (h : s.gate.permits = permits (permit 9)) (hn : 1 ≤ node)
    (hn' : node ≤ 100) (hm : s.unit.mode ≠ .init) (hs : s.startOf node 9 = none) (h0 : 0 ≤ arg) (h1 : arg ≤ 100)
    (ho : s.gate.own.length < 12) : OwnPasses s node 9 arg 0 (permit 9) :=
  ⟨matches_first _ _ _ _ (by rw [h]; simp [permits]) (governs_any 9 node hn hn'), ⟨hm, fun _ => rfl, fun _ => rfl⟩,
    fun t up h' => absurd h' ((State.startOf_eq_none _ _ _).mp hs t up), h0, h1, rfl, ho⟩

/-- A signal order reaches the own-order queue. -/
theorem red_admitted (s : State) (node : Nat) (h : OwnPasses s node 9 0 0 (permit 9)) : OwnAdmitted s node 9 0 0 (permit 9) :=
  let ⟨a, b, c, _, _, _, g⟩ := h
  ⟨a, b, c, fun _ => rfl, (fun _ h => nomatch h), g⟩

/-- 05:R91, 08:R149, R153: a stand-down entry cancels a RED and a GREEN; the RED, still wanted, is outstanding again, alone. -/
theorem test_red_is_offered_again :
    let s := after1 .gateStanddownCancel (onGate (onChan service fun c =>
        { c with north := { redSignal with redWanted := true, outstanding := [.red] }, south := { redSignal with outstanding := [.green] } })
      fun g => { g with standdowns := 1, own := [signalOrder .north .red, signalOrder .south .green] })
    s.gate.own = [signalOrder .north .red] ∧ s.chan.north.outstanding = [.red] ∧ s.chan.south.outstanding = [] := by
  decide +kernel

/-- A RED alone in the own-order queue, wanted and outstanding; a GREEN; and one of each origin. -/
theorem witness_StandDownCancelsTheQueues_signals :
    let red := signalOrder .north .red
    let green := signalOrder .south .green
    let s := onGate (onChan service fun c =>
        { c with north := { redSignal with redWanted := true, outstanding := [.red] }, south := { redSignal with outstanding := [.green] } })
      fun g => { g with standdowns := 1, own := [red] }
    (s.power = .running ∧ s.gate.standdowns = 0 + 1 ∧ s.gate.orders = [] ∧ s.gate.held = [] ∧ s.gate.own = [red]
        ∧ red.memory = none ∧ red.origin = .channel .north .red ∧ s.chan.record = some channelRecord
        ∧ (s.chan.signal .north).redWanted = true ∧ (s.chan.signal .north).outstanding = [.red]
        ∧ OwnAdmitted (s.setGate { s.gate with own := [] }) (channelRecord.node .north) channelRecord.cls 0 0 (permit 9))
      ∧ ((onGate s fun g => { g with own := [green] }).gate.own = [green] ∧ green.origin = .channel .south .green)
      ∧ ∀ r ∈ [order 1 []] ++ [order 61 [3]] ++ [ownOrder 30, red, green], r.memory = none := by
  refine ⟨⟨rfl, rfl, rfl, rfl, rfl, rfl, rfl, rfl, rfl, rfl, red_admitted _ _ (signal_passes _ _ _ rfl ?_ ?_ ?_ ?_ ?_ ?_ ?_)⟩,
    ⟨rfl, rfl⟩, by decide⟩
  all_goals decide

/-! ### Witnesses: the span -/

theorem witness_HeightsAndTrimsAreRounded :
    let s := onSpan service fun p => { p with lastTrim := 33 }
    let u := trimOf 88 96 50
    (u = s.span.lastTrim ∧ (trimOf 90 96 50 - s.span.lastTrim).natAbs < 2)
      ∧ (1 ≤ (trimOf 90 96 50 - s.span.lastTrim).natAbs ∧ trimOf 90 96 50 ≠ s.span.lastTrim) := by
  decide +kernel

/-- A span in motion since time stood at 0, hoist B's last update at 970. -/
def moving (m : MotionState) : State :=
  onSpan service fun p =>
    { p with
      motion := m, motionStart := some 0, previous := some { mean := 1, time := 900 }
      towerB := { p.towerB with latest := some { raw := 0, height := 39600, time := 970 } } }

/-- Pairs at the ends of the window, on both sides, at rest, in motion and in STOPPING, with the skew at the trip and past
it, and the tower at the last update that is no stall. -/
theorem witness_PairIsFormed :
    (∀ m, EncodersInField (moving m) ∧ (moving m).unit.limits = some limits ∧ (moving m).span.record = some spanRecord
        ∧ (moving m).unit.mode ≠ .init
        ∧ ((moving m).span.tower Tower.a.other).latest = some { raw := 0, height := 39600, time := 970 })
      ∧ (((1000 : Time) - 970).toNat ≤ limits.window ∧ ((970 : Time) - 940).toNat ≤ limits.window)
      ∧ (∀ m, WatchesPass (moving m) spanRecord .a 412345 1000)
      ∧ WatchesPass (onSpan (moving .raising) fun p => { p with towerA := { p.towerA with
          unchanged := 8, latest := some { raw := 412345, height := 40000, time := 900 } } }) spanRecord .a 412345 1000
      ∧ (limits.tSkew < (spanRecord.a.height 412345 - 39599).natAbs
        ∧ (spanRecord.a.height 412345 - 39600).natAbs ≤ limits.tSkew)
      ∧ service.span.previous = none ∧ (1000 : Time) ≠ 900
      ∧ (inMode .init (moving .raising)).unit.mode = .init
      ∧ (onUnit (moving .raising) fun u => { u with limits := none }).unit.limits = none
      ∧ (onSpan (moving .raising) fun p => { p with record := none }).span.record = none := by
  refine ⟨fun m => ⟨encoders_in_field _ rfl, rfl, rfl, by show Mode.service ≠ .init; decide, rfl⟩, by decide,
    fun m _ => ⟨by decide +kernel, fun t0 _ => .inr (show 0 < 10 by decide)⟩,
    fun _ => ⟨by decide +kernel, fun t0 _ => .inr (by decide +kernel)⟩, by decide +kernel, rfl, by decide, rfl, rfl, rfl⟩

/-- Zone 1, to 80,000 mm, with a limit of 100 mm/s. -/
def slow : LimitRecord := { limits with z1 := { bound := 80000, speed := 100 } }

theorem witness_PairStagesAct :
    let s := onUnit (moving .raising) fun u => { u with limits := some slow }
    let down := moving .lowering
    let stopping := fun k run => onSpan (moving .stopping) fun p => { p with stopKind := some k, standstillRun := run }
    (s.unit.limits = some slow ∧ s.span.record = some spanRecord ∧ Moving s ∧ ¬Moving (stopping .fault 0))
      ∧ (let c := fun v => ((s.correctionStage slow 50).bandStage spanRecord v).overspeedStage slow 59900 v
        ¬Moving (((onSpan s fun p => { p with overspeedRun := 1 }).correctionStage slow 50).bandStage spanRecord 101
            |>.overspeedStage slow 59900 101)
          ∧ Moving (c 100) ∧ ¬Moving ((c 100).arrivalStage spanRecord 59900)
          ∧ Moving ((c 100).arrivalStage spanRecord 59899))
      ∧ (s.span.correction = .acquire ∧ slow.eTrk < (51 : Int).natAbs ∧ (-50 : Int).natAbs ≤ slow.eTrk
        ∧ min (2 + 1) 15 < slow.nTrk ∧ slow.nTrk ≤ min (3 + 1) 15)
      ∧ ((onSpan s fun p => { p with correction := .track }).span.correction = .track ∧ (-80 : Int).natAbs ≤ slow.xTrk
        ∧ slow.xTrk < (81 : Int).natAbs)
      ∧ (spanRecord.b1 ≤ spanRecord.b2 ∧ spanRecord.b2 ≤ spanRecord.b3 ∧ spanRecord.b3 ≤ spanRecord.b4)
      ∧ (spanRecord.b4 < (-401 : Int).natAbs ∧ InBand spanRecord 100 0 ∧ InBand spanRecord (-101) 1 ∧ InBand spanRecord 300 2
        ∧ InBand spanRecord 400 3 ∧ s.duty.frozen = false)
      ∧ ((-100 : Int).natAbs ≤ ZoneLimit slow 80000 ∧ ZoneLimit slow 80000 < (101 : Int).natAbs ∧ s.span.overspeedRun = 0)
      ∧ (Arrives spanRecord s.span.motion 59900 ∧ ¬Arrives spanRecord s.span.motion 59899
        ∧ Arrives spanRecord down.span.motion 100 ∧ ¬Arrives spanRecord down.span.motion 101)
      ∧ ((stopping .fault 2).span.motion = .stopping ∧ spanRecord.standstill < (-6 : Int).natAbs
        ∧ (5 : Int).natAbs ≤ spanRecord.standstill ∧ (stopping .fault 1).span.standstillRun < 2
        ∧ 2 ≤ (stopping .arrival 2).span.standstillRun ∧ (stopping .arrival 2).span.stopKind = some .arrival
        ∧ (stopping .fault 2).span.stopKind = some .fault) := by
  unfold Moving InBand Arrives
  refine ⟨?_, ?_, ?_, ?_, ?_, ?_, ?_, ?_, ?_⟩ <;> (try dsimp only) <;> decide +kernel

/-- A moving span whose tower A has stood still for its last ten updates, and whose trims have failed twice. -/
def losing : State :=
  onSpan (moving .raising) fun p => { p with pairMisses := 3, towerA := { p.towerA with unchanged := 10, trimLoss := 2 } }

theorem witness_LossesStopTheMotion :
    (losing.unit.limits = some limits ∧ losing.span.record = some spanRecord ∧ EncodersInField losing
        ∧ losing.unit.mode ≠ .init ∧ losing.unit.causes = CauseSet.empty)
      ∧ ((∀ u, (losing.span.tower Tower.a.other).latest = some u →
          limits.window < ((1001 : Time) - u.time).toNat ∧ limits.window < (u.time - (1001 : Time)).toNat)
        ∧ WatchesPass (moving .raising) spanRecord .a 412345 1001)
      ∧ (min (2 + 1) 255 < limits.missLimit ∧ limits.missLimit ≤ min (losing.span.pairMisses + 1) 255
        ∧ losing.span.pairLost = false ∧ (onSpan losing fun p => { p with pairLost := true }).span.pairLost = true)
      ∧ (let before := service.setPoints { service.points with
          points := put service.points.points 1 { Point.first with freshness := .fresh } }
        (before.point (spanRecord.tower .b).encoder).freshness = .fresh
          ∧ (service.point (spanRecord.tower .b).encoder).freshness ≠ .fresh)
      ∧ (Moving losing ∧ ¬Moving service ∧ (inMode .init losing).unit.mode = .init
        ∧ (onUnit losing fun u => { u with limits := none }).unit.limits = none
        ∧ (spanRecord.tower .b).outOfRange 16777215 = true)
      ∧ (losing.span.motionStart = some 0 ∧ spanRecord.stallGrace ≤ (losing.now - 0).toNat
        ∧ spanRecord.stallLimit ≤ (losing.span.tower .a).unchanged ∧ ¬spanRecord.stallLimit ≤ (losing.span.tower .b).unchanged)
      ∧ (FailedOnLink .garbled ∧ ¬FailedOnLink .cancelled ∧ 2 ≤ (losing.span.tower .a).trimLoss
        ∧ (losing.span.tower .b).trimLoss < 2) := by
  refine ⟨⟨rfl, rfl, encoders_in_field _ rfl, by decide, rfl⟩, ⟨fun u h => ?_, fun _ =>
    ⟨by decide +kernel, fun t0 _ => .inr (show 0 < 10 by decide)⟩⟩, by decide, by decide +kernel,
    by unfold Moving; decide +kernel, by decide, by unfold FailedOnLink; decide⟩
  injection h with h; subst h
  decide

/-- 06:R102, R116: the tenth unchanged update after the grace is ENCODER STALL A, and the update still forms its pair. -/
theorem test_stall_is_paired :
    let s := (onSpan losing fun p =>
      { p with towerA := { p.towerA with unchanged := 9, latest := some { raw := 412345, height := 40000, time := 900 } } }).encoderUpdate
        .a 412345 1000
    s.span.motion = .stopping ∧ lastPayload s = [2, 0, 3] ∧ s.span.previous = some { mean := 39800, time := 1000 }
      ∧ (s.point 114).value = 400 := by
  decide +kernel

/-- Stage 4 stops a motion: a saturated height of tower B, with no partner; and a stall of tower A at the grace and at the
limit, with a partner at the end of the window and one past it. -/
theorem witness_LossesStopTheMotion_watches :
    let stalled := onSpan losing fun p =>
      { p with towerA := { p.towerA with unchanged := 9, latest := some { raw := 412345, height := 40000, time := 900 } } }
    (WatchStops losing spanRecord .b 16777215 1000 .heightRange ∧ (losing.span.tower Tower.b.other).latest = none)
      ∧ WatchStops stalled spanRecord .a 412345 1000 .encoderStallA
      ∧ (∀ u, (stalled.span.tower Tower.a.other).latest = some u → WithinWindow limits 1000 u ∧ ¬WithinWindow limits 1001 u)
      ∧ EncodersInField stalled ∧ stalled.unit.mode ≠ .init := by
  refine ⟨⟨⟨.inl rfl, .inl ⟨by decide +kernel, rfl⟩⟩, rfl⟩,
    ⟨.inl rfl, .inr ⟨by decide +kernel, ⟨0, rfl, by decide +kernel, by decide +kernel⟩, rfl⟩⟩, fun u h => ?_,
    encoders_in_field _ rfl, by decide⟩
  injection h with h; subst h
  unfold WithinWindow
  decide

/-- Hoist A is raised; hoist B is lowered. -/
theorem witness_StartsAreSupervised :
    let rest := onSpan service fun p => { p with motion := .stopped }
    let known := (moving .raising).setPoints
      { service.points with
        points := put (put (put service.points.points 0 { Point.first with freshness := .fresh }) 1
          { Point.first with freshness := .fresh }) 125 { Point.first with value := 1 } }
    let window := fun h => onSpan (moving .raising) fun p =>
      { p with startWindow := some { hoist := h, up := true, expiry := 1500 } }
    ((∀ x up, ¬IsStart service 30 9 x up) ∧ IsStart service 51 1 .a true ∧ IsStart service 52 2 .b false
        ∧ service.span.record = some spanRecord ∧ service.span.motion = .idle ∧ rest.span.motion = .stopped)
      ∧ ((inMode .init service).unit.mode = .init ∧ service.unit.mode ≠ .init ∧ service.unit.causes = CauseSet.empty
        ∧ (onUnit service fun u => { u with causes := CauseSet.empty.join .skewTrip }).unit.causes ≠ CauseSet.empty
        ∧ (onUnit service fun u => { u with limits := none }).unit.limits = none ∧ service.unit.limits = some limits)
      ∧ ((known.point 125).value ≠ 0 ∧ SkewKnown known spanRecord ∧ (service.point 125).value = 0
        ∧ ¬SkewKnown service spanRecord)
      ∧ ((moving .raising).span.motion = .raising ∧ (moving .lowering).span.motion = .lowering
        ∧ (window .b).span.startWindow = some { hoist := .b, up := true, expiry := 1500 } ∧ Tower.b ≠ .a
        ∧ (moving .raising).span.startWindow = none)
      ∧ (moving .stopping).span.motion = .stopping := by
  simp only [← State.startOf_eq_none]
  simp only [← State.startOf_eq_some]
  unfold SkewKnown
  decide +kernel

/-- The timers of the span run, due at 1000 or one later. -/
def timers (m : MotionState) (due : Time) (p : Phase) : State :=
  onSeq (onSpan service fun x =>
    { x with
      motion := m, holdRunning := true, lastHold := some (due - 301)
      startWindow := some { hoist := .a, up := true, expiry := due }, stopTimer := some due }) fun x => { x with phase := p }

theorem witness_SpanTimersAct :
    (let s := onConsole service fun c =>
        { c with arrivals := [{ frame := { kind := 3, node := 0, tag := 0, payload := [] }, time := 990 }] };
      s.power = .running ∧ s.points.gather = none ∧ s.console.arrivals.map (·.frame.kind) = [3])
    ∧ (let s := timers .raising 1000 .channelOpen;
      HoldInterval s 300 ∧ (s.span.holdRunning = true ∧ s.span.lastHold = some 699 ∧ 300 < (s.now - 699).toNat
        ∧ s.span.motion = .raising ∧ s.unit.limits = some limits ∧ s.span.record = some spanRecord
        ∧ ¬FaultedByStop s.seq.phase
        ∧ s.span.startWindow = some { hoist := .a, up := true, expiry := 1000 } ∧ due s.now 1000 = true))
    ∧ (let s := timers .lowering 1000 .lifting;
      FaultedByStop s.seq.phase ∧ s.unit.maintenancePending = false ∧ s.span.motion = .lowering)
    ∧ (let s := timers .raising 1001 .channelOpen;
      s.span.lastHold = some 700 ∧ (s.now - 700).toNat ≤ 300 ∧ due s.now 1001 = false)
    ∧ (let s := timers .stopping 1000 .channelOpen;
      s.span.motion ≠ .raising ∧ s.span.motion ≠ .lowering ∧ s.span.stopTimer = some 1000 ∧ s.span.motion = .stopping
        ∧ s.unit.causes = CauseSet.empty
        ∧ (onUnit s fun u => { u with causes := CauseSet.empty.join .skewTrip }).unit.causes ≠ CauseSet.empty) := by
  refine ⟨by decide +kernel, ⟨⟨fun l h => ?_, (fun h => nomatch h)⟩, by unfold FaultedByStop; decide +kernel⟩,
    by unfold FaultedByStop; decide +kernel, by decide, by decide⟩
  injection h with h; subst h; rfl

/-! ### Witnesses: the crossing -/

/-- A sequencer ready to advance to phase q, a change set waiting for it. -/
def readyFor (p q : Phase) (orders : List EntryOrder) : State :=
  onSeq (inPhase p q orders) fun x => { x with dwell := .elapsed, sets := 1 }

/-- A phase with no entry of its own is ready once its dwell is over and its orders are done. -/
theorem phase_ready (s : State) (hw : Working s.seq.phase) (ht : ∀ x ∈ s.seq.tracking, x = .done) (hd : s.seq.dwell = .elapsed)
    (he : look s.seq.table s.seq.phase.num none = none)
    (hr : (s.seq.phase = .roadOpen → s.seq.request = .openRequest)
      ∧ (s.seq.phase = .channelOpen → s.seq.request = .closeRequest)
      ∧ (s.seq.phase = .channelClosing → s.chan.state = .closed)) : PhaseReady s :=
  ⟨hw.1, hw.2, ht, hd, (fun _ _ h => nomatch he.symm.trans h), hr⟩

/-- A phase whose dwell has not elapsed is not ready. -/
theorem not_ready (s : State) (hd : s.seq.dwell ≠ .elapsed) : ¬PhaseReady s := fun h => hd h.2.2.2.1

/-- An entry order to node 30 of class 9. -/
def entryOrder : EntryOrder := { node := 30, cls := 9, arg := 100 }

theorem witness_AdvanceNeedsAReadyPhase :
    (let u := onSeq (readyFor .warning .entryGates []) fun x => { x with sets := 0 };
      (readyFor .warning .entryGates []).seq.sets = 0 + 1 ∧ PhaseReady u ∧ HasEntry u .entryGates (phaseOf []) []
        ∧ Phase.warning.successor false = .entryGates)
      ∧ (let s := onSeq (inPhase .warning .entryGates [entryOrder]) fun x => { x with dwell := .running 1000 };
        let u := onSeq s fun x => { x with dwell := .elapsed };
        (s.power = .running ∧ s.points.gather = none ∧ s.unit.maintenancePending = false ∧ s.seq.dwell = .running 1000
            ∧ due s.now 1000 = true)
          ∧ PhaseReady u ∧ HasEntry u .entryGates (phaseOf [entryOrder]) [entryOrder]
          ∧ OwnPasses u entryOrder.node entryOrder.cls entryOrder.arg 0 (permit 9))
      ∧ ¬PhaseReady (inPhase .roadOpen .warning [])
      ∧ (∀ e, (onSeq service fun x => { x with dwell := .running 1001 }).seq.dwell = .running e → due service.now e = false)
      ∧ ∀ e, (onSeq service fun x => { x with dwell := .elapsed }).seq.dwell ≠ .running e := by
  refine ⟨⟨rfl, phase_ready _ ?_ ?_ ?_ ?_ ?_, ⟨by decide +kernel, rfl, by decide⟩, rfl⟩,
    ⟨by decide +kernel, phase_ready _ ?_ ?_ ?_ ?_ ?_, ⟨by decide +kernel, rfl, by decide⟩, matches_service 9,
      ⟨by decide, by decide, by decide⟩, no_start _ (by decide), by decide +kernel⟩, not_ready _ (by decide),
    fun e h => not_due e (by injection h with h; rw [h]), fun e => nofun⟩
  all_goals first
    | (unfold Working; decide +kernel)
    | decide +kernel

/-- The present entry in phase 1, which has offered its one order; its result is awaited. -/
def entered (dwell : Dwell) : State :=
  onSeq (inPhase .warning .entryGates []) fun x => { x with serial := 7, tracking := [.awaiting], dwell := dwell }

theorem witness_EntryOrdersEnd :
    (let s := entered .elapsed
      let placed := onSeq s fun x => { x with tracking := x.tracking.set 0 .done }
      (s.points.gather = none ∧ s.unit.maintenancePending = false ∧ (7 : BitVec 16) = s.seq.serial ∧ Working s.seq.phase
          ∧ (6 : BitVec 16) ≠ s.seq.serial ∧ ¬Working (inPhase .halted .warning []).seq.phase ∧ FailedOnLink .noAnswer)
        ∧ ¬PhaseReady (entered (.running 5000)) ∧ PhaseReady placed ∧ HasEntry s .entryGates (phaseOf []) [])
      ∧ (let s := inPhase .warning .warning [entryOrder]
        look s.seq.table Phase.warning.num none = some (phaseOf [entryOrder]) ∧ Working s.seq.phase
          ∧ OwnAdmitted s 30 9 100 0 (permit 9) ∧ OwnAdmitted s 30 9 101 0 (permit 9)) := by
  refine ⟨⟨by unfold Working FailedOnLink; decide +kernel, not_ready _ (by decide), phase_ready _ ?_ ?_ ?_ ?_ ?_,
      ⟨by decide +kernel, rfl, by decide⟩⟩,
    ⟨by decide +kernel, by unfold Working; decide +kernel, ⟨matches_service 9, ⟨by decide, by decide, by decide⟩,
      no_start _ (by decide), fun _ => rfl, (fun _ h => nomatch h), by decide⟩, matches_service 9, ⟨by decide, by decide, by decide⟩,
      no_start _ (by decide), fun _ => rfl, (fun _ h => nomatch h), by decide⟩⟩
  all_goals first
    | (unfold Working; decide +kernel)
    | decide +kernel

/-- An own order to node 30 of class 9 is refused by each check in turn, and for want of room. -/
theorem witness_EntryOrdersEnd_refused :
    OwnRefused (inMode .init service) 30 9 100 .notReady
      ∧ OwnRefused (onGate service fun g => { g with permits := Gate.reset.permits }) 30 9 100 .noPermit
      ∧ (let refusedBy := fun (s : State) (p : Permit) (arg : Int) x =>
          OwnRefused (onGate s fun g => { g with permits := permits p }) 30 9 arg x
        refusedBy (inMode .maintenance service) { permit 9 with maint := false } 100 .maintenance
          ∧ refusedBy (onUnit service fun u => { u with causes := CauseSet.empty.join .skewTrip })
            { permit 9 with standdown := false } 100 .standdown
          ∧ refusedBy (onSpan service fun p =>
              { p with motion := .stopping, record := some { spanRecord with startUp := 9, a := { spanRecord.a with hoist := 30 } } })
            (permit 9) 100 .motionBusy
          ∧ refusedBy service { permit 9 with clamp := false } 101 .argument
          ∧ refusedBy service { permit 9 with required := [3] } 100 .refusedCondition
          ∧ refusedBy (onGate service fun g => { g with own := List.replicate 12 (ownOrder 30) }) (permit 9) 100 .queueFull) := by
  have first : ∀ (s : State) p, p.node = none → p.cls = 9 →
      Matches (onGate s fun g => { g with permits := permits p }).gate.permits 30 9 0 p := fun s p hn hc =>
    matches_first _ _ _ _ (by simp [onGate, permits]) ⟨hc, .inr ⟨hn, by decide, by decide⟩⟩
  have flags : ∀ p, FlagsPass service p := fun p => ⟨by decide, (fun h => nomatch h), fun h => absurd rfl h⟩
  refine ⟨.inl ⟨rfl, rfl⟩, .inr (.inl ⟨by decide, fun n p h => ?_, rfl⟩),
    .inr (.inr ⟨0, _, by decide, first _ _ rfl rfl, .inl ⟨rfl, rfl, rfl⟩⟩),
    .inr (.inr ⟨0, _, by decide, first _ _ rfl rfl, .inr (.inl ⟨(fun h => nomatch h), by decide, rfl, rfl⟩)⟩),
    .inr (.inr ⟨0, _, by decide, first _ _ rfl rfl, .inr (.inr (.inl ⟨flags _, fun h => ?_, rfl⟩))⟩),
    .inr (.inr ⟨0, _, by decide, first _ _ rfl rfl, .inr (.inr (.inr (.inl ⟨flags _, no_start _ (by decide), by decide, rfl⟩)))⟩),
    .inr (.inr ⟨0, _, by decide, first _ _ rfl rfl, .inr (.inr (.inr (.inr (.inl ⟨flags _, no_start _ (by decide),
      fun _ => rfl, fun h => ?_, rfl⟩))))⟩),
    .inr (.inr ⟨0, _, by decide, first _ _ rfl rfl, .inr (.inr (.inr (.inr (.inr ⟨flags _, no_start _ (by decide),
      fun _ => rfl, (fun _ h => nomatch h), by decide, rfl⟩))))⟩)⟩
  · simp [onGate, Gate.reset] at h
  · exact absurd rfl (h .a true ((State.startOf_eq_some ..).mp (by decide))).1
  · exact absurd (h 3 (by decide)) (by decide +kernel)

/-- An entry into phase 6 from anywhere, and a ready phase with each kind of successor. -/
theorem witness_EntriesRunOn :
    Working .channelOpen ∧ Working .roadOpen ∧ ¬PhaseReady (inPhase .halted .warning [])
      ∧ (let s := readyFor .roadProof .lifting [];
        PhaseReady s ∧ (s.seq.phase, Phase.lifting) ∈ successors s.seq.recovery)
      ∧ (let s := onSeq (readyFor .roadProof .lifting []) fun x => { x with recovery := true };
        PhaseReady s ∧ (s.seq.phase, Phase.lowering) ∈ successors s.seq.recovery) := by
  refine ⟨by unfold Working; decide, by unfold Working; decide, not_ready _ (by decide), ⟨phase_ready _ ?_ ?_ ?_ ?_ ?_, by decide⟩,
    ⟨phase_ready _ ?_ ?_ ?_ ?_ ?_, by decide⟩⟩
  all_goals first
    | (unfold Working; decide +kernel)
    | decide +kernel

theorem witness_PhaseFaultsHaltTheCrossing :
    (let s := onSeq (inPhase .roadRelease .roadOpen []) fun x => { x with limit := some 1000, standdowns := 1 };
      s.power = .running ∧ s.points.gather = none ∧ s.unit.maintenancePending = false ∧ s.seq.limit = some 1000
        ∧ due s.now 1000 = true ∧ Working s.seq.phase ∧ s.seq.standdowns = 0 + 1 ∧ s.seq.phase ≠ .roadOpen
        ∧ ¬Working (inPhase .halted .roadOpen []).seq.phase ∧ ¬Working (inPhase .inactive .roadOpen []).seq.phase)
      ∧ (let s := asked (onSpan (inPhase .lifting .roadOpen []) fun p => { p with motion := .raising }) (request [17]);
        Serves s (request [17]) [] ∧ Request (request [17]) 17 1 ∧ s.unit.mode = .service ∧ Working s.seq.phase
          ∧ s.seq.phase ≠ .roadOpen ∧ s.span.motion = .raising ∧ s.unit.limits = some limits
          ∧ s.span.record = some spanRecord)
      ∧ ((asked (inMode .maintenance service) (request [17])).unit.mode ≠ .service
        ∧ (inPhase .roadOpen .roadOpen []).seq.phase = .roadOpen)
      ∧ (let s := onUnit (readyFor .roadRelease .roadOpen []) fun u => { u with maintenancePending := true };
        (s.unit.maintenancePending = true ∧ s.unit.mode = .service ∧ s.seq.sets = 0 + 1 ∧ s.seq.phase = .roadRelease
          ∧ (onSeq s fun x => { x with limit := some 1000 }).seq.limit = some 1000) ∧ PhaseReady s)
      ∧ (∀ e, (onSeq service fun x => { x with limit := some 1001 }).seq.limit = some e → due service.now e = false)
      ∧ service.seq.limit = none := by
  refine ⟨by unfold Working; decide +kernel, ⟨served _ _ rfl rfl (by decide), ⟨by decide, by decide, by decide⟩,
    by unfold Working; decide +kernel⟩, by decide, ⟨by decide +kernel, phase_ready _ ?_ ?_ ?_ ?_ ?_⟩, not_due, rfl⟩
  all_goals first
    | (unfold Working; decide +kernel)
    | decide +kernel

theorem request_one (c : Byte) : Request (request [c]) c.toNat 1 := ⟨rfl, rfl, rfl⟩

theorem witness_SequenceRequestsAreJudged :
    (let s := asked (inPhase .roadOpen .warning []) (request [15]);
      Serves s (request [15]) [] ∧ (∀ c, Request (request [c]) c.toNat 1)
        ∧ (s.points.gather = none ∧ s.unit.maintenancePending = false ∧ s.unit.mode = .service ∧ s.seq.phase = .roadOpen
          ∧ s.seq.phase ≠ .channelOpen ∧ s.seq.phase ≠ .halted)
        ∧ ¬PhaseReady ((responded s (request [15]) [] 0 0 []).setSeq { s.seq with request := .openRequest })
        ∧ HasEntry s (Phase.roadOpen.successor false) (phaseOf []) []
        ∧ (asked (inMode .maintenance service) (request [15])).unit.mode ≠ .service)
      ∧ (let s := onSeq (inPhase .halted .gatesRaising []) fun x => { x with interrupted := some (.phase .warning) };
        (s.seq.phase = .halted ∧ s.seq.interrupted = some (.phase .warning) ∧ Working .warning
            ∧ s.unit.causes = CauseSet.empty ∧ (Phase.warning, Phase.gatesRaising) ∈ reversals)
          ∧ (∀ x ∈ reversals, x.1.reverse = some x.2) ∧ HasEntry s .gatesRaising (phaseOf []) [])
      ∧ (let s := onSeq (inPhase .halted .warning []) fun x => { x with interrupted := some (.phase .warning) };
        HasEntry s .warning (phaseOf []) []
          ∧ (onUnit s fun u => { u with causes := CauseSet.empty.join .skewTrip }).unit.causes ≠ CauseSet.empty
          ∧ (onSeq s fun x => { x with interrupted := some (.phase .roadOpen) }).seq.interrupted = some (.phase .roadOpen))
      ∧ (let s := onSeq (inPhase .halted .entryGates []) fun x => { x with interrupted := some .unknown };
        HasEntry s .entryGates (phaseOf []) []
          ∧ (s.seq.phase = .halted ∧ s.seq.interrupted = some .unknown ∧ s.unit.mode = .service
            ∧ s.chan.phaseSeen ≠ .channelOpen ∧ (∀ d, WantsRed (s.chan.signal d) = false)
            ∧ WantsRed ((onChan s fun c => { c with south := Signal.reset }).chan.signal .south) = true)) := by
  refine ⟨⟨served _ _ rfl rfl (by decide), request_one, by decide, not_ready _ (by decide), ⟨by decide +kernel, rfl, by decide⟩,
      by decide⟩,
    ⟨by unfold Working; decide, by decide, ⟨by decide +kernel, rfl, by decide⟩⟩,
    ⟨⟨by decide +kernel, rfl, by decide⟩, by decide, rfl⟩, ⟨by decide +kernel, rfl, by decide⟩, rfl, rfl, rfl, by decide,
    fun d => by cases d <;> decide, by decide⟩

/-- The OPEN that finds its phase ready. -/
theorem witness_SequenceRequestsAreJudged_ready :
    let s := asked (readyFor .roadOpen .warning []) (request [15])
    s.seq.phase = .roadOpen ∧ PhaseReady ((responded s (request [15]) [] 0 0 []).setSeq { s.seq with request := .openRequest }) := by
  refine ⟨rfl, phase_ready _ ?_ ?_ ?_ ?_ ?_⟩
  all_goals first
    | (unfold Working; decide +kernel)
    | decide +kernel

/-! ### Witnesses: the channel -/

theorem witness_ChannelTimersAndPassages :
    (let s := onChan service fun c =>
        { c with greenTimer := some 1000, changeoverTimer := some 1000, retryTimer := some 1000, vessels := [vessel 1 .north true] };
      s.power = .running ∧ s.points.gather = none ∧ s.seq.dwell ≠ .elapsed ∧ s.chan.greenTimer = some 1000
        ∧ due s.now 1000 = true ∧ s.chan.changeoverTimer = some 1000 ∧ s.chan.retryTimer = some 1000
        ∧ NoneWaits s.chan.vessels)
      ∧ (let s := onChan service fun c =>
          { c with changeoverTimer := some 1000, vessels := vessel 1 .north true :: vessel 2 .south false :: [] };
        s.chan.vessels = [vessel 1 .north true] ++ vessel 2 .south false :: [] ∧ NoneWaits [vessel 1 .north true]
          ∧ (vessel 2 .south false).cleared = false ∧ s.chan.record = some channelRecord
          ∧ OwnPasses (s.setChan { s.chan with changeoverTimer := none }) (channelRecord.node .south) channelRecord.cls 1 0
            (permit 9))
      ∧ (let s := onChan service fun c =>
          { c with retryTimer := some 1000, vessels := [vessel 2 .south false], phaseSeen := .channelOpen };
        let u := s.setChan { s.chan with retryTimer := none };
        s.chan.retryTimer = some 1000 ∧ MayOpen u .south ∧ (∀ d, ¬MayOpen s d)
          ∧ OwnPasses u (channelRecord.node .south) channelRecord.cls 1 0 (permit 9))
      ∧ (let s := onChan service fun c => { c with sets := [[(20, true)]], vessels := [vessel 1 .north true, vessel 2 .north true] };
        s.chan.sets = [(20, true)] :: [] ∧ s.chan.record = some channelRecord
          ∧ (channelRecord.passage Direction.north.opposite, true) ∉ [(20, true)]
          ∧ (channelRecord.passage .north, true) ∈ [(20, true)]
          ∧ s.chan.vessels = [] ++ vessel 1 .north true :: [vessel 2 .north true] ∧ ChannelQuiet s.chan ([] ++ [vessel 2 .north true])
          ∧ (channelRecord.passage .north, true) ∉ [(21, true)]
          ∧ (∀ d, (channelRecord.passage d, true) ∈ [(20, true), (21, true)])
          ∧ ∀ v ∈ [vessel 1 .south true, vessel 2 .north false], ¬(v.cleared = true ∧ v.direction = .north))
      ∧ (let c := (onChan service fun c =>
          { c with greenTimer := some 1001, changeoverTimer := some 1001, retryTimer := some 1001 }).chan
        ∀ e, (c.greenTimer = some e → due service.now e = false) ∧ (c.changeoverTimer = some e → due service.now e = false)
          ∧ (c.retryTimer = some e → due service.now e = false))
      ∧ service.chan.greenTimer = none ∧ service.chan.changeoverTimer = none ∧ service.chan.retryTimer = none := by
  refine ⟨by unfold NoneWaits; decide +kernel, ⟨rfl, by unfold NoneWaits; decide, rfl, rfl,
      signal_passes _ _ _ rfl (by decide) (by decide) (by decide) (by decide) (by decide) (by decide) (by decide)⟩,
    ⟨rfl, ⟨rfl, by decide, rfl, rfl, rfl, rfl, rfl, rfl, by unfold NoneWaits; decide, rfl, rfl⟩, fun d h => (nomatch h.2.2.2.2.2.1),
      signal_passes _ _ _ rfl (by decide) (by decide) (by decide) (by decide) (by decide) (by decide) (by decide)⟩,
    ⟨rfl, rfl, by decide, by decide, rfl, .inr (by unfold NoneWaits; decide), by decide, fun d => by cases d <;> decide, by decide⟩,
    fun e => ⟨not_due e, not_due e, not_due e⟩, rfl, rfl, rfl⟩

theorem witness_OwnSignalOrdersEnd :
    let signal := { redSignal with redWanted := true, outstanding := [.green, .red] }
    let s := onChan service fun c => { c with north := signal, south := redSignal, state := .greenNorth }
    let c := onChan s fun c => { c with state := .changeover, closing := true, changeoverPending := true }
    (s.chan.closing = false ∧ c.chan.closing = true ∧ s.chan.record = some channelRecord ∧ s.chan.state ≠ .changeover
        ∧ c.chan.state = .changeover ∧ (onChan s fun c => { c with record := none }).chan.record = none)
      ∧ (Result.garbled ≠ .done ∧ Result.garbled ≠ .cancelled ∧ FailedOnLink .garbled ∧ ¬FailedOnLink .revoked)
      ∧ (SignalKind.red ∈ (s.chan.signal .north).outstanding ∧ SignalKind.red ∉ (s.chan.signal .south).outstanding)
      ∧ ((onChan s fun c => { c with changeoverPending := true }).chan.changeoverPending = true
        ∧ s.chan.state = ChannelState.green .north ∧ s.chan.state ≠ ChannelState.green .south
        ∧ (s.chan.signal .north).redWanted = true ∧ (s.chan.signal .south).redWanted = false)
      ∧ OwnAdmitted s (channelRecord.node .north) channelRecord.cls 0 0 (permit 9)
      ∧ OwnRefused (inMode .init s) (channelRecord.node .north) channelRecord.cls 0 .notReady := by
  refine ⟨by decide +kernel, by unfold FailedOnLink; decide, by decide, by decide, red_admitted _ _ (signal_passes _ _ _ rfl ?_ ?_
    ?_ ?_ ?_ ?_ ?_), .inl ⟨rfl, rfl⟩⟩
  all_goals decide

theorem witness_SignalMemoriesAndReds :
    let green := { order 61 [0] with arg := 1 }
    let s := waiting [] [green]
    let opened := onChan s fun c => { c with state := .greenNorth, vessels := [vessel 1 .north false, vessel 2 .south false] }
    let memory : SignalMemory := { kind := .green, result := .pending }
    (IsSignal s 61 9 .north ∧ AllTrue s green.required ∧ green.arg = 1
        ∧ (s.chan.signal Direction.north.opposite).memory = some { kind := .red, result := .done }
        ∧ ((onChan s fun c => { c with south := Signal.reset }).chan.signal Direction.north.opposite).memory
          ≠ some { kind := .red, result := .done })
      ∧ ({ green with memory := some Direction.north }.memory = some .north
        ∧ ((onChan s fun c => { c with north := { redSignal with memory := some memory } }).chan.signal .north).memory
          = some memory ∧ memory.result = .pending ∧ { memory with result := .done }.result ≠ .pending)
      ∧ (green.origin = .console 9 ∧ ∀ x up, ¬IsStart s green.node green.cls x up)
      ∧ ((onChan s fun c => { c with closing := true }).chan.closing = true
        ∧ (∀ d, (s.chan.signal d).memory = some { kind := .red, result := .done })
        ∧ ∀ d, SignalKind.green ∉ (s.chan.signal d).outstanding)
      ∧ (opened.chan.state = ChannelState.green .north ∧ opened.chan.changeoverPending = false ∧ opened.chan.closing = false
        ∧ (∀ v ∈ opened.chan.vessels, v.direction = .north → v.cleared = false)
        ∧ ∃ v ∈ opened.chan.vessels, v.direction = Direction.north.opposite ∧ v.cleared = false) := by
  refine ⟨⟨(State.signalOf_eq_some ..).mp rfl, by unfold AllTrue; decide +kernel, rfl, by decide, by decide⟩,
    ⟨rfl, by decide, rfl, by decide⟩, ⟨rfl, (State.startOf_eq_none ..).mp rfl⟩,
    ⟨rfl, fun d => ?_, fun d => ?_⟩, by decide⟩ <;> cases d <;> decide

/-- 08:R152, R154, 10:R177, R182: a stand-down entry of the end of a reset whose close the Channel Controller makes after the
entry to SERVICE, which offered the first REDs: they are outstanding, so the close offers no other and latches nothing. -/
theorem test_close_after_service_entry :
    let s := (onUnit (onChan State.reset fun c => { c with record := some channelRecord, standdowns := 1 })
      fun u => { u with causes := CauseSet.empty.join .estopLine })
    let t := after1 .channelStanddownClose ((inMode .service s).setGate service.gate).channelService
    t.unit.causes = CauseSet.empty.join .estopLine ∧ t.gate.own.length = 2 ∧ t.chan.closing = true
      ∧ t.chan.north.outstanding = [.red] ∧ t.chan.south.outstanding = [.red] := by
  decide +kernel

/-- 05:R87, 08:R152, R153: a close in INIT offers its REDs, which are refused NOT READY: the cause CHANNEL SIGNAL. -/
theorem test_close_in_init :
    let s := after1 .channelStanddownClose
      (onChan State.reset fun c => { c with record := some channelRecord, standdowns := 1 })
    s.unit.causes.channelSignal = true ∧ s.chan.north.redWanted = false ∧ s.chan.south.redWanted = false
      ∧ s.chan.closing = true := by
  decide +kernel

/-- A close that finds both signals RED; one that is to offer the south RED; a signal whose RED is on its way. -/
theorem witness_CloseOrdersRed :
    (let s := onChan service fun c => { c with standdowns := 1, state := .greenNorth };
      s.power = .running ∧ s.points.gather = none ∧ s.seq.dwell ≠ .elapsed ∧ s.chan.phaseSeen ≠ .channelOpen
        ∧ s.chan.standdowns = 0 + 1 ∧ WantsRed s.chan.north = false ∧ WantsRed s.chan.south = false)
      ∧ (let s := onChan service fun c => { c with standdowns := 1, south := Signal.reset };
        s.chan.record = some channelRecord ∧ WantsRed (s.chan.signal .south) = true ∧ ¬SignalRed s.chan.south
          ∧ SignalRed s.chan.north ∧ SignalKind.red ∉ s.chan.south.outstanding
          ∧ OwnAdmitted (onChan s fun c => { Withdrawn { c with standdowns := 0 } with
              closing := true, north := { c.north with redWanted := WantsRed c.north }
              south := { c.south with redWanted := WantsRed c.south } })
            (channelRecord.node .south) channelRecord.cls 0 0 (permit 9)
          ∧ (onChan s fun c => { c with record := none }).chan.record = none)
      ∧ (let g := { redSignal with outstanding := [.red, .green] };
        ¬SignalRed g ∧ WantsRed g = true ∧ SignalKind.red ∈ g.outstanding) := by
  refine ⟨by decide +kernel, ⟨rfl, by decide, by unfold SignalRed; decide, by unfold SignalRed; decide, by decide,
    red_admitted _ _ (signal_passes _ _ _ rfl ?_ ?_ ?_ ?_ ?_ ?_ ?_), rfl⟩, by unfold SignalRed; decide⟩
  all_goals decide

theorem witness_VesselsJoinAndLeave :
    (let s := asked (onChan service fun c => { c with vessels := (List.range 7).map fun n => vessel (n + 1) .north false })
        (request [21, 1, 44, 1]);
      Serves s (request [21, 1, 44, 1]) [] ∧ (s.points.gather = none ∧ s.unit.mode = .service
          ∧ u16 (request [21, 1, 44, 1]).payload 1 = 300
          ∧ u8 (request [21, 1, 44, 1]).payload 3 = Direction.north.num ∧ (∀ v ∈ s.chan.vessels, v.tag ≠ 300)
          ∧ s.chan.vessels.length < 8)
        ∧ Request (request [21, 1, 44, 1]) 21 4 ∧ ∀ vs, ChannelQuiet s.chan vs)
      ∧ (u16 (request [21, 0, 0, 1]).payload 1 = 0 ∧ u8 (request [21, 0, 1, 3]).payload 3 ≠ 2
        ∧ (∃ v ∈ [vessel 300 .south false], v.tag = 300)
        ∧ 8 ≤ ((List.range 8).map fun n => vessel (n + 1) .north false).length)
      ∧ (let s := onChan service fun c => { c with state := .greenNorth, vessels := [vessel 1 .north true] };
        ChannelQuiet s.chan (QueueJoined s 300 .north))
      ∧ (Request (request [22, 1, 44]) 22 3
        ∧ [vessel 1 .north false, vessel 300 .south false] = [vessel 1 .north false] ++ vessel 300 .south false :: []
        ∧ ∀ w ∈ [vessel 1 .north false], w.tag ≠ 300) := by
  refine ⟨⟨served _ _ rfl rfl (by decide), by decide, ⟨rfl, by decide, rfl⟩, fun vs => .inl ⟨rfl, by decide⟩⟩, by decide,
    .inr (by unfold NoneWaits QueueJoined; decide), ⟨rfl, by decide, rfl⟩, rfl, by decide⟩

/-- A call of tag 300 that a CALL point brings, its direction byte good, and bad. -/
theorem witness_VesselsJoinAndLeave_call :
    let call : PointEntry := { node := 41, offset := 0, width := .call, bitIndex := 0, invert := false, debounce := 0, staleLimit := 5 }
    let s := service.setPoints
      { service.points with points := put service.points.points 9 { Point.first with value := 300, direction := 2 } }
    (call.width = .call ∧ (s.point 9).value ≠ 0 ∧ (s.point 9).value ≠ (service.point 9).value ∧ (service.point 9).value = 0
        ∧ { call with width := .u16 }.width ≠ .call)
      ∧ (s.points.gather = none ∧ s.unit.mode = .service ∧ (s.point 9).direction = Direction.south.num
        ∧ (inMode .maintenance s).unit.mode ≠ .service ∧ 3 ≠ 1 ∧ 3 ≠ 2 ∧ 0 ≠ 1)
      ∧ ChannelQuiet s.chan (QueueJoined s 300 .south) :=
  ⟨by decide +kernel, by decide +kernel, .inl ⟨rfl, by decide⟩⟩

/-! ### Witnesses: modes and resets -/

/-- A hardwired line whose raw level has stood since a moment. -/
def line (raw : LineLevel) (active : Bool) (since : Time) : FilteredLine := { raw := raw, active := active, since := some since }

theorem witness_HardwiredLinesAreFiltered :
    (let s := onUnit service fun u => { u with estop := line .low false 981 };
      s.power = .running ∧ s.points.gather = none ∧ s.unit.estop.since = some 981 ∧ (s.now - 981).toNat < 20)
      ∧ (let s := onUnit service fun u => { u with estop := line .low false 980 };
        s.unit.estop.since = some 980 ∧ 20 ≤ (s.now - 980).toNat ∧ s.unit.estop.raw = .low ∧ s.unit.estop.active = false
          ∧ s.unit.causes = CauseSet.empty
          ∧ (onUnit s fun u => { u with causes := CauseSet.empty.join .skewTrip }).unit.causes ≠ CauseSet.empty)
      ∧ (let s := onUnit service fun u => { u with estop := line .high true 980 };
        s.unit.estop.raw = .high ∧ s.unit.estop.active = true)
      ∧ (∀ raw active t0, (onUnit service fun u => { u with key := line raw active 981 }).unit.key.since = some t0 →
        (service.now - t0).toNat < 20)
      ∧ service.unit.key.since = none ∧ service.unit.estop.since = none := by
  refine ⟨by decide +kernel, by decide +kernel, by decide +kernel, fun _ _ t0 h => ?_, rfl, rfl⟩
  rw [← Option.some.inj h]; decide +kernel

/-- The encoder point of a tower, and its slot in the scan list. -/
def encoderPoint (node : Nat) : PointEntry :=
  { node := node, offset := 0, width := .u24, bitIndex := 0, invert := false, debounce := 0, staleLimit := 5 }
def encoderSlot (node : Nat) : ScanSlot := { node := node, divisor := 1, enabled := true }

/-- The entry of the road-open phase, with its proof condition. -/
def roadOpenEntry : PhaseEntry := { phaseOf [] with advance := some 0, proof := some 0 }

/-- A controller whose tables pass the validation: a U24 point for each tower, scanned, and advance conditions. -/
def valid : State :=
  let cond0 : CondEntry := { terms := [.point 126 (.eq 0)], hold := 0, report := false }
  let s := onCond (inMode .maintenance service) fun c => { c with table := put c.table 0 (some cond0) }
  let s := s.setPoints { s.points with map := put (put s.points.map 0 (some (encoderPoint 41))) 1 (some (encoderPoint 42)) }
  let s := onField s fun f => { f with scanList := put (put f.scanList 0 (some (encoderSlot 41))) 1 (some (encoderSlot 42)) }
  onSeq s fun x =>
    { x with table := mapTable (fun n _ => some (if n = 0 then roadOpenEntry else { phaseOf [] with advance := some 0 })) x.table }

/-- Every check of the validation passes. -/
theorem valid_passes : Validates valid := by
  intro n
  refine ⟨fun _ => by decide, fun _ => ⟨spanRecord, rfl, fun x => ?_⟩, fun _ => ?_, fun _ => ?_, fun _ => ⟨?_, fun p h1 h2 _ => ?_⟩,
    fun _ => by decide, fun _ => ⟨spanRecord, rfl, fun x => ?_⟩⟩
  · cases x
    · exact ⟨encoderPoint 41, by decide +kernel, rfl⟩
    · exact ⟨encoderPoint 42, by decide +kernel, rfl⟩
  · intro i p h c hc
    obtain ⟨-, rfl⟩ := look_permits _ _ _ h
    exact nomatch hc
  · intro i e he x hx
    simp only [valid, onSeq, onField, State.setSeq_cond, State.setField_cond, State.setPoints_cond, onCond,
      State.setCond_cond, look_put] at he
    split at he
    · injection he with he; subst he
      rw [List.mem_singleton.1 hx]
      exact ⟨fun p op hp hlt => by injection hp with hp; omega, (fun _ hj => nomatch hj), (fun _ hk => nomatch hk)⟩
    · exact nomatch (table_reset i).symm.trans he
  · exact ⟨roadOpenEntry, by decide +kernel, by decide⟩
  · refine ⟨{ phaseOf [] with advance := some 0 }, ?_, fun h => nomatch h⟩
    exact (look_mapTable _ _ _ none _ (by omega)).trans (by simp [show p ≠ 0 by omega])
  · cases x
    · exact ⟨encoderPoint 41, 0, encoderSlot 41, by decide +kernel⟩
    · exact ⟨encoderPoint 42, 1, encoderSlot 42, by decide +kernel⟩

/-- The limit record is absent, and all else passes. -/
def limitless : State := onUnit valid fun u => { u with limits := none }

/-- The scan list is empty, and all else passes. -/
def unscanned : State := onField valid fun f => { f with scanList := Field.reset.scanList }

theorem limitless_fails : FirstFailing limitless 1 :=
  ⟨by decide, by decide, fun h => h.1 rfl rfl, fun m hm => ⟨by omega, by omega, by omega, by omega, by omega, by omega, by omega⟩⟩

theorem unscanned_fails : FirstFailing unscanned 7 := by
  refine ⟨by decide, by decide, fun h => ?_, fun m hm => ?_⟩
  · obtain ⟨r, -, h⟩ := h.2.2.2.2.2.2 rfl
    obtain ⟨e, i, x, -, hx, -⟩ := h .a
    simp [unscanned, onField, Field.reset] at hx
  · obtain ⟨h1, h2, h3, h4, h5, h6, -⟩ := valid_passes m
    exact ⟨h1, h2, h3, h4, h5, h6, fun h => absurd h (by omega)⟩

theorem witness_KeyAndServiceChangeTheMode :
    (let s := onUnit service fun u => { u with key := line .low false 980 };
      (s.power = .running ∧ s.points.gather = none ∧ s.unit.key.since = some 980 ∧ 20 ≤ (s.now - 980).toNat
          ∧ s.unit.key.raw = .low ∧ s.unit.key.active = false ∧ s.unit.mode = .service ∧ (inMode .init s).unit.mode = .init)
        ∧ (inPhase .lifting .lifting []).seq.phase ≠ .roadOpen ∧ (inPhase .lifting .lifting []).seq.phase ≠ .halted
        ∧ (inPhase .roadOpen .lifting []).seq.phase = .roadOpen ∧ (inPhase .halted .lifting []).seq.phase = .halted)
      ∧ (let off := fun u : ModeChain => { u with key := line .high true 980 };
        ((onUnit valid off).unit.key.raw = .high ∧ (onUnit valid off).unit.key.active = true
            ∧ (onUnit valid off).unit.mode = .maintenance)
          ∧ Validates (onUnit valid off) ∧ HasEntry (onUnit valid off) .roadOpen roadOpenEntry []
          ∧ roadOpenEntry.proof = some 0 ∧ FirstFailing limitless 1 ∧ limitless.unit.mode = .maintenance
          ∧ FirstFailing unscanned 7 ∧ unscanned.unit.mode = .maintenance)
      ∧ (let init := fun u : ModeChain => { u with mode := .init };
        Serves (asked (onUnit valid init) (request [24])) (request [24]) [] ∧ Request (request [24]) 24 1
          ∧ Validates (asked (onUnit valid init) (request [24]))
          ∧ HasEntry (asked (onUnit valid init) (request [24])) .roadOpen roadOpenEntry []
          ∧ (onUnit valid init).unit.mode = .init ∧ (onUnit valid init).unit.key.active = false
          ∧ FirstFailing (asked (onUnit limitless init) (request [24])) 1 ∧ (onUnit limitless init).unit.mode = .init) := by
  refine ⟨by decide +kernel, ⟨by decide, valid_passes, ⟨by decide +kernel, rfl, by decide⟩, rfl, limitless_fails, rfl,
      unscanned_fails, rfl⟩, served _ _ rfl rfl (by decide), request_one 24, ?_, ⟨by decide +kernel, rfl, by decide⟩, rfl, rfl, ?_, rfl⟩
  · exact valid_passes
  · exact limitless_fails

/-- The first check, the last, and the pass. -/
theorem witness_KeyAndServiceChangeTheMode_validation :
    limitless.failingCheck = some 1 ∧ FirstFailing limitless 1 ∧ unscanned.failingCheck = some 7 ∧ FirstFailing unscanned 7
      ∧ valid.failingCheck = none ∧ Validates valid :=
  ⟨by decide +kernel, limitless_fails, by decide +kernel, unscanned_fails, by decide +kernel, valid_passes⟩

theorem witness_ResetsLeaveTheirState :
    let low := line .low false 0
    (service.unit.estop.raw = .high ∧ service.unit.key.raw = .high ∧ service.power = .running
        ∧ service.console.restart ≠ .sent
        ∧ (onConsole service fun c => { c with restart := .sent }).console.restart = .sent)
      ∧ (onUnit service fun u => { u with estop := low }).unit.estop.raw = .low
      ∧ (onUnit service fun u => { u with key := low }).unit.key.raw = .low
      ∧ (let s := onUnit service fun u => { u with estop := low, key := low };
        s.unit.estop.raw = .low ∧ s.unit.key.raw = .low ∧ (inMode .init s).unit.mode = .init)
      ∧ (service.setPower .heldInReset).power = .heldInReset ∧ (service.setPower .unpowered).power ≠ .heldInReset := by
  decide

/-! ### Witnesses: management requests -/

/-- Sizes, entry numbers and modes at their bounds, for the first and the last table. -/
theorem witness_TableRequestsAreJudgedInOrder :
    (let f := request [1, 8, 0, 61, 62, 9, 20, 21, 0, 30, 2, 88];
      Serves (asked service f) f [] ∧ f.kind = 2 ∧ (Instr.writeEntryChannelRecord, 8, 1) ∈ writeRows ∧ u8 f.payload 0 = 1
        ∧ u8 f.payload 1 = 8 ∧ 3 ≤ f.payload.length ∧ ContentsFit 8 (f.payload.drop 3) ∧ u8 f.payload 2 < 1
        ∧ (asked service f).unit.mode ≠ .maintenance
        ∧ OwnerForbids (onChan service fun c => { c with closing := true }) 8
        ∧ OwnerForbids (onSpan service fun p => { p with motion := .stopping }) 7)
      ∧ (let f := request [1, 8, 1, 61, 62, 9, 20, 21, 0, 30, 2, 88];
        ContentsFit 8 (f.payload.drop 3) ∧ 1 ≤ u8 f.payload 2)
      ∧ ¬ContentsFit 1 ((request [1, 1, 111, 0, 0, 0, 0, 0, 0]).payload.drop 3)
      ∧ (let f := request [2, 1, 112];
        (Instr.clearEntryPointMap, 1, 112) ∈ clearRows ∧ u8 f.payload 0 = 2 ∧ u8 f.payload 1 = 1 ∧ f.payload.length = 3
          ∧ 112 ≤ u8 f.payload 2 ∧ u8 (request [2, 1, 111]).payload 2 < 112)
      ∧ (8 < u8 (request [1, 9]).payload 1 ∧ 2 ≤ (request [1, 9]).payload.length ∧ u8 (request [2, 0, 0]).payload 1 = 0
        ∧ (request [2, 0, 0]).payload.length = 3 ∧ 8 < u8 (request [2, 9]).payload 1 ∧ (request [2, 9]).payload.length ≠ 3) := by
  unfold ContentsFit OwnerForbids
  refine ⟨⟨served _ _ rfl rfl (by decide), ?_⟩, ?_, ?_, ?_, ?_⟩ <;> (try dsimp only) <;> decide +kernel

/-- One request of each table, in MAINTENANCE, that its owner accepts, and one whose contents break a range. -/
theorem witness_TableRequestsTakeEffect :
    let m := inMode .maintenance service
    let ok := fun (f : Frame) (t n entries : Nat) => TableRequest (asked m f) f 1 t n entries ∧ ContentsFit t (f.payload.drop 3)
    (∀ f, Serves (asked m f) f []) ∧ m.points.gather = none
      ∧ (ok (request [1, 1, 111, 41, 0, 5, 0, 0, 0, 5]) 1 111 112 ∧ (readPointEntry [41, 0, 5, 0, 0, 0, 5]).isSome = true
        ∧ readPointEntry [41, 22, 5, 0, 0, 0, 5] = none)
      ∧ (ok (request [1, 2, 63, 0, 0, 1, 1, 2, 62, 0, 0, 0, 0, 0, 0, 0, 0, 0]) 2 63 64
        ∧ (readCondition 63 [0, 0, 1, 1, 2, 62, 0, 0, 0, 0, 0, 0, 0, 0, 0]).isSome = true
        ∧ readCondition 62 [0, 0, 1, 1, 2, 62, 0, 0, 0, 0, 0, 0, 0, 0, 0] = none)
      ∧ (ok (request [1, 3, 95, 51, 1, 0, 0, 0, 100, 0, 1, 5, 7, 0]) 3 95 96
        ∧ (readPermit [51, 1, 0, 0, 0, 100, 0, 1, 5, 7, 0]).isSome = true
        ∧ readPermit [51, 1, 0, 0, 0, 100, 0, 1, 121, 7, 0] = none)
      ∧ (ok (request [1, 4, 31, 41, 8, 1]) 4 31 32 ∧ (readScanSlot [41, 8, 1]).isSome = true ∧ readScanSlot [41, 9, 1] = none)
      ∧ (ok (request [1, 5, 11, 255, 255, 0, 0, 0, 100, 0, 10, 0]) 5 11 12
        ∧ (readPhase 11 [255, 255, 0, 0, 0, 100, 0, 10, 0]).isSome = true
        ∧ readPhase 0 [255, 255, 0, 0, 0, 100, 0, 10, 0] = none)
      ∧ (ok (request [1, 6, 7, 8, 255, 0, 0, 0, 0, 0, 0, 0, 0, 0, 2, 1]) 6 7 8
        ∧ (readCounterControl [8, 255, 0, 0, 0, 0, 0, 0, 0, 0, 0, 2, 1]).isSome = true
        ∧ readCounterControl [8, 10, 0, 0, 0, 0, 0, 0, 0, 0, 0, 2, 1] = none)
      ∧ (ok (request (1 :: 7 :: 0 :: spanRecord.encode)) 7 0 1 ∧ readSpanRecord spanRecord.encode = some spanRecord
        ∧ readSpanRecord { spanRecord with standstill := 51 }.encode = none)
      ∧ (ok (request (1 :: 8 :: 0 :: channelRecord.encode)) 8 0 1 ∧ readChannelRecord channelRecord.encode = some channelRecord
        ∧ readChannelRecord { channelRecord with changeover := 9 }.encode = none)
      ∧ TableRequest (asked m (request [2, 1, 0])) (request [2, 1, 0]) 2 1 0 112 ∧ (request [2, 1, 0]).payload.length = 3 := by
  refine ⟨fun f => served _ _ rfl rfl (by decide), rfl, ?_⟩
  unfold TableRequest ContentsFit OwnerForbids Names
  dsimp only
  refine ⟨?_, ?_, ?_, ?_, ?_, ?_, ?_, ?_, ?_, ?_⟩ <;> decide +kernel

theorem witness_ReadsAnswerAndChangeNothing :
    Serves (asked service (request [7])) (request [7]) [] ∧ (request [7]).kind = 2
      ∧ u8 (request [0]).payload 0 = 0 ∧ 25 < u8 (request [26]).payload 0 ∧ (request [7, 0]).payload.length ≠ 1
      ∧ (Request (request [3, 8, 0]) 3 3 ∧ Request (request [5]) 5 1 ∧ Request (request [6, 120, 8]) 6 3
        ∧ Request (request [7]) 7 1 ∧ Request (request [8, 93, 8]) 8 3 ∧ Request (request [9]) 9 1
        ∧ Request (request [10]) 10 1 ∧ Request (request [11]) 11 1)
      ∧ (entriesOf 1 ≤ 112 ∧ 111 < entriesOf 1 ∧ entriesOf 8 ≤ 1 ∧ 0 < entriesOf 8)
      ∧ (0 ≤ 120 ∧ 1 ≤ 8 ∧ 8 ≤ 8 ∧ 120 + 8 ≤ 128) ∧ (1 ≤ 93 ∧ 93 + 8 ≤ 101) ∧ ¬(121 + 8 ≤ 128) ∧ ¬(94 + 8 ≤ 101) := by
  unfold Request
  exact ⟨served _ _ rfl rfl (by decide), by decide⟩

theorem witness_ActionsTakeEffect :
    let m := inMode .maintenance service
    (∀ f, Serves (asked m f) f [] ∧ Serves (asked service f) f []) ∧ m.points.gather = none
      ∧ (Request (request (4 :: limits.encode)) 4 43 ∧ m.unit.mode = .maintenance ∧ m.span.motion = .idle
        ∧ m.unit.locked = false ∧ (onUnit m fun u => { u with locked := true }).unit.locked = true
        ∧ readLimitRecord limits.encode = some limits ∧ readLimitRecord { limits with lTol := 51 }.encode = none
        ∧ service.unit.mode ≠ .maintenance ∧ (onSpan m fun p => { p with motion := .stopping }).span.motion = .stopping)
      ∧ (Request (request [12, 7]) 12 2 ∧ u8 [12, (7 : Byte)] 1 ≤ 7 ∧ 7 < u8 [12, (8 : Byte)] 1 ∧ u8 [12, (8 : Byte)] 1 ≠ 255
        ∧ u8 [12, (255 : Byte)] 1 = 255)
      ∧ Request (request [13]) 13 1
      ∧ (Request (request [14, 0, 2, 1]) 14 4 ∧ Request (request [14, 3, 50, 7]) 14 4
        ∧ (∀ p : List Byte, p = [14, 0, 2, 1] ∨ p = [14, 1, 50, 7] ∨ p = [14, 2, 2, 7] ∨ p = [14, 3, 50, 1] →
          2 ≤ u8 p 2 ∧ u8 p 2 ≤ 50 ∧ 1 ≤ u8 p 3 ∧ u8 p 3 ≤ 7)
        ∧ 3 < u8 [14, (4 : Byte)] 1 ∧ ¬(u8 [14, 0, 51, (1 : Byte)] 2 ≤ 50) ∧ ¬(u8 [14, 0, 50, (8 : Byte)] 3 ≤ 7))
      ∧ (Request (request [23]) 23 1 ∧ (onUnit m fun u => { u with causes := CauseSet.empty.join .stopFailed }).unit.causes ≠ CauseSet.empty
        ∧ m.unit.causes = CauseSet.empty)
      ∧ (Request (request [25]) 25 1 ∧ m.unit.mode ≠ .service ∧ service.unit.mode = .service)
      ∧ (∀ f ∈ [request [21, 0, 1], request [21, 0, 1, 1, 0]], (Instr.vesselAdd, 21, 4) ∈ sizedRows ∧ f.kind = 2
        ∧ u8 f.payload 0 = 21 ∧ f.payload.length ≠ 4)
      ∧ ((onConsole m fun c => { c with restart := .waiting }).console.restart ≠ .none
        ∧ 24 ≤ (onConsole m fun c => { c with egress := List.replicate 24 (request [7]) }).console.egress.length
        ∧ m.console.ingress = [] ∧ ∀ c ∈ [Instr.consoleOrderAdmission, .unknownRequest, .readStatus, .writeEntryPermit,
          .clearEntryPermit, .restartRequest], c ∈ servingRows) := by
  refine ⟨fun f => ⟨served _ _ rfl rfl (by decide), served _ _ rfl rfl (by decide)⟩, rfl, by unfold Request; decide +kernel,
    by unfold Request; decide, by unfold Request; decide, ⟨by unfold Request; decide, by unfold Request; decide, ?_, by decide,
    by decide, by decide⟩, by unfold Request; decide, by unfold Request; decide, by decide, by decide +kernel⟩
  rintro p (rfl | rfl | rfl | rfl) <;> decide

/-! Entries and records with fields at the bounds of their ranges. -/

def pointMax : PointEntry := { node := 100, offset := 21, width := .call, bitIndex := 0, invert := false, debounce := 0, staleLimit := 15 }
def condMax : CondEntry := { terms := [.condition 62, .point 127 (.lt (-16777216)), .counterBelow 7], hold := 60000, report := true }
def permitMax : Permit := { permit 63 with argMin := -32768, argMax := 32767, required := [63], holdLimit := 120 }
def slotMax : ScanSlot := { node := 100, divisor := 8, enabled := true }
def phaseMax : PhaseEntry :=
  { orders := [{ node := 100, cls := 63, arg := -32768 }], advance := some 63, dwell := 600000, limit := 3600, proof := none }
def dutyMax : DutyRecord :=
  { event := .queueOccupancy, filter := none, mask := 0, time := true, invert := true, threshold := 4294967295
    action := .freeze, freezable := true }

theorem witness_AcceptedContentsLieInRange :
    (ContentsFit 1 (laid (mapFields pointMax)) ∧ readPointEntry (laid (mapFields pointMax)) = some pointMax)
      ∧ (ContentsFit 2 (laid (condFields condMax)) ∧ readCondition 63 (laid (condFields condMax)) = some condMax)
      ∧ (ContentsFit 3 (laid (permitFields permitMax)) ∧ readPermit (laid (permitFields permitMax)) = some permitMax)
      ∧ (ContentsFit 4 (laid (slotFields slotMax)) ∧ readScanSlot (laid (slotFields slotMax)) = some slotMax)
      ∧ (ContentsFit 5 (laid (phaseFields phaseMax)) ∧ readPhase 11 (laid (phaseFields phaseMax)) = some phaseMax)
      ∧ (ContentsFit 6 (laid (controlFields dutyMax)) ∧ readCounterControl (laid (controlFields dutyMax)) = some dutyMax)
      ∧ (ContentsFit 7 (laid (spanFields spanRecord)) ∧ readSpanRecord (laid (spanFields spanRecord)) = some spanRecord)
      ∧ (ContentsFit 8 (laid (channelFields channelRecord)) ∧ readChannelRecord (laid (channelFields channelRecord)) = some channelRecord)
      ∧ (laid (limitFields limits)).length = 42 ∧ readLimitRecord (laid (limitFields limits)) = some limits := by
  unfold ContentsFit
  refine ⟨?_, ?_, ?_, ?_, ?_, ?_, ?_, ?_, ?_⟩ <;> decide +kernel

theorem witness_EntriesReadBackAsLaidOut :
    PointEntryRange pointMax ∧ CondEntryRange 63 condMax ∧ PermitRange permitMax ∧ ScanSlotRange slotMax
      ∧ PhaseEntryRange 11 phaseMax ∧ DutyRecordRange dutyMax ∧ SpanRecordRange spanRecord ∧ ChannelRecordRange channelRecord
      ∧ LimitRecordRange limits := by
  refine ⟨by unfold PointEntryRange; decide, ⟨by decide, by decide, by decide, fun x hx => ?_⟩,
    ⟨(fun m h => nomatch h), by decide⟩, by unfold ScanSlotRange NodeRange; decide,
    ⟨by decide, by unfold NodeRange; decide, fun c h => ?_, (fun c h => nomatch h), by decide⟩,
    ⟨rfl, by decide⟩, ⟨fun x => ?_, by unfold HeightRange; decide⟩, by unfold ChannelRecordRange NodeRange; decide,
    by unfold LimitRecordRange HeightRange; decide⟩
  · simp only [condMax, List.mem_cons, List.mem_nil_iff, or_false] at hx
    rcases hx with rfl | rfl | rfl
    · exact (by decide : 62 < 63)
    · exact ⟨by decide, show -16777216 ≤ (-16777216 : Int) ∧ (-16777216 : Int) ≤ 16777215 by decide⟩
    · exact show 7 ≤ 7 by decide
  · injection h with h; omega
  · unfold NodeRange
    cases x <;> decide

end Sys2Proof.Tests
end

