-- ==== Sys2Proof/WellFormed.lean ====
section
/-!
DEFINITION. Well-formed commands. Every operand is typed by exactly the values its row admits (a link, a line,
a level, a reset source, a mark bit, an eight-bit data byte), so the syntax holds no ill-formed command and there is
no check beyond the types. The validity of what a frame carries is judged by the machine itself, from the bytes
(11:R183, R184; Machine/Operands.lean), and refused there by the code the spec names.
-/

namespace Sys2Proof

/-- A command is well formed when its operands lie in their ranges; the types alone see to that. -/
def Instr.wellFormed (_ : Instr) : Bool := true

end Sys2Proof
end

section
/-! ### Readings and misses of one point (03:R44 to R49) -/

namespace Sys2Proof.Machine

/-- A byte of a payload is below 256. -/
theorem u8_lt (b : List Byte) (i : Nat) : u8 b i < 256 := (b[i]?.getD 0).isLt

/-- A bit reads as 1 exactly where it differs from the inversion (03:R45). -/
theorem readBit_eq (b : Byte) (i : Nat) (inv : Bool) :
    readBit b i inv = if (b.toNat / 2 ^ i % 2 = 1) = (inv = false) then 1 else 0 := by
  have hbit : b.getLsbD i = decide (b.toNat / 2 ^ i % 2 = 1) := Nat.testBit_eq_decide_div_mod_eq
  unfold readBit
  rw [hbit]
  cases inv <;> by_cases h : b.toNat / 2 ^ i % 2 = 1 <;> simp [h]

/-- Two's complement of two bytes, by the sign bit of the high byte (03:R45). -/
theorem s16_eq (b : List Byte) (i : Nat) :
    s16 b i = if u8 b i < 128 then (256 * u8 b i + u8 b (i + 1) : Int)
      else (256 * u8 b i + u8 b (i + 1) : Int) - 65536 := by
  have hi := u8_lt b i
  have lo := u8_lt b (i + 1)
  have hmod : u16 b i % 2 ^ 16 = u16 b i := by unfold u16; omega
  rw [s16, BitVec.toInt_eq_toNat_cond, BitVec.toNat_ofNat, hmod]
  unfold u16
  split <;> split <;> omega

/-- The reading of the model is that of 03:R45. -/
theorem PointEntry.reading_eq_readingOf (e : PointEntry) (payload : List Byte) :
    e.reading payload = readingOf e payload := by
  unfold PointEntry.reading readingOf
  cases e.width with
  | bit => exact readBit_eq _ _ _
  | u8 => rfl
  | s16 => exact s16_eq payload e.offset
  | u16 | call => simp [u16, u8]; omega
  | u24 => simp [u24, u16, u8, Nat.add_assoc]; omega

/-- A reading lies in the range of its width (03:R45). -/
theorem readingOf_range (e : PointEntry) (payload : List Byte) :
    (e.width = .bit → readingOf e payload = 0 ∨ readingOf e payload = 1)
      ∧ (e.width = .u8 → 0 ≤ readingOf e payload ∧ readingOf e payload ≤ 255)
      ∧ (e.width = .u16 ∨ e.width = .call → 0 ≤ readingOf e payload ∧ readingOf e payload ≤ 65535)
      ∧ (e.width = .s16 → -32768 ≤ readingOf e payload ∧ readingOf e payload ≤ 32767)
      ∧ (e.width = .u24 → 0 ≤ readingOf e payload ∧ readingOf e payload ≤ 16777215) := by
  have b0 := u8_lt payload (e.offset + 0)
  have b1 := u8_lt payload (e.offset + 1)
  have b2 := u8_lt payload (e.offset + 2)
  unfold u8 at b0 b1 b2
  unfold readingOf
  cases e.width with
  | bit => simp [Decidable.em, or_comm]
  | s16 => simp at b0 ⊢; split <;> omega
  | u8 | u16 | call | u24 => simp at b0 ⊢; omega

/-- Settles O24, by the width of the entry. -/
theorem numericPointTakesEveryReading : Obligations.NumericPointTakesEveryReading := by
  refine ⟨fun e payload => ?_, fun p e payload t hbit => ⟨fun hcall => ?_, fun hcall => ?_⟩⟩
  · dsimp only
    rw [e.reading_eq_readingOf]
    exact ⟨rfl, readingOf_range e payload⟩
  · rw [← e.reading_eq_readingOf]
    unfold Point.take
    cases hw : e.width with
    | bit => exact absurd hw hbit
    | call => exact absurd hw hcall
    | u8 | u16 | s16 | u24 => rfl
  · rw [← e.reading_eq_readingOf]
    simp [Point.take, hcall, Point.takeNumeric, u8]

/-! One reading of a binary point takes one of the three courses of 03:R47. -/

/-- A reading that agrees with a FRESH value clears the run. -/
theorem Point.takeBinary_agrees (p : Point) (k : Nat) (x : Int) (t : Time) (hf : p.freshness = .fresh) (hx : x = p.value) :
    p.takeBinary k x t = { p with age := 0, received := some t, run := none } := by
  simp [Point.takeBinary, hf, hx]

/-- Any other reading extends the run, and the run that reaches k + 1 sets value and freshness. -/
theorem Point.takeBinary_differs (p : Point) (k : Nat) (x : Int) (t : Time) (h : p.freshness ≠ .fresh ∨ x ≠ p.value) :
    p.takeBinary k x t =
      if k < (extendRun p.run x).count then
        { p with age := 0, received := some t, value := x, freshness := .fresh, run := none }
      else { p with age := 0, received := some t, run := some (extendRun p.run x) } := by
  have hd : ¬(p.freshness = .fresh ∧ x = p.value) := by tauto
  simp [Point.takeBinary, hd]

/-- A run of the same candidate grows by one. -/
theorem extendRun_same (r : Run) (x : Int) (h : r.candidate = x) :
    extendRun (some r) x = { candidate := x, count := r.count + 1 } := by
  simp [extendRun, ← h]

/-- No run, or one of the other value, gives place to a run of count 1. -/
theorem extendRun_other (run : Option Run) (x : Int) (h : ∀ r, run = some r → r.candidate ≠ x) :
    extendRun run x = { candidate := x, count := 1 } := by
  cases run with
  | none => rfl
  | some r => simp [extendRun, h r rfl]

/-- The three courses of one reading of a binary point, by its run (03:R47). -/
theorem Point.takeBinary_courses (p : Point) (k : Nat) (x : Int) (t : Time) :
    let q := p.takeBinary k x t
    let read := { p with age := 0, received := some t }
    let settled := { read with value := x, freshness := .fresh, run := none }
    (p.freshness = .fresh → x = p.value → q = { read with run := none })
      ∧ (p.freshness ≠ .fresh ∨ x ≠ p.value →
        (∀ r, p.run = some r → r.candidate = x →
            (r.count < k → q = { read with run := some { candidate := x, count := r.count + 1 } })
              ∧ (k ≤ r.count → q = settled))
          ∧ ((∀ r, p.run = some r → r.candidate ≠ x) →
            (0 < k → q = { read with run := some { candidate := x, count := 1 } }) ∧ (k = 0 → q = settled))) := by
  refine ⟨p.takeBinary_agrees k x t, fun hd => ⟨fun r hr hx => ?_, fun ho => ?_⟩⟩
  · rw [p.takeBinary_differs k x t hd, hr, extendRun_same r x hx]
    exact ⟨fun h => if_neg (by simp; omega), fun h => if_pos (by simp; omega)⟩
  · rw [p.takeBinary_differs k x t hd, extendRun_other p.run x ho]
    exact ⟨fun h => if_neg (by simp; omega), fun h => if_pos (by simp; omega)⟩

/-- The point p while it debounces x: n readings of x have been counted, and value and freshness stand (03:R47). -/
structure Debouncing (p : Point) (x : Int) (n : Nat) (q : Point) : Prop where
  value : q.value = p.value
  freshness : q.freshness = p.freshness
  run : q.run = if n = 0 then none else some { candidate := x, count := n }
  age : n ≠ 0 → q.age = 0

/-- While x is debounced, the next reading of x carries the run to n + 1. -/
theorem Debouncing.extendRun {p q : Point} {x : Int} {n : Nat} (h : Debouncing p x n q) :
    extendRun q.run x = { candidate := x, count := n + 1 } := by
  rw [h.run]
  split
  · rename_i h0
    rw [extendRun_other none x (by simp), h0]
  · exact extendRun_same _ x rfl

/-- A reading of x that is not yet the (k + 1)th is counted. -/
theorem Debouncing.take {p q : Point} {x : Int} {n k : Nat} (h : Debouncing p x n q) (t : Time)
    (hx : p.freshness = .fresh → x ≠ p.value) (hn : n < k) : Debouncing p x (n + 1) (q.takeBinary k x t) := by
  have hd : q.freshness ≠ .fresh ∨ x ≠ q.value := by rw [h.freshness, h.value]; tauto
  rw [q.takeBinary_differs k x t hd, h.extendRun, if_neg (by simp; omega)]
  exact ⟨h.value, h.freshness, by simp, fun _ => rfl⟩

/-- Up to k readings of a new value are all counted. -/
theorem Debouncing.foldl {p : Point} {x : Int} (k : Nat) (hx : p.freshness = .fresh → x ≠ p.value) :
    ∀ (times : List Time) (n : Nat) (q : Point), Debouncing p x n q → n + times.length ≤ k →
      Debouncing p x (n + times.length) (times.foldl (fun q t => q.takeBinary k x t) q)
  | [], _, _, h, _ => h
  | t :: ts, n, q, h, hle => by
    rw [List.length_cons] at hle ⊢
    have next := h.take (k := k) t hx (by omega)
    have rest := Debouncing.foldl k hx ts (n + 1) _ next (by omega)
    rwa [show n + (ts.length + 1) = n + 1 + ts.length by omega]

/-- A run of readings of a new value, toward which there was no run: up to k of them leave value and freshness, the
(k + 1)th sets both (03:R47). -/
theorem Point.takeBinary_foldl (p : Point) (k : Nat) (x : Int) (times : List Time) (hr : p.run = none)
    (hx : p.freshness = .fresh → x ≠ p.value) :
    let q := times.foldl (fun q t => q.takeBinary k x t) p
    (times.length ≤ k → q.value = p.value ∧ q.freshness = p.freshness
        ∧ (times ≠ [] → q.run = some { candidate := x, count := times.length } ∧ q.age = 0))
      ∧ (times.length = k + 1 → q.value = x ∧ q.freshness = .fresh ∧ q.run = none ∧ q.age = 0) := by
  have start : Debouncing p x 0 p := ⟨rfl, rfl, by simp [hr], by simp⟩
  refine ⟨fun hle => ?_, fun heq => ?_⟩
  · have h := Debouncing.foldl k hx times 0 p start (by omega)
    rw [Nat.zero_add] at h
    refine ⟨h.value, h.freshness, fun hne => ?_⟩
    have hlen : times.length ≠ 0 := by simpa using hne
    exact ⟨by rw [h.run, if_neg hlen], h.age hlen⟩
  · obtain ⟨init, last, rfl⟩ : ∃ init last, times = init ++ [last] :=
      (List.eq_nil_or_concat' times).resolve_left (by rintro rfl; simp at heq)
    have hlen : init.length = k := by simpa using heq
    have h := Debouncing.foldl k hx init 0 p start (by omega)
    rw [Nat.zero_add] at h
    have hd := h.freshness ▸ h.value ▸ Decidable.not_or_of_imp hx
    rw [List.foldl_append, List.foldl_cons, List.foldl_nil, Point.takeBinary_differs _ k x last hd, h.extendRun,
      if_pos (by simp; omega)]
    exact ⟨rfl, rfl, rfl, rfl⟩

/-! Misses (03:R48, R49). -/

/-- A point after n misses from age 0 (03:R48, R49). -/
def MissedTimes (p : Point) (limit n : Nat) : Point :=
  { p with
    run := if n = 0 then p.run else none
    age := if p.freshness = .never then 0 else min n 15
    freshness := if p.freshness = .fresh ∧ limit ≤ n then .stale else p.freshness }

/-- One more miss. -/
theorem MissedTimes.miss (p : Point) (limit n : Nat) (hl : limit ≤ 15) :
    (MissedTimes p limit n).miss limit = MissedTimes p limit (n + 1) := by
  have hage : min (min n 15 + 1) 15 = min (n + 1) 15 := by omega
  have hreach : limit ≤ min (n + 1) 15 ↔ limit ≤ n + 1 := by omega
  cases hf : p.freshness with
  | never => simp [Point.miss, MissedTimes, hf]
  | stale => simp [Point.miss, MissedTimes, bump, hf, hage]
  | fresh =>
    by_cases h : limit ≤ n
    · simp [Point.miss, MissedTimes, bump, hf, hage, h, Nat.le_succ_of_le h]
    · simp [Point.miss, MissedTimes, bump, hf, hage, h, hreach]

/-- A run of misses from age 0. -/
theorem Point.miss_foldl (p : Point) (limit n : Nat) (h1 : 1 ≤ limit) (hl : limit ≤ 15) (ha : p.age = 0) :
    (List.replicate n ()).foldl (fun q _ => q.miss limit) p = MissedTimes p limit n := by
  induction n with
  | zero => cases p; simp_all [MissedTimes]; omega
  | succ n ih => rw [List.replicate_succ', List.foldl_append, ih]; exact MissedTimes.miss p limit n hl

/-- The bytes of a width. -/
theorem Width.bytes_eq (w : Width) : w.bytes = bytesOf w := by cases w <;> rfl

/-- A point of a node that replies takes a reading or a miss by the place of its bytes (03:R44). -/
theorem Point.onReply_eq (p : Point) (e : PointEntry) (payload : List Byte) (t : Time) :
    p.onReply e payload t = replyGives e p payload t := by
  simp [Point.onReply, replyGives, PointEntry.inside, Width.bytes_eq]

/-- Settles O25: the run of readings by induction on the list, the courses of one reading, and the misses by their count. -/
theorem readingsAndMissesOfAPoint : Obligations.ReadingsAndMissesOfAPoint := by
  refine ⟨Point.takeBinary_foldl, Point.takeBinary_courses, fun p e payload t => ⟨p.onReply_eq e payload t, fun hw => ?_⟩,
    fun p limit n h1 hl ha => ?_⟩
  · simp [Point.take, hw, e.reading_eq_readingOf]
  · dsimp only
    rw [p.miss_foldl limit n h1 hl ha]
    refine ⟨rfl, rfl, rfl, fun hn => ?_, fun hf => ?_, fun hf => ?_, fun hf => ?_⟩
    · simp [MissedTimes, Nat.ne_of_gt hn]
    all_goals simp [MissedTimes, hf]

end Sys2Proof.Machine
end

section
/-! ### The walk of the Condition Evaluator against the shapes of Safety.lean (04:R59 to R69) -/

namespace Sys2Proof.Machine

/-- A comparison of the model is that of 04:R59. -/
theorem PointOp.holds_iff (v : Int) (op : PointOp) : op.holds v = true ↔ Compares v op := by
  cases op <;> simp [PointOp.holds, Compares, and_assoc]

/-- A COUNTER BELOW term of the model is that of 04:R61. -/
theorem belowThreshold_iff (c : DutyCounter) : belowThreshold c = true ↔ ∃ r, c.record = some r ∧ c.value < r.threshold := by
  unfold belowThreshold
  cases c.record <;> simp

/-- Condition j reads as true exactly in the state TRUE. -/
theorem standsTrue_iff (states : Vector CondState 64) (j : Nat) :
    standsTrue states j = true ↔ look states j .isFalse = .isTrue := by
  simp [standsTrue]

/-- The truth of a term (04:R59 to R61). -/
theorem Term.holds_iff (s : State) (states : Vector CondState 64) (x : Term) :
    x.holds s.points.points s.duty.counters states = true ↔ TermTrue s states x := by
  cases x with
  | point n op => simp [Term.holds, TermTrue, State.point, PointOp.holds_iff]
  | condition j => exact standsTrue_iff states j
  | counterBelow k => exact belowThreshold_iff _

/-- A term reads one of the counters given. -/
theorem Term.readsCounter_iff (ks : List Nat) (x : Term) : x.readsCounter ks = true ↔ ∃ k ∈ ks, x = .counterBelow k := by
  cases x <;> simp [Term.readsCounter]

/-- An entry whose terms are all true (04:R62). -/
theorem allTermsTrue_iff (s : State) (states : Vector CondState 64) (unseen : List Nat) (entry : Option CondEntry) :
    allTermsTrue s.points.points s.duty.counters states unseen entry = true ↔ TermsTrue s states unseen entry := by
  cases entry with
  | none => simp [allTermsTrue, TermsTrue]
  | some e => simp [allTermsTrue, TermsTrue, Term.holds_iff, Term.readsCounter_iff]

/-- The conditions an entry references. -/
theorem mem_references (entry : Option CondEntry) (j : Nat) :
    j ∈ references entry ↔ ∃ e, entry = some e ∧ Term.condition j ∈ e.terms := by
  cases entry with
  | none => simp [references]
  | some e =>
    simp only [references, List.mem_filterMap, Option.some.injEq, exists_eq_left']
    constructor
    · rintro ⟨x, hx, h⟩
      cases x <;> simp_all
    · exact fun h => ⟨_, h, rfl⟩

/-- The truth of an entry depends on the condition states only through the conditions it references. -/
theorem allTermsTrue_congr (s : State) (a b : Vector CondState 64) (unseen : List Nat) (entry : Option CondEntry)
    (h : ∀ j ∈ references entry, look a j .isFalse = look b j .isFalse) :
    allTermsTrue s.points.points s.duty.counters a unseen entry
      = allTermsTrue s.points.points s.duty.counters b unseen entry := by
  rw [Bool.eq_iff_iff, allTermsTrue_iff, allTermsTrue_iff]
  refine exists_congr fun e => and_congr_right fun he => and_congr_right fun _ =>
    forall₂_congr fun x hx => or_congr_left ?_
  cases x with
  | point n op => rfl
  | counterBelow k => rfl
  | condition j => simp only [TermTrue, h j ((mem_references entry j).mpr ⟨e, he, hx⟩)]

/-- The model's table of evaluation gives what 04:R62 and R63 say. -/
theorem evaluate_gives (s : State) (states : Vector CondState 64) (unseen : List Nat) (expire : Bool)
    (entry : Option CondEntry) (st : CondState) :
    TableGives s states unseen expire entry st
      (evaluate s.now expire (holdOf entry) (allTermsTrue s.points.points s.duty.counters states unseen entry) st) := by
  have hall := allTermsTrue_iff s states unseen entry
  constructor
  case otherwise =>
    intro h
    rw [← hall, Bool.not_eq_true] at h
    simp [evaluate, h]
  case keeps =>
    rintro start h rfl (hexp | hlt)
    · simp [evaluate, hall.mpr h, hexp]
    · have hover : provingOver s.now (holdOf entry) (.proving start) = false := decide_eq_false (Nat.not_le.mpr hlt)
      simp [evaluate, hall.mpr h, hover]
  case ends =>
    rintro start h rfl hexp hle
    have hover : provingOver s.now (holdOf entry) (.proving start) = true := decide_eq_true hle
    simp [evaluate, hall.mpr h, hexp, hover]
  all_goals
    intro h
    simp +contextual [evaluate, hall.mpr h]

/-- What one walk leaves of condition n: evaluated with the states `final` that the walk ends in, or as it was. -/
def walkedState (s : State) (base final : Vector CondState 64) (marks : List Nat) (expire : Bool) (n : Nat)
    (st : CondState) : CondState :=
  let entry := look s.cond.table n none
  if marks.contains n || (references entry).any (changedStanding base final) then
    evaluate s.now expire (holdOf entry)
      (allTermsTrue s.points.points s.duty.counters final (unseenChanges s.cond.counterChanges expire st) entry) st
  else st

/-- One step of the walk. -/
theorem walkStates_cons (s : State) (base : Vector CondState 64) (marks : List Nat) (expire : Bool) (m : Nat)
    (ns : List Nat) (states : Vector CondState 64) :
    ∃ states', (∀ n, n ≠ m → look states' n .isFalse = look states n .isFalse)
      ∧ (m < 64 → look states' m .isFalse = walkedState s base states marks expire m (look states m .isFalse))
      ∧ walkStates s base marks expire (m :: ns) states = walkStates s base marks expire ns states' := by
  refine ⟨_, ?_, ?_, rfl⟩
  · intro n hn
    split
    · exact look_put_other _ _ _ _ _ (Ne.symm hn)
    · rfl
  · intro hm
    unfold walkedState
    dsimp only
    split
    · exact look_put_self _ _ _ _ hm
    · rfl

/-- The evaluation of condition n depends on the states only through lower conditions. -/
theorem walkedState_congr (s : State) (base a b : Vector CondState 64) (marks : List Nat) (expire : Bool) (n : Nat)
    (st : CondState) (h : ∀ j ∈ references (look s.cond.table n none), look a j .isFalse = look b j .isFalse) :
    walkedState s base a marks expire n st = walkedState s base b marks expire n st := by
  have hany : (references (look s.cond.table n none)).any (changedStanding base a)
      = (references (look s.cond.table n none)).any (changedStanding base b) := by
    rw [Bool.eq_iff_iff, List.any_eq_true, List.any_eq_true]
    exact exists_congr fun j => and_congr_right fun hj => by simp [changedStanding, standsTrue, h j hj]
  unfold walkedState
  simp only [hany, allTermsTrue_congr s a b _ _ h]

/-- A condition outside the list is left as it is. -/
theorem walkStates_other (s : State) (base : Vector CondState 64) (marks : List Nat) (expire : Bool) :
    ∀ (ns : List Nat) (states : Vector CondState 64) (n : Nat), n ∉ ns →
      look (walkStates s base marks expire ns states) n .isFalse = look states n .isFalse
  | [], _, _, _ => rfl
  | m :: ns, states, n, h => by
    obtain ⟨states', other, -, step⟩ := walkStates_cons s base marks expire m ns states
    rw [List.mem_cons, not_or] at h
    rw [step, walkStates_other s base marks expire ns states' n h.2, other n h.1]

/-- In a table whose entries reference lower conditions, a walk in ascending order evaluates each condition with the states
that it ends in (04:R66). -/
theorem walkStates_mem (s : State) (base : Vector CondState 64) (marks : List Nat) (expire : Bool)
    (hlow : LowerReferences s) :
    ∀ (ns : List Nat) (states : Vector CondState 64) (n : Nat), ns.Pairwise (· < ·) → n ∈ ns → n < 64 →
      look (walkStates s base marks expire ns states) n .isFalse
        = walkedState s base (walkStates s base marks expire ns states) marks expire n (look states n .isFalse)
  | m :: ns, states, n, hp, hmem, hn => by
    obtain ⟨states', other, self, step⟩ := walkStates_cons s base marks expire m ns states
    obtain ⟨hm, hns⟩ := List.pairwise_cons.mp hp
    rw [step]
    rcases List.mem_cons.mp hmem with rfl | hin
    · rw [walkStates_other s base marks expire ns states' n fun h => Nat.lt_irrefl n (hm n h), self hn]
      refine walkedState_congr s base _ _ marks expire n _ fun j hj => ?_
      obtain ⟨e, he, ht⟩ := (mem_references _ j).mp hj
      have hjn : j < n := hlow n e he j ht
      rw [walkStates_other s base marks expire ns states' j fun h => Nat.lt_asymm hjn (hm j h), other j (Nat.ne_of_lt hjn)]
    · rw [walkStates_mem s base marks expire hlow ns states' n hns hin hn, other n (Nat.ne_of_gt (hm n hin))]

/-- The walk evaluates the conditions marked and those that reference one whose standing the walk has changed (04:R66). -/
theorem evaluated_iff (s t : State) (marks : List Nat) (n : Nat) :
    (marks.contains n || (references (look s.cond.table n none)).any (changedStanding s.cond.states t.cond.states)) = true
      ↔ n ∈ marks ∨ ReferenceChanged s t n := by
  simp only [Bool.or_eq_true, List.contains_iff_mem, List.any_eq_true, mem_references, ReferenceChanged, changedStanding,
    bne_iff_ne]
  exact or_congr_right
    ⟨fun ⟨j, ⟨e, he, hj⟩, hc⟩ => ⟨e, j, he, hj, hc⟩, fun ⟨e, j, he, hj, hc⟩ => ⟨j, ⟨e, he, hj⟩, hc⟩⟩

theorem mem_conditionNumbers (n : Nat) : n ∈ conditionNumbers ↔ n < 64 := List.mem_range

theorem conditionNumbers_ascend : conditionNumbers.Pairwise (· < ·) := List.pairwise_lt_range

/-- One walk settles the conditions marked (04:R66). -/
theorem State.walk_settles (s : State) (marks : List Nat) (expire : Bool) (hlow : LowerReferences s) :
    Settles s (s.walk s.cond.states marks expire) (· ∈ marks) expire := by
  intro n hn
  have key : look (s.walk s.cond.states marks expire).cond.states n .isFalse
      = walkedState s s.cond.states (s.walk s.cond.states marks expire).cond.states marks expire n
        (look s.cond.states n .isFalse) :=
    walkStates_mem s _ marks expire hlow _ _ n conditionNumbers_ascend ((mem_conditionNumbers n).mpr hn) hn
  generalize s.walk s.cond.states marks expire = t at key
  unfold walkedState at key
  refine ⟨fun h => ?_, fun hmark href => ?_⟩
  · rw [if_pos ((evaluated_iff s t marks n).mpr h)] at key
    unfold Evaluated
    dsimp only
    rw [key]
    convert evaluate_gives s t.cond.states _ expire (look s.cond.table n none) (look s.cond.states n .isFalse) using 1
    simp [unseenChanges]
  · rw [if_neg (by rw [evaluated_iff]; tauto)] at key
    exact key

/-- The change set of a walk names each condition whose standing differs, with its new standing. -/
theorem changeSet_eq (base states : Vector CondState 64) :
    changeSet base states = (conditionNumbers.filter (changedStanding base states)).map fun n => (n, standsTrue states n) := by
  unfold changeSet
  rw [← List.filterMap_eq_map, List.filterMap_filter]
  rfl

theorem changeSet_isChangeSet (base states : Vector CondState 64) : IsChangeSet base states (changeSet base states) := by
  rw [changeSet_eq]
  refine ⟨?_, fun n b => ?_⟩
  · rw [List.map_map, show Prod.fst ∘ (fun n => (n, standsTrue states n)) = id from rfl, List.map_id]
    exact conditionNumbers_ascend.filter _
  · simp only [List.mem_map, List.mem_filter, mem_conditionNumbers, changedStanding, bne_iff_ne, Prod.mk.injEq]
    constructor
    · rintro ⟨m, ⟨hm, hc⟩, rfl, rfl⟩
      exact ⟨hm, hc, rfl⟩
    · rintro ⟨hn, hc, rfl⟩
      exact ⟨n, ⟨hn, hc⟩, rfl, rfl⟩

/-- The reports of a change set are those of the changes whose entries ask for one (04:R69). -/
theorem offerConditionReports_eq (table : Vector (Option CondEntry) 64) (c : Console) (set : ChangeSet) :
    offerConditionReports table c set =
      (set.filter fun x => ((look table x.1 none).map CondEntry.report).getD false).foldl
        (fun c x => c.offer 19 [BitVec.ofNat 8 x.1, if x.2 then 2 else 0]) c := by
  rw [List.foldl_filter]
  unfold offerConditionReports
  congr 1
  funext c x
  unfold Console.conditionReport
  cases look table x.1 none <;> rfl

/-- An unchanged Console Port has had no reports offered. -/
theorem Reports.refl (c : Console) : Reports c c := ⟨[], by simp, by simp⟩

/-- One condition report more (01:R15, R16). -/
theorem Reports.offer (c : Console) (payload : List Byte) : Reports c (c.offer 19 payload) := by
  unfold Console.offer
  split
  · exact ⟨[_], by simp [kindConditionReport], rfl⟩
  · exact ⟨[], by simp, by simp⟩

theorem Reports.trans {a b c : Console} (hab : Reports a b) (hbc : Reports b c) : Reports a c := by
  obtain ⟨m, hm, hb⟩ := hab
  obtain ⟨n, hn, hc⟩ := hbc
  refine ⟨m ++ n, fun f hf => (List.mem_append.mp hf).elim (hm f) (hn f), ?_⟩
  rw [hc, hb]
  simp

/-- A run of condition reports. -/
theorem Reports.foldl (set : ChangeSet) (c : Console) :
    Reports c (set.foldl (fun c x => c.offer 19 [BitVec.ofNat 8 x.1, if x.2 then 2 else 0]) c) := by
  induction set generalizing c with
  | nil => exact Reports.refl c
  | cons x xs ih => exact (Reports.offer c _).trans (ih _)

/-- Nothing but the Condition Evaluator moves in a walk (04:R66, R68, R69). -/
theorem State.walk_walked (s : State) (base : Vector CondState 64) (marks : List Nat) (expire : Bool) :
    Walked s (s.walk base marks expire) := by
  refine ⟨?_, rfl⟩
  show Reports s.console (offerConditionReports _ _ _)
  rw [offerConditionReports_eq]
  exact Reports.foldl _ _

/-- A walk hands its change set out (04:R68, R69). -/
theorem State.walk_handsOut (s : State) (base : Vector CondState 64) (marks : List Nat) (expire : Bool) :
    HandsOut s (s.walk base marks expire) (changeSet base (s.walk base marks expire).cond.states) := by
  have hstates : (s.walk base marks expire).cond.states = walkStates s base marks expire conditionNumbers s.cond.states := rfl
  rw [hstates]
  constructor
  case reports => exact offerConditionReports_eq _ _ _
  all_goals
    by_cases hset : changeSet base (walkStates s base marks expire conditionNumbers s.cond.states) = [] <;>
      simp [State.walk, hset]

/-- The walk of an event that marks conditions (04:R65 to R69). -/
theorem State.walk_walks (s : State) (marks : List Nat) : Walks s (s.walk s.cond.states marks false) (· ∈ marks) :=
  ⟨s.walk_walked _ marks false, _, changeSet_isChangeSet _ _, s.walk_handsOut _ marks false, s.walk_settles marks false⟩

/-- Only the marks of the 64 conditions count. -/
theorem Walks.congr {s t : State} {a b : Nat → Prop} (h : Walks s t a) (hab : ∀ n, n < 64 → (a n ↔ b n)) : Walks s t b := by
  obtain ⟨walked, set, hset, hands, settles⟩ := h
  refine ⟨walked, set, hset, hands, fun hlow n hn => ?_⟩
  rw [← hab n hn]
  exact settles hlow n hn

/-- The entries that hold a POINT TEST of one of these points. -/
theorem mem_markedBy_testsPoint (s : State) (ns : List Nat) (c : Nat) :
    c ∈ markedBy s.cond.table (Term.testsPoint ns) ↔ c < 64 ∧ Tests s (· ∈ ns) c := by
  rw [markedBy, List.mem_filter, mem_conditionNumbers]
  refine and_congr_right fun _ => ?_
  unfold Tests
  cases look s.cond.table c none with
  | none => simp
  | some e =>
    simp only [List.any_eq_true, Option.some.injEq]
    constructor
    · rintro ⟨x, hx, h⟩
      cases x with
      | point n op => exact ⟨e, n, op, rfl, hx, by simpa [Term.testsPoint] using h⟩
      | condition j => simp [Term.testsPoint] at h
      | counterBelow k => simp [Term.testsPoint] at h
    · rintro ⟨_, n, op, rfl, hx, h⟩
      exact ⟨_, hx, by simpa [Term.testsPoint] using h⟩

/-- A point change is one walk of the conditions that test one of its points (03:R50, 04:R65). -/
theorem State.walkPoints_walks (s : State) (ns : List Nat) : Walks s (s.walkPoints ns) (Tests s (· ∈ ns)) :=
  (s.walk_walks _).congr fun c hc => by rw [mem_markedBy_testsPoint, and_iff_right hc]

end Sys2Proof.Machine
end

section
/-! ### Point changes and the span measurement points (03:R50, R53 to R55) -/

namespace Sys2Proof.Machine

/-- What a point reads after one write. -/
theorem State.setPoint_point (s : State) (n m : Nat) (p : Point) :
    (s.setPoint n p).point m = if n = m ∧ n < 128 then p else s.point m :=
  look_put _ _ _ _ _

/-- The tests of an entry are read from the condition table alone. -/
theorem Tests.congr {s t : State} {P Q : Nat → Prop} (htable : s.cond.table = t.cond.table) (hPQ : ∀ n, P n ↔ Q n) (c : Nat) :
    Tests s P c ↔ Tests t Q c := by
  simp only [Tests, htable, hPQ]

/-- The gathered point change reaches the Condition Evaluator: it is walked, and the gather is over (03:R50, 04:R65). -/
theorem State.raisePoints_walks (u : State) (ns : List Nat) (h : u.points.gather = some ns) :
    u.raisePoints.points = { u.points with gather := none }
      ∧ Walks (u.setPoints { u.points with gather := none }) u.raisePoints (Tests u (· ∈ ns)) := by
  unfold State.raisePoints
  rw [h]
  cases ns with
  | nil => exact ⟨rfl, Walks.refl _ _ (by simp [Tests])⟩
  | cons n ns => exact ⟨by simp, State.walkPoints_walks _ _⟩

/-- Inside an event of the Point Image, a change joins that event (log 7). -/
theorem State.pointEvent_gathering (s : State) (f : State → State) (ns : List Nat) (h : s.points.gather = some ns) :
    s.pointEvent f = f s := by
  simp [State.pointEvent, h]

/-- The state at the start of an event of the Point Image. -/
def State.gathering (s : State) (ns : List Nat) : State := s.setPoints { s.points with gather := some ns }

/-- Outside one, the change is an event of its own. -/
theorem State.pointEvent_idle (s : State) (f : State → State) (h : s.points.gather = none) :
    s.pointEvent f = (f (s.gathering [])).raisePoints := by
  simp [State.pointEvent, h, State.gathering]

/-- A state inside an event is the start of one with the points it has gathered. -/
theorem State.gathering_self (s : State) (ns : List Nat) (h : s.points.gather = some ns) : s.gathering ns = s := by
  unfold State.gathering
  rw [← h]
  rfl

/-- A new value with the same freshness is a point change exactly where the value differs. -/
theorem pointChanged_value (p : Point) (v : Int) : pointChanged p { p with value := v } = true ↔ v ≠ p.value := by
  simp only [pointChanged, bne_self_eq_false, Bool.or_false, bne_iff_ne]
  exact ne_comm

/-- A new freshness with the same value is a point change exactly where the freshness differs. -/
theorem pointChanged_freshness (p : Point) (x : Freshness) :
    pointChanged p { p with freshness := x } = true ↔ x ≠ p.freshness := by
  simp only [pointChanged, bne_self_eq_false, Bool.false_or, bne_iff_ne]
  exact ne_comm

/-- One value written into a point, inside an event (03:R50, R53). -/
theorem State.setPoint_value (s : State) (n : Nat) (v : Int) :
    s.setPoint n { s.point n with value := v } = s.setPoints (WithValue s n v) := by
  have hjoin : (fun ns => if pointChanged (s.point n) { s.point n with value := v } = true then ns ++ [n] else ns)
      = fun ns => if v = (s.point n).value then ns else ns ++ [n] := by
    funext ns
    simp only [pointChanged_value, ne_eq, ite_not]
  exact congrArg (fun g => s.setPoints
    { s.points with
      points := put s.points.points n { s.point n with value := v }, gather := s.points.gather.map g }) hjoin

/-- The owner of a point writes its value (03:R53): one event, whose change is walked, or joins the event under way. -/
theorem State.writePoint_written (s : State) (n : Nat) (v : Int) : PointWritten s (s.writePoint n v) n v := by
  refine ⟨fun h => ?_, fun h => ?_⟩
  · have hn : (s.gathering []).setPoint n { (s.gathering []).point n with value := v }
        = (s.gathering []).setPoints (WithValue (s.gathering []) n v) := State.setPoint_value _ n v
    rw [State.writePoint, s.pointEvent_idle _ h, hn]
    have hw := State.raisePoints_walks ((s.gathering []).setPoints (WithValue (s.gathering []) n v)) _ rfl
    have hstart : ((s.gathering []).setPoints (WithValue (s.gathering []) n v)).setPoints
        { WithValue (s.gathering []) n v with gather := none } = s.setPoints (WithValue s n v) := by
      simp [State.gathering, WithValue, h, State.setPoints, State.point]
    rw [State.setPoints_points, hstart] at hw
    refine hw.2.congr fun c _ => Tests.congr rfl (fun m => ?_) c
    by_cases hv : v = (s.point n).value
    · simp [State.gathering, State.point] at hv ⊢
      simp [hv]
    · simp [State.gathering, State.point] at hv ⊢
      simp [hv]
  · obtain ⟨ns, hns⟩ := Option.ne_none_iff_exists'.mp h
    rw [State.writePoint, s.pointEvent_gathering _ ns hns, State.setPoint_value]

/-- What an event of the Point Image does inside one that is under way, it does as an event of its own (log 7). -/
theorem State.pointEvent_moved (s : State) (f : State → State) (firstPair pairLoss : Bool)
    (h : ∀ ns, PointsMoved (s.gathering ns) (f (s.gathering ns)) firstPair pairLoss) :
    PointsMoved s (s.pointEvent f) firstPair pairLoss := by
  cases hg : s.points.gather with
  | some ns =>
    rw [s.pointEvent_gathering f ns hg]
    simpa only [s.gathering_self ns hg] using h ns
  | none =>
    obtain ⟨hpoints, -, hjoins⟩ := h []
    obtain ⟨hmoved, more, hmore, hdiff⟩ := hjoins [] rfl
    rw [s.pointEvent_idle f hg]
    obtain ⟨hraised, hwalks⟩ := (f (s.gathering [])).raisePoints_walks more hmore
    generalize f (s.gathering []) = u at *
    generalize u.raisePoints = t at *
    refine ⟨?_, fun _ => ⟨by rw [hraised], ?_⟩, by simp [hg]⟩
    · rw [hraised, hpoints]
      rfl
    · have hstart : u.setPoints { u.points with gather := none } = s.setPoints t.points := by
        rw [hraised, hmoved]
        rfl
      rw [hstart] at hwalks
      refine hwalks.congr fun c _ => Tests.congr (by rw [hmoved]; rfl) (fun n => (hdiff n).trans ?_) c
      unfold PointDiffers State.point
      rw [hraised]
      rfl

/-! Points written one after the other. -/

/-- Each of the points listed is rewritten from its number and its content, inside an event. -/
def State.setEach (s : State) (ns : List Nat) (f : Nat → Point → Point) : State :=
  ns.foldl (fun s n => s.setPoint n (f n (s.point n))) s

/-- What the points read after distinct ones have been rewritten. -/
theorem State.setEach_point (f : Nat → Point → Point) (m : Nat) :
    ∀ (ns : List Nat) (s : State), ns.Nodup → (∀ n ∈ ns, n < 128) →
      (s.setEach ns f).point m = if m ∈ ns then f m (s.point m) else s.point m
  | [], _, _, _ => rfl
  | n :: ns, s, hnd, hlt => by
    obtain ⟨hnot, hnd⟩ := List.nodup_cons.mp hnd
    obtain ⟨hn, hlt⟩ := List.forall_mem_cons.mp hlt
    show ((s.setPoint n (f n (s.point n))).setEach ns f).point m = _
    rw [State.setEach_point f m ns _ hnd hlt, State.setPoint_point]
    by_cases h : n = m
    · subst h; simp [hnot, hn]
    · simp [h, Ne.symm h]

/-- Rewriting distinct points changes nothing else, and those that change join the point change gathered (03:R50). -/
theorem State.setEach_eq (f : Nat → Point → Point) :
    ∀ (ns : List Nat) (s : State), ns.Nodup →
      s.setEach ns f = s.setPoints
        { s.points with
          points := (s.setEach ns f).points.points
          gather := s.points.gather.map (· ++ ns.filter fun n => pointChanged (s.point n) (f n (s.point n))) }
  | [], s, _ => by
    have hnone : s.points.gather.map (· ++ []) = s.points.gather := by simp
    show s = s.setPoints { s.points with gather := s.points.gather.map (· ++ []) }
    rw [hnone]
    rfl
  | n :: ns, s, hnd => by
    obtain ⟨hnot, hnd⟩ := List.nodup_cons.mp hnd
    let t := s.setPoint n (f n (s.point n))
    have hrest : ns.filter (fun m => pointChanged (t.point m) (f m (t.point m)))
        = ns.filter fun m => pointChanged (s.point m) (f m (s.point m)) := by
      refine List.filter_congr fun m hm => ?_
      have hnm : n ≠ m := fun h => hnot (h ▸ hm)
      simp [t, State.setPoint_point, hnm]
    have hgather : t.points.gather.map (· ++ ns.filter fun m => pointChanged (t.point m) (f m (t.point m)))
        = s.points.gather.map (· ++ (n :: ns).filter fun m => pointChanged (s.point m) (f m (s.point m))) := by
      rw [hrest, show t.points.gather = s.points.gather.map fun ns =>
        if pointChanged (s.point n) (f n (s.point n)) then ns ++ [n] else ns from rfl, Option.map_map, List.filter_cons]
      congr 1
      funext g
      simp only [Function.comp_apply]
      split <;> simp
    calc s.setEach (n :: ns) f
        = t.setPoints { t.points with
            points := (t.setEach ns f).points.points
            gather := t.points.gather.map (· ++ ns.filter fun m => pointChanged (t.point m) (f m (t.point m))) } :=
          State.setEach_eq f ns t hnd
      _ = _ := by rw [hgather]; rfl

/-! The settling of points 112 to 116 (03:R55). -/

/-- The numbers of the span measurement points. -/
def spanNumbers : List Nat := [112, 113, 114, 115, 116]

theorem mem_spanNumbers (n : Nat) : n ∈ spanNumbers ↔ 112 ≤ n ∧ n ≤ 116 := by
  simp only [spanNumbers, List.mem_cons, List.not_mem_nil, or_false]
  omega

/-- The freshness of the span points is read from the marks, the span record and the encoder points, which are field
points. -/
theorem State.spanFreshness_congr {s t : State} (henc : EncodersInField s) (hr : t.span.record = s.span.record)
    (hf : t.points.firstPair = s.points.firstPair) (hl : t.points.pairLoss = s.points.pairLoss)
    (hp : ∀ n, n < 112 → t.point n = s.point n) : t.spanFreshness = s.spanFreshness := by
  unfold State.spanFreshness
  rw [hr, hf, hl]
  cases h : s.span.record with
  | none => rfl
  | some r =>
    obtain ⟨ha, hb⟩ := henc r h
    have ht : ∀ x, t.encoderFresh r x = s.encoderFresh r x := by
      intro x
      cases x with
      | a => exact congrArg (fun p => p.freshness == .fresh) (hp _ ha)
      | b => exact congrArg (fun p => p.freshness == .fresh) (hp _ hb)
    simp only [ht]

/-- Rewriting span points leaves what their freshness is read from. -/
theorem State.spanFreshness_setPoint (s : State) (n : Nat) (p : Point) (henc : EncodersInField s) (hn : 112 ≤ n) :
    (s.setPoint n p).spanFreshness = s.spanFreshness := by
  refine State.spanFreshness_congr henc rfl rfl rfl fun m hm => ?_
  rw [State.setPoint_point, if_neg (by omega)]

/-- A settling rewrites the freshness of points 112 to 116, one and the same for all (03:R55). -/
theorem State.settleSpanPoints_eq (s : State) (henc : EncodersInField s) :
    s.settleSpanPoints = s.setEach spanNumbers fun _ p => { p with freshness := s.spanFreshness } := by
  have hfold : ∀ (ns : List Nat) (u : State), EncodersInField u → u.spanFreshness = s.spanFreshness → (∀ n ∈ ns, 112 ≤ n) →
      ns.foldl (fun s n => s.setPoint n { s.point n with freshness := s.spanFreshness }) u
        = u.setEach ns fun _ p => { p with freshness := s.spanFreshness } := by
    intro ns
    induction ns with
    | nil => intros; rfl
    | cons n ns ih =>
      intro u hu hfresh hns
      obtain ⟨hn, hns⟩ := List.forall_mem_cons.mp hns
      show ns.foldl _ (u.setPoint n { u.point n with freshness := u.spanFreshness }) = _
      rw [ih (u.setPoint n { u.point n with freshness := u.spanFreshness }) hu
        ((u.spanFreshness_setPoint n _ hu hn).trans hfresh) hns, hfresh]
      rfl
  exact hfold _ s henc rfl fun n hn => ((mem_spanNumbers n).mp hn).1

/-- What the points read after a settling. -/
theorem State.settleSpanPoints_point (s : State) (henc : EncodersInField s) (m : Nat) :
    s.settleSpanPoints.point m =
      if m ∈ spanNumbers then { s.point m with freshness := s.spanFreshness } else s.point m := by
  rw [s.settleSpanPoints_eq henc]
  exact State.setEach_point _ m spanNumbers s (by decide) (by decide)

/-- Points 112 to 116 are settled when they have the freshness of the span (03:R55). -/
theorem spanPointsSettled_of_freshness (t : State) (h : ∀ n ∈ spanNumbers, (t.point n).freshness = t.spanFreshness) :
    SpanPointsSettled t := by
  intro n hlo hhi
  rw [h n ((mem_spanNumbers n).mpr ⟨hlo, hhi⟩)]
  refine ⟨fun hfirst => ?_, fun hfirst hor => ?_, fun hfirst hloss hknown => ?_⟩
  · simp [State.spanFreshness, hfirst]
  · unfold State.spanFreshness
    cases hloss : t.points.pairLoss <;> cases hr : t.span.record <;>
      simp_all [State.encoderFresh, SpanRecord.tower]
  · obtain ⟨r, hr, ha, hb⟩ := hknown
    simp [State.spanFreshness, hfirst, hloss, hr, State.encoderFresh, SpanRecord.tower, ha, hb]

/-- After a settling they are settled. -/
theorem State.settleSpanPoints_settled (s : State) (henc : EncodersInField s) : SpanPointsSettled s.settleSpanPoints := by
  have hfresh : s.settleSpanPoints.spanFreshness = s.spanFreshness := by
    refine State.spanFreshness_congr henc (by simp) (by simp) (by simp) fun n hn => ?_
    rw [s.settleSpanPoints_point henc, if_neg (by rw [mem_spanNumbers]; omega)]
  refine spanPointsSettled_of_freshness _ fun n hn => ?_
  rw [hfresh, s.settleSpanPoints_point henc, if_pos hn]

/-! The three writes of 03:R54, and the settling itself, are one shape. -/

/-- Values are written to points and the two marks are set (03:R54). -/
def State.spanValues (s : State) (ns : List Nat) (values : Nat → Int) (firstPair pairLoss : Bool) : State :=
  let u := s.setEach ns fun n p => { p with value := values n }
  u.setPoints { u.points with firstPair := firstPair, pairLoss := pairLoss }

/-- Values are written to span points, the two marks are set, and points 112 to 116 are settled (03:R54, R55). -/
def State.spanWrite (s : State) (ns : List Nat) (values : Nat → Int) (firstPair pairLoss : Bool) : State :=
  (s.spanValues ns values firstPair pairLoss).settleSpanPoints

/-- A settling writes no value and keeps the marks. -/
theorem State.settleSpanPoints_eq_spanWrite (s : State) (values : Nat → Int) :
    s.settleSpanPoints = s.spanWrite [] values s.points.firstPair s.points.pairLoss := rfl

/-- The point of a tower's height. -/
def heightPoint (x : Tower) : Nat := if x = .a then 112 else 113

/-- The points that a height write writes: that of its tower, once a pair has been formed (03:R54). -/
def State.heightPoints (s : State) (x : Tower) : List Nat := if s.points.firstPair = true then [heightPoint x] else []

/-- A height write keeps the marks (03:R54). -/
theorem State.heightWrite_eq_spanWrite (s : State) (x : Tower) (h : Int) :
    s.heightWrite x h = s.pointEvent fun v =>
      v.spanWrite (v.heightPoints x) (fun _ => h) v.points.firstPair v.points.pairLoss := by
  unfold State.heightWrite State.heightPoints
  congr 1
  funext v
  by_cases hf : v.points.firstPair = true
  · simp only [if_pos hf]
    cases x <;> rfl
  · simp only [if_neg hf]
    rfl

/-- A pair write writes all five points, sets the first-pair mark and clears the pair-loss mark (03:R54). -/
theorem State.pairWrite_eq_spanWrite (s : State) (hA hB skew mean speed : Int) :
    s.pairWrite hA hB skew mean speed =
      s.pointEvent fun v => v.spanWrite spanNumbers (PairValues hA hB skew mean speed) true false := rfl

/-- A pair loss write sets the pair-loss mark (03:R54). -/
theorem State.pairLossWrite_eq_spanWrite (s : State) (values : Nat → Int) :
    s.pairLossWrite = s.pointEvent fun v => v.spanWrite [] values v.points.firstPair true := rfl

/-- The points among those listed to which a new value is written. -/
def State.valuesMoved (s : State) (ns : List Nat) (values : Nat → Int) : List Nat :=
  ns.filter fun n => pointChanged (s.point n) { s.point n with value := values n }

theorem State.mem_valuesMoved (s : State) (ns : List Nat) (values : Nat → Int) (n : Nat) :
    n ∈ s.valuesMoved ns values ↔ n ∈ ns ∧ values n ≠ (s.point n).value := by
  rw [State.valuesMoved, List.mem_filter, pointChanged_value]

/-- The span points whose freshness a settling changes. -/
def State.freshnessMoved (s : State) : List Nat :=
  spanNumbers.filter fun n => pointChanged (s.point n) { s.point n with freshness := s.spanFreshness }

theorem State.mem_freshnessMoved (s : State) (n : Nat) :
    n ∈ s.freshnessMoved ↔ n ∈ spanNumbers ∧ s.spanFreshness ≠ (s.point n).freshness := by
  rw [State.freshnessMoved, List.mem_filter, pointChanged_freshness]

section SpanWrite

variable (s : State) (ns : List Nat) (values : Nat → Int) (firstPair pairLoss : Bool)

/-- The values written, as one rewriting of the Point Image. -/
theorem State.spanValues_eq (hnd : ns.Nodup) :
    s.spanValues ns values firstPair pairLoss = s.setPoints
      { s.points with
        points := (s.spanValues ns values firstPair pairLoss).points.points, firstPair := firstPair, pairLoss := pairLoss
        gather := s.points.gather.map (· ++ s.valuesMoved ns values) } := by
  have h := State.setEach_eq (fun n p => { p with value := values n }) ns s hnd
  unfold State.spanValues
  generalize s.setEach ns (fun n p => { p with value := values n }) = u at *
  rw [h]
  rfl

/-- A settling, as one rewriting of the Point Image. -/
theorem State.settleSpanPoints_eq_setPoints (henc : EncodersInField s) :
    s.settleSpanPoints = s.setPoints
      { s.points with
        points := s.settleSpanPoints.points.points
        gather := s.points.gather.map (· ++ s.freshnessMoved) } := by
  conv_lhs => rw [s.settleSpanPoints_eq henc, State.setEach_eq _ _ _ (by decide)]
  rw [← s.settleSpanPoints_eq henc]
  rfl

/-- What the points read after the values have been written. -/
theorem State.spanValues_point (hnd : ns.Nodup) (hns : ∀ n ∈ ns, n ∈ spanNumbers) (m : Nat) :
    (s.spanValues ns values firstPair pairLoss).point m =
      { s.point m with value := if m ∈ ns then values m else (s.point m).value } := by
  have hlt : ∀ n ∈ ns, n < 128 := fun n hn => by have := (mem_spanNumbers n).mp (hns n hn); omega
  refine (State.setEach_point (fun n p => { p with value := values n }) m ns s hnd hlt).trans ?_
  split <;> rfl

/-- The encoder points stay in the field. -/
theorem State.spanValues_encoders (hnd : ns.Nodup) (henc : EncodersInField s) :
    EncodersInField (s.spanValues ns values firstPair pairLoss) := by
  rw [State.spanValues_eq s ns values firstPair pairLoss hnd]
  exact henc

/-- What the points read after a span write. -/
theorem State.spanWrite_point (hnd : ns.Nodup) (henc : EncodersInField s) (hns : ∀ n ∈ ns, n ∈ spanNumbers) (m : Nat) :
    (s.spanWrite ns values firstPair pairLoss).point m =
      if m ∈ spanNumbers then
        { s.point m with
          value := if m ∈ ns then values m else (s.point m).value
          freshness := (s.spanValues ns values firstPair pairLoss).spanFreshness }
      else s.point m := by
  refine (State.settleSpanPoints_point _ (State.spanValues_encoders s ns values firstPair pairLoss hnd henc) m).trans ?_
  rw [State.spanValues_point s ns values firstPair pairLoss hnd hns]
  by_cases hm : m ∈ spanNumbers
  · simp only [if_pos hm]
  · simp [hm, mt (hns m) hm]

/-- A span write inside an event joins the points that differ to the point change gathered (03:R50, log 7). -/
theorem State.spanWrite_moved (hnd : ns.Nodup) (henc : EncodersInField s) (hns : ∀ n ∈ ns, n ∈ spanNumbers)
    (hg : s.points.gather ≠ none) :
    PointsMoved s (s.spanWrite ns values firstPair pairLoss) firstPair pairLoss := by
  have hw := State.spanValues_eq s ns values firstPair pairLoss hnd
  have hwenc := State.spanValues_encoders s ns values firstPair pairLoss hnd henc
  have hwpoint := State.spanValues_point s ns values firstPair pairLoss hnd hns
  have htpoint := State.spanWrite_point s ns values firstPair pairLoss hnd henc hns
  have ht := (s.spanValues ns values firstPair pairLoss).settleSpanPoints_eq_setPoints hwenc
  rw [← State.spanWrite] at ht
  generalize s.spanWrite ns values firstPair pairLoss = t at *
  generalize s.spanValues ns values firstPair pairLoss = w at *
  refine ⟨?_, fun h => absurd h hg, fun g hsome => ⟨?_, ?_⟩⟩
  · rw [ht, hw]
    rfl
  · rw [ht, hw]
    rfl
  · refine ⟨s.valuesMoved ns values ++ w.freshnessMoved, ?_, fun n => ?_⟩
    · rw [ht, hw, hsome]
      exact congrArg some (List.append_assoc _ _ _)
    · rw [List.mem_append, s.mem_valuesMoved, w.mem_freshnessMoved, PointDiffers, htpoint, hwpoint]
      by_cases hn : n ∈ spanNumbers
      · by_cases hv : n ∈ ns <;> simp [hn, hv]
      · simp [hn, mt (hns n) hn]

/-- A span write gives the span points their values and settles them, and writes no other point (03:R54, R55). -/
theorem State.spanWrite_spanPoints (hnd : ns.Nodup) (henc : EncodersInField s) (hns : ∀ n ∈ ns, n ∈ spanNumbers) :
    SpanPoints s (s.spanWrite ns values firstPair pairLoss) fun n => if n ∈ ns then values n else (s.point n).value := by
  have hpoint := State.spanWrite_point s ns values firstPair pairLoss hnd henc hns
  refine ⟨State.settleSpanPoints_settled _ (State.spanValues_encoders s ns values firstPair pairLoss hnd henc),
    fun n hn => ?_, fun n hlo hhi => ?_⟩
  · rw [hpoint, if_neg (by rw [mem_spanNumbers]; omega)]
  · rw [hpoint, if_pos ((mem_spanNumbers n).mpr ⟨hlo, hhi⟩)]

end SpanWrite

/-- The span points of an event are those that its write makes: raising the point change moves no point. -/
theorem State.pointEvent_spanPoints (s : State) (f : State → State) (values : Nat → Int)
    (h : ∀ ns, SpanPoints (s.gathering ns) (f (s.gathering ns)) values) : SpanPoints s (s.pointEvent f) values := by
  cases hg : s.points.gather with
  | some ns =>
    rw [s.pointEvent_gathering f ns hg]
    simpa only [s.gathering_self ns hg] using h ns
  | none =>
    rw [s.pointEvent_idle f hg]
    have hf := h []
    generalize f (s.gathering []) = u at *
    have hpoint : ∀ n, u.raisePoints.point n = u.point n := by
      intro n
      unfold State.raisePoints
      split <;> simp [State.point]
    obtain ⟨hsettled, hother, hvalues⟩ := hf
    refine ⟨?_, fun n hn => (hpoint n).trans (hother n hn), fun n hlo hhi => ?_⟩
    · intro n
      have := hsettled n
      simpa [hpoint] using this
    · rw [hpoint]
      exact hvalues n hlo hhi

/-- A span write as an event of its own. -/
theorem State.pointEvent_spanWrite (s : State) (f : State → State) (ns : List Nat) (values : Nat → Int)
    (firstPair pairLoss : Bool) (henc : EncodersInField s) (hnd : ns.Nodup) (hns : ∀ n ∈ ns, n ∈ spanNumbers)
    (hf : ∀ g, f (s.gathering g) = (s.gathering g).spanWrite ns values firstPair pairLoss) :
    PointsMoved s (s.pointEvent f) firstPair pairLoss
      ∧ SpanPoints s (s.pointEvent f) fun n => if n ∈ ns then values n else (s.point n).value := by
  refine ⟨s.pointEvent_moved f _ _ fun g => ?_, s.pointEvent_spanPoints f _ fun g => ?_⟩
  · rw [hf]
    exact State.spanWrite_moved _ ns values firstPair pairLoss hnd henc hns (Option.some_ne_none g)
  · rw [hf]
    exact State.spanWrite_spanPoints (s.gathering g) ns values firstPair pairLoss hnd henc hns

/-- A shape of values that agrees on points 112 to 116 is the same shape. -/
theorem SpanPoints.congr {s t : State} {v w : Nat → Int} (h : SpanPoints s t v) (hvw : ∀ n, n ∈ spanNumbers → v n = w n) :
    SpanPoints s t w := by
  obtain ⟨hsettled, hother, hvalues⟩ := h
  exact ⟨hsettled, hother, fun n hlo hhi => hvw n ((mem_spanNumbers n).mpr ⟨hlo, hhi⟩) ▸ hvalues n hlo hhi⟩

/-- Settles O26: each write is one shape, a span write, made in an event of its own or in the one under way. -/
theorem spanPointsAreSettled : Obligations.SpanPointsAreSettled := by
  refine ⟨fun s n v _ _ => s.writePoint_written n v, fun s henc => ⟨?_, fun hg => ?_, fun x h => ?_,
    fun hA hB skew mean speed => ?_, ?_⟩⟩
  · exact s.spanWrite_spanPoints [] (fun _ => 0) _ _ List.nodup_nil henc (by simp)
  · exact s.spanWrite_moved [] (fun _ => 0) _ _ List.nodup_nil henc (by simp) hg
  · have hns : (s.heightPoints x).Nodup ∧ ∀ n ∈ s.heightPoints x, n ∈ spanNumbers := by
      unfold State.heightPoints heightPoint
      cases x <;> split <;> decide
    rw [s.heightWrite_eq_spanWrite]
    obtain ⟨hmoved, hpoints⟩ := s.pointEvent_spanWrite
      (fun v => v.spanWrite (v.heightPoints x) (fun _ => h) v.points.firstPair v.points.pairLoss) (s.heightPoints x)
      (fun _ => h) s.points.firstPair s.points.pairLoss henc hns.1 hns.2 fun _ => rfl
    refine ⟨hmoved, hpoints.congr fun n _ => ?_⟩
    simp [State.heightPoints, heightPoint, HeightValues]
  · rw [s.pairWrite_eq_spanWrite]
    obtain ⟨hmoved, hpoints⟩ := s.pointEvent_spanWrite
      (fun v => v.spanWrite spanNumbers (PairValues hA hB skew mean speed) true false) spanNumbers
      (PairValues hA hB skew mean speed) true false henc (by decide) (fun _ h => h) fun _ => rfl
    exact ⟨hmoved, hpoints.congr fun n hn => if_pos hn⟩
  · rw [s.pairLossWrite_eq_spanWrite fun _ => 0]
    exact s.pointEvent_spanWrite (fun v => v.spanWrite [] (fun _ => 0) v.points.firstPair true) [] (fun _ => 0)
      s.points.firstPair true henc List.nodup_nil (by simp) fun _ => rfl

end Sys2Proof.Machine
end

section
/-! ### The vessel queue (08:R146 to R148, 03:R52) -/

namespace Sys2Proof.Machine

/-! No test of the vessel queue changes the channel state, so that no advance test follows (08:R144). -/

/-- Outside CHANGEOVER a failed GREEN leaves the channel state (08:R149). -/
theorem State.greenRetry_state (s : State) (h : s.chan.state ≠ .changeover) : s.greenRetry.chan.state = s.chan.state := by
  unfold State.greenRetry
  split
  · rfl
  · simp [h]

theorem State.greenFailed_state (s : State) (d : Direction) (x : Result) (h : s.chan.state ≠ .changeover) :
    (s.greenFailed d x).chan.state = s.chan.state := by
  have hretry := (s.alert (.channelGreenFailed d)).greenRetry_state (by simpa using h)
  unfold State.greenFailed
  dsimp only
  split <;> split <;> simp [hretry, Channel.wantRed]

/-- The opening test offers a GREEN in CLOSED only, and leaves the channel state (08:R149). -/
theorem State.openingTest_state (s : State) : s.openingTest.chan.state = s.chan.state := by
  unfold State.openingTest
  split
  · rfl
  · split
    · rename_i h
      have hclosed : s.chan.state = .closed := by
        have := h.1
        simp only [State.mayOpen, Bool.and_eq_true, beq_iff_eq] at this
        tauto
      rw [State.offerGreen_eq]
      split
      · simp
      · rw [State.greenFailed_state _ _ _ (by simp [hclosed])]
        simp
    · rfl

theorem State.queueTests_state (s : State) : s.queueTests.chan.state = s.chan.state := by
  simp [State.queueTests, State.openingTest_state]

theorem State.setVessels_state (s : State) (vs : List Vessel) : (s.setVessels vs).chan.state = s.chan.state := by
  simp [State.setVessels]

/-- An event of the Channel Controller that leaves the channel state is what it does, and no more (08:R144). -/
theorem State.channelStep_of_state (s : State) (f : State → State) (h : (f s).chan.state = s.chan.state) :
    s.channelStep f = f s := by
  simp [State.channelStep, State.channelEvent, h]

/-! The two tests find nothing to do on a quiet channel. -/

/-- No vessel waits exactly when each is CLEARED. -/
theorem NoneWaits.any_waits {vs : List Vessel} (h : NoneWaits vs) : vs.any Vessel.waits = false := by
  simpa [NoneWaits, Vessel.waits] using h

theorem NoneWaits.any_waitsFor {vs : List Vessel} (h : NoneWaits vs) (d : Direction) : vs.any (Vessel.waitsFor d) = false := by
  rw [List.any_eq_false]
  intro v hv
  simp [Vessel.waitsFor, Vessel.waits, h v hv]

theorem State.openingTest_of_quiet (s : State) (h : ChannelQuiet s.chan s.chan.vessels) : s.openingTest = s := by
  have hno : s.mayOpen = false := by
    rcases h with ⟨-, hphase⟩ | hnone
    · simp [State.mayOpen, hphase]
    · simp [State.mayOpen, hnone.any_waits]
  unfold State.openingTest
  split
  · rfl
  · simp [hno]

theorem State.changeoverTest_of_quiet (s : State) (h : ChannelQuiet s.chan s.chan.vessels) : s.changeoverTest = s := by
  unfold State.changeoverTest
  split
  · rfl
  · rename_i d hd
    rcases h with ⟨hclosed, -⟩ | hnone
    · simp [hclosed, ChannelState.direction] at hd
    · simp [hnone.any_waitsFor]

/-- The queue that has been set. -/
theorem State.setVessels_vessels (s : State) (vs : List Vessel) : (s.setVessels vs).chan.vessels = vs := by
  simp [State.setVessels]

/-- The queue and its two points (08:R146). -/
theorem State.setVessels_become (s : State) (vs : List Vessel) : VesselsBecome s (s.setVessels vs) vs := by
  refine ⟨_, State.writePoint_written _ 121 vs.length, ?_⟩
  cases vs <;> exact State.writePoint_written _ 122 _

/-- A change of the queue with the tests that follow it (08:R146). -/
theorem State.setVessels_tested (s : State) (vs : List Vessel) : VesselsTested s (s.setVessels vs).queueTests vs := by
  refine ⟨_, s.setVessels_become vs, rfl, fun hquiet => ?_⟩
  have hq : ChannelQuiet (s.setVessels vs).chan (s.setVessels vs).chan.vessels := by
    rw [s.setVessels_vessels]
    simpa [ChannelQuiet] using hquiet
  rw [State.queueTests, State.openingTest_of_quiet _ hq, State.changeoverTest_of_quiet _ hq]

/-- A vessel joins the queue (08:R146). -/
theorem State.joinVessel_tested (s : State) (tag : Nat) (d : Direction) :
    VesselsTested s (s.joinVessel tag d) (QueueJoined s tag d) := by
  have hjoined : QueueJoined s tag d = s.chan.vessels ++
      [{ tag := tag, direction := d, arrival := s.now, cleared := s.chan.joinsCleared d }] := by
    unfold QueueJoined Channel.joinsCleared
    rfl
  rw [hjoined]
  exact s.setVessels_tested _

theorem State.joinVessel_state (s : State) (tag : Nat) (d : Direction) : (s.joinVessel tag d).chan.state = s.chan.state := by
  rw [State.joinVessel, State.queueTests_state, State.setVessels_state]

theorem State.removeVessel_state (s : State) (tag : Nat) : (s.removeVessel tag).chan.state = s.chan.state := by
  rw [State.removeVessel, State.queueTests_state, State.setVessels_state]

/-- The entry with a tag leaves the queue (08:R148). -/
theorem State.removeVessel_tested (s : State) (pre post : List Vessel) (v : Vessel) (hvs : s.chan.vessels = pre ++ v :: post)
    (hpre : ∀ w ∈ pre, w.tag ≠ v.tag) : VesselsTested s (s.removeVessel v.tag) (pre ++ post) := by
  have herase : s.chan.vessels.eraseP (fun w => w.tag == v.tag) = pre ++ post := by
    rw [hvs, List.eraseP_append_right _ (by simpa using hpre), List.eraseP_cons_of_pos (by simp)]
  rw [State.removeVessel, herase]
  exact s.setVessels_tested _

/-- A join as an event of the Channel Controller: no advance test follows it (08:R144). -/
theorem State.joinStep_tested (s : State) (tag : Nat) (d : Direction) :
    VesselsTested s (s.channelStep fun s => s.joinVessel tag d) (QueueJoined s tag d) := by
  rw [s.channelStep_of_state (fun s => s.joinVessel tag d) (s.joinVessel_state tag d)]
  exact s.joinVessel_tested tag d

/-- A removal as an event of the Channel Controller: no advance test follows it (08:R144). -/
theorem State.removeStep_tested (s : State) (pre post : List Vessel) (v : Vessel) (hvs : s.chan.vessels = pre ++ v :: post)
    (hpre : ∀ w ∈ pre, w.tag ≠ v.tag) :
    VesselsTested s (s.channelStep fun s => s.removeVessel v.tag) (pre ++ post) := by
  rw [s.channelStep_of_state (fun s => s.removeVessel v.tag) (s.removeVessel_state v.tag)]
  exact s.removeVessel_tested pre post v hvs hpre

/-! Judging a call (08:R147). -/

theorem Channel.hasTag_iff (c : Channel) (tag : Nat) : c.hasTag tag = true ↔ ∃ v ∈ c.vessels, v.tag = tag := by
  simp [Channel.hasTag]

theorem Channel.hasTag_not (c : Channel) (tag : Nat) (h : ∀ v ∈ c.vessels, v.tag ≠ tag) : ¬c.hasTag tag = true := by
  rw [c.hasTag_iff]
  exact fun ⟨v, hv, ht⟩ => h v hv ht

/-- A direction byte names its direction (08:R147). -/
theorem directionOf_num (d : Direction) : directionOf d.num = some d := by cases d <;> rfl

theorem directionOf_bad (n : Nat) (h1 : n ≠ 1) (h2 : n ≠ 2) : directionOf n = none := by simp [directionOf, h1, h2]

/-- A call outside SERVICE is ignored and counted. -/
theorem State.vesselCall_ignored (s : State) (tag byte : Nat) (h : s.unit.mode ≠ .service) :
    s.vesselCall tag byte = s.setChan { s.chan with ignoredCalls := min (s.chan.ignoredCalls + 1) 65535 } := by
  rw [State.vesselCall, if_pos h]
  rfl

/-- A call with a bad direction byte is counted. -/
theorem State.vesselCall_badDirection (s : State) (tag byte : Nat) (h : s.unit.mode = .service) (h1 : byte ≠ 1)
    (h2 : byte ≠ 2) :
    s.vesselCall tag byte = s.setChan { s.chan with badDirections := min (s.chan.badDirections + 1) 65535 } := by
  rw [State.vesselCall, if_neg (not_not_intro h), directionOf_bad byte h1 h2]
  rfl

/-- A call in SERVICE with a direction, by what the queue holds. -/
theorem State.vesselCall_judged (s : State) (tag : Nat) (d : Direction) (h : s.unit.mode = .service) :
    s.vesselCall tag d.num =
      if s.chan.hasTag tag then s
      else if 8 ≤ s.chan.vessels.length then s.alert (.vesselQueueFull tag)
      else s.joinVessel tag d := by
  rw [State.vesselCall, if_neg (not_not_intro h), directionOf_num]
  rfl

/-- A call leaves the channel state. -/
theorem State.vesselCall_state (s : State) (tag byte : Nat) : (s.vesselCall tag byte).chan.state = s.chan.state := by
  unfold State.vesselCall
  split
  · rfl
  · split
    · rfl
    · split
      · rfl
      · split
        · simp
        · exact s.joinVessel_state tag _

/-! Requests (11:R183). -/

/-- The response is placed in the state whose ingress queue has lost its head, and the effect follows (11:R183). -/
theorem State.answer_eq (s : State) (f : Frame) (rest : List Frame) (r : Reply) :
    (s.setConsole { s.console with ingress := rest }).answer f r = r.effect (responded s f rest r.status r.detail r.data) := by
  have hcode : byte (requestCode f) = f.payload[0]?.getD 0 := by
    simp [byte, requestCode, u8]
  simp only [State.answer, responseFrame, hcode]
  rfl

/-- A request at the head of the ingress queue is judged and answered by its row (01:R14, 11:R183). -/
theorem State.request_served (s : State) (f : Frame) (rest : List Frame) (code n : Nat) (judge : Frame → State → Reply)
    (hs : Serves s f rest) (hf : Request f code n) :
    (s.whenRunning fun s => s.request (isRequest code) judge) =
      let r := judge f (s.setConsole { s.console with ingress := rest })
      r.effect (responded s f rest r.status r.detail r.data) := by
  obtain ⟨hpower, hingress, hrestart, hegress⟩ := hs
  obtain ⟨hkind, hcode, -⟩ := hf
  have hwanted : isRequest code f = true := by simp [isRequest, kindRequest, requestCode, hkind, hcode]
  rw [s.whenRunning_running _ hpower, State.request, s.serve_head _ _ f rest hingress hrestart hegress hwanted]
  exact s.answer_eq f rest _

/-- VESSEL ADD of the right size in SERVICE is judged by its fields (08:R148). -/
theorem exec_vesselAdd (s : State) (f : Frame) (rest : List Frame) (hs : Serves s f rest) (hf : Request f 21 4) :
    exec .vesselAdd s = .next
      (let r := if s.unit.mode ≠ .service then denied .wrongMode else vesselAddReply (u16 f.payload 1) (u8 f.payload 3) s
      r.effect (responded s f rest r.status r.detail r.data)) := by
  refine congrArg Host.Outcome.next ((s.request_served f rest 21 4 _ hs hf).trans ?_)
  obtain ⟨-, -, hlen⟩ := hf
  simp only [sized, if_pos hlen]
  rfl

/-- VESSEL REMOVE of the right size is judged by its tag (08:R148). -/
theorem exec_vesselRemove (s : State) (f : Frame) (rest : List Frame) (hs : Serves s f rest) (hf : Request f 22 3) :
    exec .vesselRemove s = .next
      (let r := if s.chan.hasTag (u16 f.payload 1) then
          accepted [] fun s => s.channelStep fun s => s.removeVessel (u16 f.payload 1)
        else denied .unknownTag
      r.effect (responded s f rest r.status r.detail r.data)) := by
  refine congrArg Host.Outcome.next ((s.request_served f rest 22 3 _ hs hf).trans ?_)
  obtain ⟨-, -, hlen⟩ := hf
  simp only [sized, if_pos hlen]
  rfl

/-- VESSEL ADD with fields in range, by what the queue holds (08:R148). -/
theorem vesselAddReply_judged (s : State) (tag : Nat) (d : Direction) (htag : tag ≠ 0) :
    vesselAddReply tag d.num s =
      if s.chan.hasTag tag then accepted [] id
      else if 8 ≤ s.chan.vessels.length then
        { denied .queueFull with effect := fun s => s.alert (.vesselQueueFull tag) }
      else accepted [] fun s => s.channelStep fun s => s.joinVessel tag d := by
  rw [vesselAddReply, directionOf_num]
  simp only [if_neg htag]
  rfl

/-- VESSEL ADD with a field out of range is refused RANGE (08:R148). -/
theorem vesselAddReply_range (s : State) (tag byte : Nat) (h : tag = 0 ∨ (byte ≠ 1 ∧ byte ≠ 2)) :
    vesselAddReply tag byte s = denied .range := by
  unfold vesselAddReply
  rcases h with htag | ⟨h1, h2⟩
  · split <;> simp [htag]
  · rw [directionOf_bad byte h1 h2]

/-- Settles O51: each course of a call, an ADD and a REMOVE, by the mode, the direction and what the queue holds. -/
theorem vesselsJoinAndLeave : Obligations.VesselsJoinAndLeave := by
  refine ⟨fun s before n e => ⟨fun h => if_neg (by tauto), fun hw h0 hne => ?_⟩, fun s tag byte _ => ⟨?_, ?_, ?_⟩,
    fun s f rest hs _ => ⟨fun hf => ⟨fun hm => ?_, fun hm hr => ?_, fun d hm htag hd => ?_⟩, fun hf => ⟨fun hno => ?_, ?_⟩⟩⟩
  · exact (if_pos ⟨hw, h0, hne⟩).trans (s.channelStep_of_state _ (s.vesselCall_state _ _))
  · exact s.vesselCall_ignored tag byte
  · exact s.vesselCall_badDirection tag byte
  · rintro d hm rfl
    rw [s.vesselCall_judged tag d hm]
    refine ⟨fun hin => if_pos ((s.chan.hasTag_iff tag).mpr hin), fun hno hfull => ?_, fun hno hroom => ?_⟩
    · rw [if_neg (s.chan.hasTag_not tag hno), if_pos hfull]
    · rw [if_neg (s.chan.hasTag_not tag hno), if_neg (Nat.not_le.mpr hroom)]
      exact s.joinVessel_tested tag d
  · rw [Denies, exec_vesselAdd s f rest hs hf, if_pos hm]
    rfl
  · rw [Denies, exec_vesselAdd s f rest hs hf, if_neg (not_not_intro hm), vesselAddReply_range s _ _ hr]
    rfl
  · rw [exec_vesselAdd s f rest hs hf, if_neg (not_not_intro hm), hd, vesselAddReply_judged s _ d htag]
    refine ⟨fun hin => ?_, fun hno hfull => ?_, fun hno hroom => ⟨_, rfl, ?_⟩⟩
    · rw [if_pos ((s.chan.hasTag_iff _).mpr hin)]
      rfl
    · rw [if_neg (s.chan.hasTag_not _ hno), if_pos hfull]
      rfl
    · rw [if_neg (s.chan.hasTag_not _ hno), if_neg (Nat.not_le.mpr hroom)]
      exact (responded s f rest 0 0 []).joinStep_tested (u16 f.payload 1) d
  · rw [Denies, exec_vesselRemove s f rest hs hf, if_neg (s.chan.hasTag_not _ hno)]
    rfl
  · intro pre v post hvs htag hpre
    have hin : s.chan.hasTag (u16 f.payload 1) = true := (s.chan.hasTag_iff _).mpr ⟨v, by simp [hvs], htag⟩
    rw [exec_vesselRemove s f rest hs hf, if_pos hin]
    rw [← htag] at hpre ⊢
    exact ⟨_, rfl, (responded s f rest 0 0 []).removeStep_tested pre post v hvs hpre⟩

end Sys2Proof.Machine
end

section
/-! ### A pair formed outside an event of the Point Image (06:R102, 03:R54) -/

namespace Sys2Proof.Machine

/-! What the statement O37 allows: one walk, and so at most one condition change set, for the points that a pair writes. -/

/-- A walk hands out at most one change set (04:R68). -/
theorem Walks.sets_length {s t : State} {marked : Nat → Prop} (h : Walks s t marked) :
    t.chan.sets.length ≤ s.chan.sets.length + 1 := by
  obtain ⟨-, set, -, hands, -⟩ := h
  rw [hands.chan]
  split <;> simp

/-- A walk leaves the Span Supervisor (04:R68). -/
theorem Walks.span {s t : State} {marked : Nat → Prop} (h : Walks s t marked) : t.span = s.span := by
  rw [h.1.2]
  rfl

/-- A pair of a span at rest, outside an event of the Point Image, with a skew within the trip and above the level
tolerance: by `PairTaken`, at most one change set is handed out. -/
theorem PairTaken.sets_length {s t : State} {l : LimitRecord} {r : SpanRecord} {h : Int} {time : Time} {u : Update}
    (hpair : PairTaken s t l r .a h time u false) (hg : s.points.gather = none) (hrest : ¬Moving s)
    (htrip : (h - u.height).natAbs ≤ l.tSkew) (htol : l.lTol < (h - u.height).natAbs) (hlevel : s.span.level = .notLevel) :
    t.chan.sets.length ≤ s.chan.sets.length + 1 := by
  obtain ⟨p, c, w, hmoved, -, -, hc, hw, ht, -, -⟩ := hpair
  have hwalks := (hmoved.walks hg).2
  obtain rfl : c = p := hc htrip
  have hlevelled : (Levelled c.span l (h - u.height)).level = c.span.level := by
    rw [hwalks.span]
    simp [Levelled, Nat.not_le.mpr htol, hlevel]
  rw [ht hrest rfl, hw.1 hlevelled]
  exact hwalks.sets_length

/-! A concrete span at rest: its points are settled and FRESH, and the other tower's update stands at height 0. Condition 0
tests the height of tower A, condition 1 the mean of a pair. -/

/-- A limit record whose fields lie in their ranges. -/
def restLimits : LimitRecord where
  eTrk := 50
  xTrk := 80
  lTol := 25
  aSkew := 200
  tSkew := 400
  nTrk := 4
  nLvl := 8
  uMax := 50
  window := 30
  missLimit := 4
  holdInterval := 300
  stopLimit := 8
  z1 := { bound := 80000, speed := 3000 }
  z2 := { bound := 80000, speed := 3000 }
  z3 := { bound := 80000, speed := 3000 }
  z4 := { bound := 80000, speed := 3000 }

/-- A span record with encoder points 0 and 1, one millimetre to the count. -/
def restRecord : SpanRecord where
  a := { encoder := 0, zero := 0, scale := 16000, negative := false, hoist := 51 }
  b := { encoder := 1, zero := 0, scale := 16000, negative := false, hoist := 52 }
  startUp := 1
  startDown := 2
  stop := 3
  trim := 4
  gainAcquire := 96
  gainTrack := 32
  deadband := 1
  top := 60000
  seat := 0
  arrival := 100
  startWindow := 500
  stallLimit := 10
  stallGrace := 1000
  standstill := 5
  b1 := 100
  b2 := 200
  b3 := 300
  b4 := 400

/-- The encoder points and the span points are FRESH, with value 0. -/
def restPoint (n : Nat) : Point :=
  if n < 2 ∨ n ∈ spanNumbers then { Point.first with freshness := .fresh } else Point.reset n

/-- A condition that holds while a point is at least 1. -/
def atLeastOne (n : Nat) : CondEntry := { terms := [.point n (.ge 1)], hold := 0, report := false }

/-- The last update of tower B. -/
def restUpdate : Update := { raw := 0, height := 0, time := 0 }

/-- MAINTENANCE, a pair formed before, between events of the Point Image. -/
def restSpan : State :=
  { State.reset with
    unit := { ModeChain.reset with mode := .maintenance, chain := true, limits := some restLimits }
    span := { Span.reset with record := some restRecord, towerB := { TowerState.reset with latest := some restUpdate } }
    points :=
      { PointImage.reset with
        points := mapTable (fun n _ => restPoint n) (Vector.replicate 128 Point.first), firstPair := true }
    cond :=
      { Conditions.reset with
        table := put (put (Vector.replicate 64 none) 0 (some (atLeastOne 112))) 1 (some (atLeastOne 115)) } }

/-- The height write and the pair write of an update at height 100 are two events, each walked: the first raises condition 0,
the second condition 1. -/
theorem restSpan_sets : (restSpan.encoderUpdate .a 100 0).chan.sets = [[(0, true)], [(1, true)]] := by decide +kernel

/-- The height of the update. -/
theorem restSpan_height : (restRecord.tower .a).height 100 = 100 := by decide

/-- Refutes O37: outside an event of the Point Image (`gather = none`) the height write of stage 3 and the pair write of
stage 6 are two events with a walk each, so that two change sets are handed out, where the statement has the pair's points
move in one walk. (In the machine every encoder update comes inside a reply's event, where both join its one point change;
the statement does not ask for that.) -/
theorem not_pairIsFormed : ¬Obligations.PairIsFormed := by
  rintro ⟨-, hforms⟩
  have henc : EncodersInField restSpan := by
    rintro r ⟨⟩
    decide
  have hwindow : WithinWindow restLimits 0 restUpdate := Or.inl (by decide)
  have hrest : ¬Moving restSpan := by
    unfold Moving
    decide
  have hpair := hforms restSpan restLimits restRecord .a 100 0 restUpdate rfl rfl (by decide) henc rfl hwindow
    fun h => absurd h hrest
  rw [restSpan_height] at hpair
  have hone : (restSpan.encoderUpdate .a 100 0).chan.sets.length ≤ 1 :=
    PairTaken.sets_length hpair rfl hrest (by decide) (by decide) rfl
  rw [restSpan_sets] at hone
  exact absurd hone (by decide)

end Sys2Proof.Machine
end

section
/-! ### Additions, thresholds and edges of the duty counters (09:R159 to R163, R165) -/

namespace Sys2Proof.Machine

/-- The threshold test of one counter by itself (09:R162). -/
def DutyCounter.tested (c : DutyCounter) : DutyCounter := if c.reaches then { c with reached := true } else c

/-- One addition with the threshold test that follows it (09:R161 to R163). -/
def DutyCounter.counted (frozen : Bool) (amount : Nat) (c : DutyCounter) : DutyCounter :=
  if c.takes frozen amount then (c.add frozen amount).tested else c

@[simp] theorem DutyCounter.tested_record (c : DutyCounter) : c.tested.record = c.record := by
  unfold DutyCounter.tested; split <;> rfl

@[simp] theorem DutyCounter.tested_value (c : DutyCounter) : c.tested.value = c.value := by
  unfold DutyCounter.tested; split <;> rfl

@[simp] theorem DutyCounter.add_record (frozen : Bool) (c : DutyCounter) (n : Nat) : (c.add frozen n).record = c.record := by
  unfold DutyCounter.add; split <;> rfl

@[simp] theorem DutyCounter.add_reached (frozen : Bool) (c : DutyCounter) (n : Nat) : (c.add frozen n).reached = c.reached := by
  unfold DutyCounter.add; split <;> rfl

@[simp] theorem DutyCounter.counted_value (frozen : Bool) (n : Nat) (c : DutyCounter) :
    (c.counted frozen n).value = (c.add frozen n).value := by
  unfold DutyCounter.counted DutyCounter.add; split <;> simp

@[simp] theorem DutyCounter.counted_record (frozen : Bool) (n : Nat) (c : DutyCounter) :
    (c.counted frozen n).record = c.record := by
  unfold DutyCounter.counted; split <;> simp

/-- The threshold test sets the reached flag where the value is at or above the threshold (09:R162). -/
theorem DutyCounter.tested_eq (c : DutyCounter) (r : DutyRecord) (h : c.record = some r) :
    c.tested = { c with reached := c.reached || decide (r.threshold ≤ c.value) } := by
  unfold DutyCounter.tested DutyCounter.reaches
  cases c with | mk record value overflow reached levelHeld =>
  obtain rfl : record = some r := h
  cases reached <;> by_cases hth : r.threshold ≤ value <;> simp [hth]

/-- A counter with a record takes an addition unless it is 0 or stopped by the freeze state (09:R161, R163). -/
theorem DutyCounter.takes_iff (frozen : Bool) (n : Nat) (c : DutyCounter) (r : DutyRecord) (h : c.record = some r) :
    c.takes frozen n = true ↔ ¬(n = 0 ∨ frozen = true ∧ r.freezable = true) := by
  cases frozen <;> simp [DutyCounter.takes, DutyCounter.stopped, h]

/-- A counter that is counted becomes what 09:R161 to R163 say. -/
theorem DutyCounter.counted_countsTo (frozen : Bool) (n : Nat) (c : DutyCounter) :
    CountsTo frozen n c (c.counted frozen n) := by
  unfold CountsTo
  cases hr : c.record with
  | none => simp [DutyCounter.counted, DutyCounter.takes, DutyCounter.stopped, hr]
  | some r =>
    by_cases htakes : c.takes frozen n = true
    · have hyes := (c.takes_iff frozen n r hr).mp htakes
      simp only [hyes, if_false]
      rw [DutyCounter.counted, if_pos htakes, DutyCounter.tested_eq _ r (by simp [hr]), DutyCounter.add, if_pos htakes, ← hr]
      rfl
    · have hno := not_not.mp (mt (c.takes_iff frozen n r hr).mpr htakes)
      simp only [hno, if_true]
      exact if_neg htakes

/-- A counter reaches its threshold in an addition exactly where its flag is set by it. -/
theorem DutyCounter.reaches_iff (frozen : Bool) (n : Nat) (c : DutyCounter) :
    (c.takes frozen n && (c.add frozen n).reaches) = true ↔ c.reached = false ∧ (c.counted frozen n).reached = true := by
  unfold DutyCounter.counted
  cases c.takes frozen n with
  | false => simp
  | true =>
    simp only [Bool.true_and, if_true, DutyCounter.tested]
    split
    · rename_i h
      simp only [h, true_iff, and_true]
      unfold DutyCounter.reaches at h
      split at h <;> simp_all
    · simp_all

/-- One counter is tested, and no other. -/
theorem dutyReach_eq (d : Duty) (k : Nat) :
    dutyReach d k =
      let c := look d.counters k DutyCounter.reset
      ({ d with
          counters := if c.reaches then put d.counters k c.tested else d.counters
          frozen := d.frozen || (c.reaches && c.action == .freeze) },
        if c.reaches && c.action != .none then [.counterThreshold k] else []) := by
  unfold dutyReach DutyCounter.tested
  dsimp only
  generalize look d.counters k DutyCounter.reset = c
  cases c.reaches <;> cases c.action <;> simp

/-- What the counters read after one threshold test. -/
theorem dutyReach_look (d : Duty) (k j : Nat) (hk : k < 8) :
    look (dutyReach d k).1.counters j DutyCounter.reset =
      if j = k then (look d.counters j DutyCounter.reset).tested else look d.counters j DutyCounter.reset := by
  rw [dutyReach_eq]
  dsimp only
  by_cases h : j = k
  · subst h
    unfold DutyCounter.tested
    split <;> simp [hk]
  · split <;> simp [Ne.symm h]

/-- The threshold tests of several counters (09:R162): each is tested once, by itself. -/
theorem dutyReachAll_spec (ks : List Nat) (hnd : ks.Nodup) (hks : ∀ k ∈ ks, k < 8) (d : Duty) :
    (dutyReachAll d ks).1 = { d with counters := (dutyReachAll d ks).1.counters, frozen := (dutyReachAll d ks).1.frozen }
      ∧ (∀ j, look (dutyReachAll d ks).1.counters j DutyCounter.reset =
        if j ∈ ks then (look d.counters j DutyCounter.reset).tested else look d.counters j DutyCounter.reset)
      ∧ ((dutyReachAll d ks).1.frozen = true ↔ d.frozen = true ∨ ∃ k ∈ ks, (look d.counters k DutyCounter.reset).reaches = true
        ∧ (look d.counters k DutyCounter.reset).action = .freeze)
      ∧ (dutyReachAll d ks).2 = (ks.filter fun k => (look d.counters k DutyCounter.reset).reaches
        && (look d.counters k DutyCounter.reset).action != .none).map Alert.counterThreshold := by
  induction ks generalizing d with
  | nil => simp [dutyReachAll]
  | cons k ks ih =>
    obtain ⟨hk, hnd⟩ := List.nodup_cons.mp hnd
    obtain ⟨hk8, hks⟩ := List.forall_mem_cons.mp hks
    obtain ⟨hrest, hlook, hfrozen, halerts⟩ := ih hnd hks (dutyReach d k).1
    have hother : ∀ j ∈ ks, look (dutyReach d k).1.counters j DutyCounter.reset = look d.counters j DutyCounter.reset :=
      fun j hj => by rw [dutyReach_look d k j hk8, if_neg (ne_of_mem_of_not_mem hj hk)]
    simp only [dutyReachAll]
    refine ⟨?_, fun j => ?_, ?_, ?_⟩
    · rw [hrest, dutyReach_eq]
    · rw [hlook, dutyReach_look d k j hk8]
      by_cases hj : j = k
      · simp [hj, hk]
      · simp [hj]
    · rw [hfrozen]
      have hcong : (∃ j ∈ ks, (look (dutyReach d k).1.counters j DutyCounter.reset).reaches = true
            ∧ (look (dutyReach d k).1.counters j DutyCounter.reset).action = .freeze)
          ↔ ∃ j ∈ ks, (look d.counters j DutyCounter.reset).reaches = true
            ∧ (look d.counters j DutyCounter.reset).action = .freeze :=
        exists_congr fun j => and_congr_right fun hj => by rw [hother j hj]
      rw [hcong, dutyReach_eq]
      simp [or_assoc]
    · rw [halerts, List.filter_congr fun j hj => by rw [hother j hj], dutyReach_eq]
      dsimp only
      rw [List.filter_cons]
      split <;> simp

/-- What an addition to every counter leaves and hands on (09:R159, R161 to R163, R165). -/
theorem Duty.addAll_spec (d : Duty) (amount : DutyCounter → Nat) :
    let counter := fun k => look d.counters k DutyCounter.reset
    let counted := fun k => (counter k).counted d.frozen (amount (counter k))
    let reached := fun k => (counter k).reached = false ∧ (counted k).reached = true
    let o := d.addAll amount
    o.duty = { d with counters := o.duty.counters, frozen := o.duty.frozen }
      ∧ (∀ k, k < 8 → look o.duty.counters k DutyCounter.reset = counted k)
      ∧ (o.duty.frozen = true ↔ d.frozen = true ∨ ∃ k, k < 8 ∧ reached k ∧ (counter k).action = .freeze)
      ∧ o.alerts = ((List.range 8).filter fun k => decide (reached k) && (counter k).action != .none).map Alert.counterThreshold
      ∧ ∀ k, k ∈ o.changes ↔ k < 8 ∧ (counted k).value ≠ (counter k).value := by
  intro counter counted reached o
  have hadded : ∀ k, k < 8 → look (mapTable (fun _ c => c.add d.frozen (amount c)) d.counters) k DutyCounter.reset
      = (counter k).add d.frozen (amount (counter k)) := fun k hk => look_mapTable _ _ _ _ _ hk
  have htook : ∀ k, k ∈ dutyNumbers.filter (fun k => (counter k).takes d.frozen (amount (counter k))) ↔
      k < 8 ∧ (counter k).takes d.frozen (amount (counter k)) = true := by
    simp [dutyNumbers]
  have hreached : ∀ k, k < 8 → ((counter k).takes d.frozen (amount (counter k)) = true
      ∧ (look (mapTable (fun _ c => c.add d.frozen (amount c)) d.counters) k DutyCounter.reset).reaches = true ↔ reached k) := by
    intro k hk
    rw [hadded k hk, ← Bool.and_eq_true]
    exact (counter k).reaches_iff d.frozen (amount (counter k))
  have haction : ∀ k, k < 8 →
      (look (mapTable (fun _ c => c.add d.frozen (amount c)) d.counters) k DutyCounter.reset).action = (counter k).action := by
    intro k hk
    rw [hadded k hk]
    simp [DutyCounter.action]
  obtain ⟨hduty, hlook, hfrozen, halerts⟩ := dutyReachAll_spec
    (dutyNumbers.filter fun k => (counter k).takes d.frozen (amount (counter k)))
    (List.nodup_range.filter _) (fun k hk => ((htook k).mp hk).1)
    { d with counters := mapTable (fun _ c => c.add d.frozen (amount c)) d.counters }
  refine ⟨hduty, fun k hk => ?_, hfrozen.trans (or_congr_right (exists_congr fun k => ?_)), halerts.trans ?_, fun k => ?_⟩
  · refine (hlook k).trans ?_
    by_cases ht : (counter k).takes d.frozen (amount (counter k)) = true
    · rw [if_pos ((htook k).mpr ⟨hk, ht⟩), hadded k hk]
      exact (if_pos ht).symm
    · rw [if_neg fun h => ht ((htook k).mp h).2, hadded k hk, DutyCounter.add, if_neg ht]
      exact (if_neg ht).symm
  · rw [htook k, and_assoc]
    refine and_congr_right fun hk => ?_
    rw [← hreached k hk, haction k hk, and_assoc]
  · rw [List.filter_filter]
    refine congrArg _ (List.filter_congr fun k hk => ?_)
    have hk8 := List.mem_range.mp hk
    rw [haction k hk8, Bool.eq_iff_iff]
    simp only [Bool.and_eq_true, decide_eq_true_eq]
    rw [← hreached k hk8]
    tauto
  · have hchanges : o.changes = (List.range 8).filter fun k =>
        (look (mapTable (fun _ c => c.add d.frozen (amount c)) d.counters) k DutyCounter.reset).value != (counter k).value :=
      rfl
    rw [hchanges, List.mem_filter, List.mem_range]
    refine and_congr_right fun hk => ?_
    rw [hadded k hk, bne_iff_ne]
    simp only [counted, DutyCounter.counted_value]

/-- The alerts of thresholds reached, as the offers of 09:R162. -/
theorem thresholdAlerts_eq (d : Duty) (reached : Nat → Prop) [DecidablePred reached] (c : Console) :
    (((List.range 8).filter fun k => decide (reached k) && (look d.counters k DutyCounter.reset).action != .none).map
      Alert.counterThreshold).foldl Console.alert c = ThresholdAlerts d reached c := by
  have haction : ∀ x : DutyCounter, x.action = (x.record.map DutyRecord.action).getD .none := by
    intro x
    unfold DutyCounter.action
    cases x.record <;> rfl
  simp only [haction]
  rw [List.foldl_map]
  refine List.foldl_ext _ _ _ fun c k hk => ?_
  have hk8 : k < 8 := List.mem_range.mp (List.mem_filter.mp hk).1
  have h0 : k / 256 = 0 := by omega
  show c.offer 21 [byte 7, byte (k / 256), byte k] = _
  rw [h0]
  rfl

theorem thresholdAlerts_congr (d : Duty) (p q : Nat → Prop) [DecidablePred p] [DecidablePred q] (c : Console)
    (h : ∀ k, k < 8 → (p k ↔ q k)) : ThresholdAlerts d p c = ThresholdAlerts d q c := by
  unfold ThresholdAlerts
  rw [List.filter_congr fun k hk => by rw [decide_eq_decide.mpr (h k (List.mem_range.mp hk))]]

/-- What the unit hands on after an addition to every counter: `o` is the outcome, but for the levels held (09:R162, R165). -/
theorem State.takeDuty_handsOn (s : State) (d : Duty) (amount : DutyCounter → Nat) (o : DutyOut)
    (hd : d.counters = s.duty.counters ∧ d.frozen = s.duty.frozen)
    (ho : o.alerts = (d.addAll amount).alerts ∧ o.changes = (d.addAll amount).changes
      ∧ o.duty.frozen = (d.addAll amount).duty.frozen)
    (hc : ∀ k, k < 8 → (look o.duty.counters k DutyCounter.reset).value
        = (look (d.addAll amount).duty.counters k DutyCounter.reset).value
      ∧ (look o.duty.counters k DutyCounter.reset).reached
        = (look (d.addAll amount).duty.counters k DutyCounter.reset).reached) :
    DutyHandsOn s (s.takeDuty o) := by
  obtain ⟨hcounters, hfrozen⟩ := hd
  obtain ⟨halerts, hchanges, hofrozen⟩ := ho
  obtain ⟨-, hlook, hspecFrozen, hspecAlerts, hspecChanges⟩ := d.addAll_spec amount
  simp only [hcounters, hfrozen] at hlook hspecFrozen hspecAlerts hspecChanges
  have hafter : ∀ k, k < 8 → (look o.duty.counters k DutyCounter.reset).value
        = ((look s.duty.counters k DutyCounter.reset).counted s.duty.frozen
          (amount (look s.duty.counters k DutyCounter.reset))).value
      ∧ (look o.duty.counters k DutyCounter.reset).reached
        = ((look s.duty.counters k DutyCounter.reset).counted s.duty.frozen
          (amount (look s.duty.counters k DutyCounter.reset))).reached := by
    intro k hk
    rw [← hlook k hk]
    exact hc k hk
  have haction : ∀ k, (look s.duty.counters k DutyCounter.reset).action = .freeze ↔
      ∃ r, (look s.duty.counters k DutyCounter.reset).record = some r ∧ r.action = .freeze := by
    intro k
    unfold DutyCounter.action
    cases (look s.duty.counters k DutyCounter.reset).record <;> simp
  refine ⟨?_, ⟨o.changes, rfl, fun k => ?_⟩, ?_⟩
  · show o.alerts.foldl Console.alert s.console = _
    rw [halerts, hspecAlerts, thresholdAlerts_eq]
    exact thresholdAlerts_congr _ _ _ _ fun k hk => and_congr_right fun _ => by rw [← (hafter k hk).2]; rfl
  · rw [hchanges, hspecChanges k]
    refine and_congr_right fun hk => ?_
    rw [← (hafter k hk).1]
    rfl
  · show o.duty.frozen = true ↔ _
    rw [hofrozen, hspecFrozen]
    refine or_congr_right (exists_congr fun k => ?_)
    rw [haction k]
    constructor
    · rintro ⟨hk, ⟨hold, hnew⟩, r, hr, hfreeze⟩
      exact ⟨r, hk, hr, hfreeze, hold, (hafter k hk).2.trans hnew⟩
    · rintro ⟨r, hk, hr, hfreeze, hold, hnew⟩
      exact ⟨hk, ⟨hold, (hafter k hk).2.symm.trans hnew⟩, r, hr, hfreeze⟩

/-- The parts of the state that an outcome of the Duty Counter Unit touches. -/
theorem State.takeDuty_eq (s : State) (o : DutyOut) :
    s.takeDuty o = ((s.setDuty (s.takeDuty o).duty).setConsole (s.takeDuty o).console).setCond (s.takeDuty o).cond := rfl

/-- An occurrence (09:R159). -/
theorem State.occur_spec (s : State) (e : DutyEvent) :
    s.occur e = ((s.setDuty (s.occur e).duty).setConsole (s.occur e).console).setCond (s.occur e).cond
      ∧ (s.occur e).duty = { s.duty with counters := (s.occur e).duty.counters, frozen := (s.occur e).duty.frozen }
      ∧ DutyHandsOn s (s.occur e)
      ∧ ∀ k, k < 8 → CountsTo s.duty.frozen (OccurrenceAdds e (look s.duty.counters k DutyCounter.reset))
        (look s.duty.counters k DutyCounter.reset) (look (s.occur e).duty.counters k DutyCounter.reset) := by
  obtain ⟨hduty, hlook, -⟩ := s.duty.addAll_spec (occurrenceAmount e)
  dsimp only at hlook
  refine ⟨rfl, hduty, s.takeDuty_handsOn s.duty (occurrenceAmount e) _ ⟨rfl, rfl⟩ ⟨rfl, rfl, rfl⟩ fun k _ => ⟨rfl, rfl⟩,
    fun k hk => ?_⟩
  have hadds : occurrenceAmount e (look s.duty.counters k DutyCounter.reset)
      = OccurrenceAdds e (look s.duty.counters k DutyCounter.reset) := by
    unfold occurrenceAmount OccurrenceAdds
    cases (look s.duty.counters k DutyCounter.reset).record <;> simp
  rw [show look (s.occur e).duty.counters k DutyCounter.reset = _ from hlook k hk, hadds]
  exact DutyCounter.counted_countsTo _ _ _

/-- The edge of a level that a counter counts (09:R159). -/
theorem edgeAmount_eq (d : Duty) (kind : DutyEventKind) (c : DutyCounter) : edgeAmount d kind c = EdgeAdds d kind c := by
  unfold edgeAmount EdgeAdds
  cases c.record with
  | none => rfl
  | some r =>
    by_cases hevent : r.event = kind <;> cases htime : r.time <;> cases hinvert : r.invert <;> cases c.levelHeld <;>
      cases d.level r <;> simp [hevent, htime, hinvert, bit]

@[simp] theorem followLevel_value (d : Duty) (kind : DutyEventKind) (c : DutyCounter) :
    (followLevel d kind c).value = c.value ∧ (followLevel d kind c).reached = c.reached := by
  unfold followLevel
  repeat' split
  all_goals exact ⟨rfl, rfl⟩

/-- The level depends on what the unit follows, not on its counters (09:R158). -/
theorem Duty.level_congr (d e : Duty) (r : DutyRecord) (h : d.standing = e.standing ∧ d.phase = e.phase
    ∧ d.occupancy = e.occupancy) : d.level r = e.level r := by
  obtain ⟨hstanding, hphase, hoccupancy⟩ := h
  unfold Duty.level
  rw [hstanding, hphase, hoccupancy]

/-- A reported change of a level: `d` is the unit that already follows it (09:R159, R163, R165). -/
theorem State.takeDuty_follow (s : State) (d : Duty) (kind : DutyEventKind)
    (hd : d.counters = s.duty.counters ∧ d.frozen = s.duty.frozen) :
    let t := s.takeDuty (d.follow kind)
    t.duty = { d with counters := t.duty.counters, frozen := t.duty.frozen } ∧ DutyHandsOn s t
      ∧ ∀ k, k < 8 → EdgesCounted s t kind k := by
  intro t
  obtain ⟨hduty, hlook, -⟩ := d.addAll_spec (edgeAmount d kind)
  dsimp only at hlook
  have hfollow : ∀ k, k < 8 → look t.duty.counters k DutyCounter.reset
      = followLevel d kind (look (d.addAll (edgeAmount d kind)).duty.counters k DutyCounter.reset) :=
    fun k hk => look_mapTable _ _ _ _ _ hk
  have htduty : t.duty = { d with counters := t.duty.counters, frozen := t.duty.frozen } := by
    show ({ (d.addAll (edgeAmount d kind)).duty with counters := t.duty.counters } : Duty) = _
    rw [hduty]
    rfl
  refine ⟨htduty, s.takeDuty_handsOn d (edgeAmount d kind) _ hd ⟨rfl, rfl, rfl⟩ fun k hk => ?_, fun k hk => ?_⟩
  · have := hfollow k hk
    change look (d.follow kind).duty.counters k DutyCounter.reset = _ at this
    simp [this]
  · have hlevel : ∀ r, t.duty.level r = d.level r := fun r => Duty.level_congr _ _ r (by rw [htduty]; exact ⟨rfl, rfl, rfl⟩)
    have hadds : edgeAmount d kind (look s.duty.counters k DutyCounter.reset)
        = EdgeAdds t.duty kind (look s.duty.counters k DutyCounter.reset) := by
      rw [edgeAmount_eq]
      simp only [EdgeAdds, hlevel]
    refine ⟨_, DutyCounter.counted_countsTo _ _ _, ?_⟩
    rw [hfollow k hk, hlook k hk, hd.1, hd.2, hadds]
    unfold followLevel
    rw [DutyCounter.counted_record]
    cases (look s.duty.counters k DutyCounter.reset).record with
    | none => rfl
    | some r => simp [hlevel]

/-- The standing of a condition after a change set (09:R158). -/
theorem look_foldl_put {α : Type} {m : Nat} (n : Nat) (d : α) (set : List (Nat × α)) (hnd : (set.map Prod.fst).Nodup)
    (hlt : ∀ x ∈ set, x.1 < m) (v : Vector α m) :
    (∀ b, (n, b) ∈ set → look (set.foldl (fun v x => put v x.1 x.2) v) n d = b)
      ∧ ((∀ b, (n, b) ∉ set) → look (set.foldl (fun v x => put v x.1 x.2) v) n d = look v n d) := by
  induction set generalizing v with
  | nil => simp
  | cons x xs ih =>
    obtain ⟨hx, hnd⟩ := List.nodup_cons.mp hnd
    obtain ⟨hxlt, hlt⟩ := List.forall_mem_cons.mp hlt
    obtain ⟨hin, hout⟩ := ih hnd hlt (put v x.1 x.2)
    rw [List.foldl_cons]
    constructor
    · intro b hb
      rcases List.mem_cons.mp hb with rfl | hb
      · rw [hout fun c hc => hx (List.mem_map.mpr ⟨_, hc, rfl⟩), look_put_self v n b d hxlt]
      · exact hin b hb
    · intro hno
      rw [hout fun b hb => hno b (List.mem_cons_of_mem _ hb), look_put_other v x.1 n x.2 d]
      rintro rfl
      exact hno x.2 List.mem_cons_self

/-- Settles O30: a change set, an occupancy and a phase are one shape, a level that the unit already follows and whose edges
it counts. -/
theorem levelEdgesAreCounted : Obligations.LevelEdgesAreCounted := by
  refine ⟨fun s set rest hpower hsets hnd hlt => ?_, fun s p => ⟨fun h => if_pos h, ?_, ?_⟩⟩
  · obtain ⟨hduty, hands, hedges⟩ := s.takeDuty_follow
      { s.duty with sets := rest, standing := set.foldl (fun v x => put v x.1 x.2) s.duty.standing } .conditionTrue ⟨rfl, rfl⟩
    have hstanding := congrArg Duty.standing hduty
    refine ⟨_, ?_, State.takeDuty_eq s (({ s.duty with sets := rest } : Duty).takeSet set), ?_, hands, fun n _ => ?_, hedges⟩
    · show Host.Outcome.next (s.whenRunning _) = _
      rw [s.whenRunning_running _ hpower, hsets]
    · exact hduty.trans (by rw [← hstanding]; rfl)
    · exact hstanding.symm ▸ look_foldl_put n false set hnd hlt s.duty.standing
  · rintro t rfl hne
    rw [State.reportOccupancy, if_neg hne]
    obtain ⟨hduty, hands, hedges⟩ := s.takeDuty_follow
      { s.duty with occupancy := s.gate.orders.length + s.gate.held.length } .queueOccupancy ⟨rfl, rfl⟩
    exact ⟨rfl, hands, hduty, hedges⟩
  · rintro t rfl
    obtain ⟨hduty, hands, hedges⟩ := s.takeDuty_follow { s.duty with phase := p } .phaseEntry ⟨rfl, rfl⟩
    exact ⟨rfl, hands, hduty, hedges⟩

end Sys2Proof.Machine
end

section
/-! ### Lookup and the seven checks (05:R75 to R81, R87) -/

namespace Sys2Proof.Machine

/-- A permit entry governs the order (05:R75). -/
theorem Permit.governs_iff (p : Permit) (node cls : Nat) : p.governs node cls = true ↔ Governs p node cls := by
  unfold Permit.governs Governs
  cases p.node <;> simp

/-- Only one entry is the matching entry. -/
theorem Matches.unique {permits : Vector (Option Permit) 96} {node cls n m : Nat} {p q : Permit}
    (h : Matches permits node cls n p) (g : Matches permits node cls m q) : n = m ∧ p = q := by
  obtain ⟨hp, hgov, hlow⟩ := h
  obtain ⟨hq, ggov, glow⟩ := g
  have hnm : n = m := by
    by_contra hne
    rcases Nat.lt_or_gt_of_ne hne with hlt | hlt
    · exact glow n p hlt hp hgov
    · exact hlow m q hlt hq ggov
  subst hnm
  exact ⟨rfl, Option.some.inj (hp.symm.trans hq)⟩

/-- What the lookup asks of one entry (05:R75). -/
def governingEntry (permits : Vector (Option Permit) 96) (node cls n : Nat) : Option (Nat × Permit) :=
  (look permits n none).bind fun p => if p.governs node cls then some (n, p) else none

theorem matchingEntry_eq (permits : Vector (Option Permit) 96) (node cls : Nat) :
    matchingEntry permits node cls = permitNumbers.findSome? (governingEntry permits node cls) := by
  unfold matchingEntry
  congr 1
  funext n
  unfold governingEntry
  cases look permits n none <;> rfl

theorem governingEntry_eq_some (permits : Vector (Option Permit) 96) (node cls n : Nat) (x : Nat × Permit) :
    governingEntry permits node cls n = some x ↔ x.1 = n ∧ look permits n none = some x.2 ∧ Governs x.2 node cls := by
  obtain ⟨m, q⟩ := x
  simp only [governingEntry, Option.bind_eq_some_iff, Option.ite_none_right_eq_some, Option.some.injEq, Prod.mk.injEq,
    Permit.governs_iff]
  constructor
  · rintro ⟨p, hp, hg, rfl, rfl⟩
    exact ⟨rfl, hp, hg⟩
  · rintro ⟨rfl, hp, hg⟩
    exact ⟨q, hp, hg, rfl, rfl⟩

/-- The lookup finds nothing where no present entry governs the order (05:R75). -/
theorem matchingEntry_eq_none (permits : Vector (Option Permit) 96) (node cls : Nat) :
    matchingEntry permits node cls = none ↔ ∀ n p, look permits n none = some p → ¬Governs p node cls := by
  rw [matchingEntry_eq, permitNumbers, List.findSome?_eq_none_iff]
  constructor
  · intro h n p hp hg
    have hn : n < 96 := by
      by_contra hge
      rw [look_of_le permits n none (Nat.not_lt.mp hge)] at hp
      cases hp
    have hsome := (governingEntry_eq_some permits node cls n (n, p)).mpr ⟨rfl, hp, hg⟩
    rw [h n (List.mem_range.mpr hn)] at hsome
    cases hsome
  · intro h n _
    rw [Option.eq_none_iff_forall_ne_some]
    intro x hx
    obtain ⟨-, hp, hg⟩ := (governingEntry_eq_some permits node cls n x).mp hx
    exact h n x.2 hp hg

/-- The lookup finds the lowest-numbered present entry that governs the order (05:R75). -/
theorem matchingEntry_eq_some (permits : Vector (Option Permit) 96) (node cls n : Nat) (p : Permit) :
    matchingEntry permits node cls = some (n, p) ↔ Matches permits node cls n p := by
  have hfound : ∀ m q, matchingEntry permits node cls = some (m, q) → Matches permits node cls m q := by
    intro m q h
    rw [matchingEntry_eq] at h
    obtain ⟨before, a, behind, hrange, ha, hbefore⟩ := List.findSome?_eq_some_iff.mp h
    obtain ⟨rfl, hq, hg⟩ := (governingEntry_eq_some permits node cls a (m, q)).mp ha
    refine ⟨hq, hg, fun k r hk hr hgr => ?_⟩
    have hk96 : k ∈ permitNumbers := by
      have hm96 : m ∈ permitNumbers := by rw [hrange]; simp
      simp only [permitNumbers, List.mem_range] at hm96 ⊢
      exact Nat.lt_trans hk hm96
    have hsorted : (before ++ m :: behind).Pairwise (· < ·) := hrange ▸ List.pairwise_lt_range
    have hin : k ∈ before := by
      rw [hrange, List.mem_append, List.mem_cons] at hk96
      rcases hk96 with hk96 | rfl | hk96
      · exact hk96
      · exact absurd hk (Nat.lt_irrefl _)
      · exact absurd hk (Nat.lt_asymm ((List.pairwise_cons.mp (List.pairwise_append.mp hsorted).2.1).1 k hk96))
    have hsome := (governingEntry_eq_some permits node cls k (k, r)).mpr ⟨rfl, hr, hgr⟩
    rw [hbefore k hin] at hsome
    cases hsome
  refine ⟨hfound n p, fun h => ?_⟩
  cases hm : matchingEntry permits node cls with
  | none => exact absurd h.2.1 ((matchingEntry_eq_none permits node cls).mp hm n p h.1)
  | some x =>
    obtain ⟨hn, hp⟩ := h.unique (hfound x.1 x.2 hm)
    rw [hn, hp]

/-- Settles O31: the lookup's two outcomes, and the orders that admissible entries never govern. -/
theorem lookupTakesTheFirstMatch : Obligations.LookupTakesTheFirstMatch := by
  refine fun permits node cls => ⟨matchingEntry_eq_some permits node cls, matchingEntry_eq_none permits node cls,
    fun hrange hout => (matchingEntry_eq_none permits node cls).mpr fun n p hp hg => ?_⟩
  obtain ⟨hcls, hnode⟩ := hrange n p hp
  obtain ⟨rfl, hg⟩ := hg
  rcases hg with hg | ⟨-, h1, h100⟩
  · obtain ⟨h1, h100⟩ := hnode node hg
    omega
  · omega

/-! The checks one by one. -/

/-- The cause set is empty. -/
theorem CauseSet.isEmpty_iff (c : CauseSet) : c.isEmpty = true ↔ c = CauseSet.empty := by
  cases c
  simp [CauseSet.isEmpty, CauseSet.empty, and_assoc]

theorem CauseSet.isEmpty_false (c : CauseSet) : c.isEmpty = false ↔ c ≠ CauseSet.empty := by
  rw [← Bool.not_eq_true, c.isEmpty_iff]

/-- The lowest-numbered required condition that is not TRUE (05:R80). -/
theorem lowestFailing_eq_some (s : State) (required : List Nat) (c : Nat) :
    lowestFailing s.cond.states required = some c ↔ LowestFailing s required c := by
  simp only [lowestFailing, List.min?_eq_some_iff, List.mem_filter, Bool.not_eq_true', LowestFailing, and_imp, and_assoc]

theorem lowestFailing_eq_none (s : State) (required : List Nat) :
    lowestFailing s.cond.states required = none ↔ AllTrue s required := by
  simp [lowestFailing, AllTrue]

/-- The motion busy check refuses (05:R78). -/
theorem State.motionBusy_iff (s : State) (node cls : Nat) : s.motionBusy node cls = true ↔ ¬MotionPass s node cls := by
  unfold State.motionBusy MotionPass
  cases hstart : s.startOf node cls with
  | none =>
    simp only [Bool.false_eq_true, false_iff, not_not]
    exact fun t up h => absurd h ((s.startOf_eq_none node cls).mp hstart t up)
  | some x =>
    obtain ⟨t, up⟩ := x
    have hall : (∀ t' up', IsStart s node cls t' up' →
        s.span.motion ≠ .stopping ∧ s.span.motion ≠ if up' = true then .lowering else .raising)
        ↔ s.span.motion ≠ .stopping ∧ s.span.motion ≠ if up = true then .lowering else .raising := by
      constructor
      · exact fun h => h t up ((s.startOf_eq_some node cls t up).mp hstart)
      · intro h t' up' h'
        rw [← s.startOf_eq_some, hstart] at h'
        cases h'
        exact h
    rw [hall]
    simp only [Bool.or_eq_true, beq_iff_eq]
    tauto

/-- Checks 6 and 7 in the words of 05:R79 and R80. -/
theorem State.lateChecks_eq (s : State) (own : Bool) (n : Nat) (p : Permit) (arg : Int) :
    s.lateChecks own n p arg =
      if Outside p arg = true ∧ p.clamp = false then .refused .argument n arg false
      else
        match lowestFailing s.cond.states p.required with
        | none => .pass n p (Forwarded p arg) (Outside p arg)
        | some c =>
          if p.hold && !own then .hold n p (Forwarded p arg) (Outside p arg) c
          else .refused .refusedCondition c (Forwarded p arg) (Outside p arg) := by
  have hinside : (!(decide (p.argMin ≤ arg) && decide (arg ≤ p.argMax))) = Outside p arg := by
    rw [Outside, Bool.eq_iff_iff]
    simp only [Bool.not_eq_true', Bool.and_eq_false_iff, decide_eq_false_iff_not, decide_eq_true_eq, not_le]
  unfold State.lateChecks
  simp only [hinside, Bool.and_eq_true, Bool.not_eq_true']
  rfl

/-- Check 1 (05:R77). -/
theorem State.verdict_init (s : State) (own : Bool) (node cls : Nat) (arg : Int) (h : s.unit.mode = .init) :
    s.verdict own node cls arg = .refused .notReady 0 arg false := by
  simp [State.verdict, h]

/-- Check 2 (05:R77). -/
theorem State.verdict_noPermit (s : State) (own : Bool) (node cls : Nat) (arg : Int) (h : s.unit.mode ≠ .init)
    (hno : ∀ n p, look s.gate.permits n none = some p → ¬Governs p node cls) :
    s.verdict own node cls arg = .refused .noPermit 0 arg false := by
  simp [State.verdict, h, (matchingEntry_eq_none _ _ _).mpr hno]

section
variable (s : State) (own : Bool) (node cls : Nat) (arg : Int) (n : Nat) (p : Permit)

/-- The checks behind the lookup, as the model makes them. -/
theorem State.verdict_found (h : s.unit.mode ≠ .init) (hm : Matches s.gate.permits node cls n p) :
    s.verdict own node cls arg =
      if s.unit.mode = .maintenance ∧ p.maint = false then .refused .maintenance n arg false
      else if s.unit.causes.isEmpty = false ∧ p.standdown = false then .refused .standdown n arg false
      else if own = false ∧ p.owned = true ∧ s.seq.phase ≠ .roadOpen ∧ s.seq.phase ≠ .inactive then
        .refused .owned n arg false
      else if s.motionBusy node cls = true then .refused .motionBusy n arg false
      else s.lateChecks own n p arg := by
  rw [State.verdict, if_neg h, (matchingEntry_eq_some _ _ _ _ _).mpr hm]

/-- Check 3, the MAINTENANCE flag (05:R77). -/
theorem State.verdict_maintenance (hmode : s.unit.mode = .maintenance) (hm : Matches s.gate.permits node cls n p)
    (hp : p.maint = false) : s.verdict own node cls arg = .refused .maintenance n arg false := by
  rw [s.verdict_found own node cls arg n p (by simp [hmode]) hm, if_pos ⟨hmode, hp⟩]

/-- Check 3, the STANDDOWN flag (05:R77). -/
theorem State.verdict_standdown (h : s.unit.mode ≠ .init) (hm : Matches s.gate.permits node cls n p)
    (hmaint : s.unit.mode = .maintenance → p.maint = true) (hc : s.unit.causes ≠ CauseSet.empty) (hp : p.standdown = false) :
    s.verdict own node cls arg = .refused .standdown n arg false := by
  rw [s.verdict_found own node cls arg n p h hm, if_neg (by simpa using hmaint),
    if_pos ⟨(CauseSet.isEmpty_false _).mpr hc, hp⟩]

/-- The three flags pass (05:R77). -/
theorem State.verdict_flagsPass (hm : Matches s.gate.permits node cls n p) (hf : FlagsPass s p) :
    s.verdict own node cls arg =
      if own = false ∧ p.owned = true ∧ s.seq.phase ≠ .roadOpen ∧ s.seq.phase ≠ .inactive then
        .refused .owned n arg false
      else if s.motionBusy node cls = true then .refused .motionBusy n arg false
      else s.lateChecks own n p arg := by
  obtain ⟨h, hmaint, hstanddown⟩ := hf
  rw [s.verdict_found own node cls arg n p h hm, if_neg (by simpa using hmaint),
    if_neg (by simpa [CauseSet.isEmpty_false] using hstanddown)]

/-- Check 4, of a console order (05:R78). -/
theorem State.verdict_owned (hm : Matches s.gate.permits node cls n p) (hf : FlagsPass s p) (ho : ¬OwnedPass s p) :
    s.verdict false node cls arg = .refused .owned n arg false := by
  rw [s.verdict_flagsPass false node cls arg n p hm hf, if_pos (by unfold OwnedPass at ho; tauto)]

/-- Check 5 (05:R78). -/
theorem State.verdict_motionBusy (hm : Matches s.gate.permits node cls n p) (hf : FlagsPass s p)
    (ho : own = false → OwnedPass s p) (hb : ¬MotionPass s node cls) :
    s.verdict own node cls arg = .refused .motionBusy n arg false := by
  rw [s.verdict_flagsPass own node cls arg n p hm hf, if_neg (by unfold OwnedPass at ho; tauto),
    if_pos ((s.motionBusy_iff node cls).mpr hb)]

/-- The checks up to 5 pass (05:R77, R78). -/
theorem State.verdict_late (hm : Matches s.gate.permits node cls n p) (hf : FlagsPass s p)
    (ho : own = false → OwnedPass s p) (hb : MotionPass s node cls) :
    s.verdict own node cls arg = s.lateChecks own n p arg := by
  rw [s.verdict_flagsPass own node cls arg n p hm hf, if_neg (by unfold OwnedPass at ho; tauto),
    if_neg (mt (s.motionBusy_iff node cls).mp (not_not_intro hb))]

/-- Check 6 (05:R79). -/
theorem State.lateChecks_argument (ho : Outside p arg = true) (hc : p.clamp = false) :
    s.lateChecks own n p arg = .refused .argument n arg false := by
  rw [s.lateChecks_eq, if_pos ⟨ho, hc⟩]

/-- Check 7 with every required condition TRUE (05:R80). -/
theorem State.lateChecks_pass (hi : Outside p arg = true → p.clamp = true) (ht : AllTrue s p.required) :
    s.lateChecks own n p arg = .pass n p (Forwarded p arg) (Outside p arg) := by
  rw [s.lateChecks_eq, if_neg (by simpa using hi), (lowestFailing_eq_none s _).mpr ht]

/-- Check 7 with a required condition that is not TRUE (05:R80, R87). -/
theorem State.lateChecks_failing (c : Nat) (hi : Outside p arg = true → p.clamp = true) (hc : LowestFailing s p.required c) :
    s.lateChecks own n p arg =
      if p.hold && !own then .hold n p (Forwarded p arg) (Outside p arg) c
      else .refused .refusedCondition c (Forwarded p arg) (Outside p arg) := by
  rw [s.lateChecks_eq, if_neg (by simpa using hi), (lowestFailing_eq_some s _ _).mpr hc]

end

/-! Console orders (05:R80 to R84). -/

/-- An ORDER at the head of the ingress queue is judged, queued, held or refused (01:R14, 05:R77). -/
theorem exec_consoleOrderAdmission (s : State) (f : Frame) (rest : List Frame) (hs : Serves s f rest) (hk : f.kind = 1) :
    exec .consoleOrderAdmission s =
      .next ((Taken s rest).admitConsole f.tag (orderNode f) (orderClass f) (orderArg f)) := by
  obtain ⟨hpower, hingress, hrestart, hegress⟩ := hs
  show Host.Outcome.next (s.whenRunning _) = _
  rw [s.whenRunning_running _ hpower, s.serve_head _ _ f rest hingress hrestart hegress (by simp [hk, kindConsoleOrder])]
  rfl

/-- Taking a frame leaves what the checks read. -/
theorem State.verdict_taken (s : State) (rest : List Frame) (own : Bool) (node cls : Nat) (arg : Int) :
    (Taken s rest).verdict own node cls arg = s.verdict own node cls arg := rfl

theorem resultFlags_final (transmitted clamped : Bool) :
    resultFlags transmitted clamped false = bit transmitted + 2 * bit clamped := rfl

/-- A final result of a console order is its ORDER RESULT and then its ORDER OUTCOME (05:R81, R93). -/
theorem State.consoleFinal_refuses (s : State) (f : Frame) (rest : List Frame) (arg : Int) (clamped : Bool) (x : Result)
    (detail : Nat) :
    (Taken s rest).consoleFinal f.tag (orderNode f) (orderClass f) arg clamped x detail false
      = Refuses s f rest arg clamped x detail := by
  rw [State.consoleFinal, resultFlags_final, show bit false = 0 from rfl, Nat.zero_add]
  rfl

/-- An ORDER that a check refuses (05:R81). -/
theorem exec_consoleOrderAdmission_refused (s : State) (f : Frame) (rest : List Frame) (hs : Serves s f rest)
    (hk : f.kind = 1) {x : Result} {detail : Nat} {arg : Int} {clamped : Bool}
    (hv : s.verdict false (orderNode f) (orderClass f) (orderArg f) = .refused x detail arg clamped) :
    exec .consoleOrderAdmission s = .next (Refuses s f rest arg clamped x detail) := by
  rw [exec_consoleOrderAdmission s f rest hs hk, State.admitConsole, State.verdict_taken, hv]
  exact congrArg Host.Outcome.next (s.consoleFinal_refuses f rest arg clamped x detail)

/-- Settles O32: each check's own lemma gives the verdict, and a refusal is one shape. -/
theorem admissionRefusesAtTheFirstFailure : Obligations.AdmissionRefusesAtTheFirstFailure := by
  intro s f rest hs hk
  have hrefused := fun {x detail arg clamped} =>
    exec_consoleOrderAdmission_refused s f rest hs hk (x := x) (detail := detail) (arg := arg) (clamped := clamped)
  refine ⟨fun h => hrefused (s.verdict_init _ _ _ _ h), fun h hno => hrefused (s.verdict_noPermit _ _ _ _ h hno),
    fun n p h hm => ⟨fun hmode hp => ?_, fun hmaint hc hp => ?_, fun hf ho => ?_, fun hf ho hb => ?_,
      fun hf ho hb hout hclamp => ?_, ?_⟩⟩
  · exact hrefused (s.verdict_maintenance _ _ _ _ n p hmode hm hp)
  · exact hrefused (s.verdict_standdown _ _ _ _ n p h hm hmaint hc hp)
  · exact hrefused (s.verdict_owned _ _ _ n p hm hf ho)
  · exact hrefused (s.verdict_motionBusy _ _ _ _ n p hm hf (fun _ => ho) hb)
  · refine hrefused ((s.verdict_late _ _ _ _ n p hm hf (fun _ => ho) hb).trans ?_)
    exact s.lateChecks_argument _ _ n p hout hclamp
  · rintro c ⟨-, hf, ho, hb, hi⟩ hc hhold
    refine hrefused ((s.verdict_late _ _ _ _ n p hm hf (fun _ => ho) hb).trans ?_)
    rw [s.lateChecks_failing _ _ n p c hi hc, hhold]
    rfl

end Sys2Proof.Machine
end

section
/-! ### The order queue and the hold queue (05:R80, R82 to R86) -/

namespace Sys2Proof.Machine

/-- The verdict on an ORDER that reaches check 7 (05:R80). -/
theorem State.verdict_reachesCheckSeven (s : State) (f : Frame) (n : Nat) (p : Permit) (h : ReachesCheckSeven s f n p) :
    s.verdict false (orderNode f) (orderClass f) (orderArg f) = s.lateChecks false n p (orderArg f) := by
  obtain ⟨hm, hf, ho, hb, -⟩ := h
  exact s.verdict_late _ _ _ _ n p hm hf (fun _ => ho) hb

/-- A held order with the node and class of an order (05:R84). -/
theorem heldMatch_iff (node cls : Nat) (r : OrderRecord) : heldMatch node cls r = true ↔ r.node = node ∧ r.cls = cls := by
  simp [heldMatch]

/-- The final result of a console order that left its queue (05:R93). -/
theorem State.recordFinal_fromConsole (s : State) (r : OrderRecord) (tag : Byte) (x : Result) (detail : Nat)
    (h : r.origin = .console tag) : s.recordFinal r x detail = FinalResult s r tag x detail false := by
  unfold State.recordFinal
  rw [h]
  rfl

/-- With no held order of the node and class nothing is superseded (05:R84). -/
theorem State.supersede_none (s : State) (node cls : Nat) (h : ∀ r ∈ s.gate.held, ¬(r.node = node ∧ r.cls = cls)) :
    s.supersede node cls = s := by
  have hnone : s.gate.held.find? (heldMatch node cls) = none := by
    simpa [List.find?_eq_none, heldMatch_iff] using h
  rw [State.supersede, hnone]

/-- The held order of the node and class leaves the hold queue, ends SUPERSEDED, and the occupancy is reported (05:R84). -/
theorem State.supersede_found (s : State) (node cls : Nat) (pre post : List OrderRecord) (old : OrderRecord) (tag : Byte)
    (hheld : s.gate.held = pre ++ old :: post) (hnode : old.node = node) (hcls : old.cls = cls)
    (htag : old.origin = .console tag) (hpre : ∀ r ∈ pre, ¬(r.node = node ∧ r.cls = cls)) :
    s.supersede node cls =
      (FinalResult (s.setGate { s.gate with held := pre ++ post }) old tag .superseded 0 false).reportOccupancy := by
  have hold : heldMatch node cls old = true := (heldMatch_iff node cls old).mpr ⟨hnode, hcls⟩
  have hno : ∀ r ∈ pre, ¬heldMatch node cls r = true := fun r hr => mt (heldMatch_iff node cls r).mp (hpre r hr)
  have hfind : s.gate.held.find? (heldMatch node cls) = some old := by
    rw [hheld, List.find?_append, List.find?_eq_none.mpr hno, List.find?_cons_of_pos hold]
    rfl
  have herase : s.gate.held.eraseP (heldMatch node cls) = pre ++ post := by
    rw [hheld, List.eraseP_append_right _ hno, List.eraseP_cons_of_pos hold]
  rw [State.supersede, hfind, herase]
  exact congrArg State.reportOccupancy (State.recordFinal_fromConsole _ old tag _ _ htag)

/-- An order that finds no room in the hold queue is refused QUEUE FULL (05:R83). -/
theorem State.joinHeld_full (s : State) (tag : Byte) (r : OrderRecord) (limit failing : Nat) (h : 8 ≤ s.gate.held.length) :
    s.joinHeld tag r limit failing = s.consoleFinal tag r.node r.cls r.arg r.clamped .queueFull 0 false :=
  if_neg (Nat.not_lt.mpr h)

/-- An order joins the hold queue with its deadline and its HELD result (05:R83). -/
theorem State.joinHeld_room (s : State) (tag : Byte) (r : OrderRecord) (limit failing : Nat) (h : s.gate.held.length < 8) :
    s.joinHeld tag r limit failing =
      ((s.setGate
        { s.gate with
          held := s.gate.held ++ [{ r with deadline := some (s.now + BitVec.ofNat 32 (limit * 1000)) }] }).orderResult tag
            r.node r.cls r.arg 128 failing (2 * bit r.clamped + 4)).reportOccupancy := by
  rw [State.joinHeld, if_pos (show _ < Config.holdCapacity from h),
    show resultFlags false r.clamped true = 2 * bit r.clamped + 4 by simp [resultFlags, bit]]
  rfl

/-- Settles O33: the verdict of check 7, then the room in the queue it asks for. -/
theorem admissionQueuesOrHolds : Obligations.AdmissionQueuesOrHolds := by
  intro s f rest n p hs hk hseven
  have hverdict := s.verdict_reachesCheckSeven f n p hseven
  obtain ⟨-, -, -, -, hi⟩ := hseven
  have hexec := exec_consoleOrderAdmission s f rest hs hk
  have hpass : AllTrue s p.required →
      exec .consoleOrderAdmission s = .next ((Taken s rest).joinOrders f.tag (Admitted f n p)) := by
    intro ht
    rw [hexec, State.admitConsole, State.verdict_taken, hverdict, s.lateChecks_pass _ _ _ _ hi ht]
    rfl
  refine ⟨fun ht hroom => (hpass ht).trans ?_, fun ht hfull => (hpass ht).trans ?_, fun c hc hhold => ?_⟩
  · exact congrArg Host.Outcome.next (if_pos hroom)
  · rw [State.joinOrders, if_neg (show ¬(Taken s rest).gate.orders.length < Config.orderCapacity from Nat.not_lt.mpr hfull)]
    exact congrArg Host.Outcome.next (s.consoleFinal_refuses f rest _ _ _ _)
  · have hheld : exec .consoleOrderAdmission s = .next
        (((Taken s rest).supersede (orderNode f) (orderClass f)).joinHeld f.tag (Admitted f n p) p.holdLimit c) := by
      rw [hexec, State.admitConsole, State.verdict_taken, hverdict, s.lateChecks_failing _ _ _ _ c hi hc, hhold]
      rfl
    refine ⟨fun hno hroom => hheld.trans ?_, fun hno hfull => hheld.trans ?_,
      fun pre old post tag hsplit hnode hcls htag hpre hlen => hheld.trans ?_⟩
    · rw [(Taken s rest).supersede_none _ _ hno, (Taken s rest).joinHeld_room _ _ _ _ hroom]
      rfl
    · rw [(Taken s rest).supersede_none _ _ hno, (Taken s rest).joinHeld_full _ _ _ _ hfull]
      exact congrArg Host.Outcome.next (s.consoleFinal_refuses f rest _ _ _ _)
    · have hsuper := (Taken s rest).supersede_found _ _ pre post old tag hsplit hnode hcls htag hpre
      have hroom : ((Taken s rest).supersede (orderNode f) (orderClass f)).gate.held.length < 8 := by
        rw [hsplit] at hlen
        rw [hsuper]
        simp [FinalResult] at hlen ⊢
        omega
      have hnow : ((Taken s rest).supersede (orderNode f) (orderClass f)).now = s.now := by simp [Taken]
      rw [State.joinHeld_room _ _ _ _ _ hroom, hnow, hsuper]
      rfl

/-! Release and expiry (05:R85, R86). -/

/-- Every required condition of a record is TRUE (05:R85). -/
theorem OrderRecord.ready_eq (s : State) (r : OrderRecord) :
    r.ready s.cond.states = r.required.all (standsTrue s.cond.states) := by
  rw [OrderRecord.ready, Bool.eq_iff_iff, Option.isNone_iff_eq_none, lowestFailing_eq_none, List.all_eq_true]
  rfl

section
variable (states : Vector CondState 64) (r : OrderRecord) (rs : List OrderRecord)

/-- An order that is not ready stays held. -/
theorem releaseScan_waits (room : Nat) (h : r.ready states = false) :
    releaseScan states room (r :: rs) = ((releaseScan states room rs).1, r :: (releaseScan states room rs).2) := by
  cases room <;> simp [releaseScan, h]

/-- A ready order that finds room is released. -/
theorem releaseScan_ready (room : Nat) (h : r.ready states = true) :
    releaseScan states (room + 1) (r :: rs)
      = ({ r with deadline := none } :: (releaseScan states room rs).1, (releaseScan states room rs).2) := by
  simp [releaseScan, h]

/-- A ready order that finds no room ends the examination. -/
theorem releaseScan_full (h : r.ready states = true) : releaseScan states 0 (r :: rs) = ([], r :: rs) := by
  simp [releaseScan, h]

end

/-- The orders that a release takes: the oldest ready ones, as many as find room (05:R85). -/
theorem releaseScan_released (states : Vector CondState 64) (rs : List OrderRecord) (room : Nat) :
    (releaseScan states room rs).1
      = ((rs.filter (·.ready states)).take room).map fun r => { r with deadline := none } := by
  induction rs generalizing room with
  | nil => simp [releaseScan]
  | cons r rs ih =>
    cases hr : r.ready states with
    | false => simp [releaseScan_waits states r rs room hr, hr, ih]
    | true =>
      cases room with
      | zero => simp [releaseScan_full states r rs hr]
      | succ room => simp [releaseScan_ready states r rs room hr, hr, ih]

/-- With room for every ready order, the others stay held (05:R85). -/
theorem releaseScan_held (states : Vector CondState 64) (rs : List OrderRecord) (room : Nat)
    (h : (rs.filter (·.ready states)).length ≤ room) :
    (releaseScan states room rs).2 = rs.filter fun r => !r.ready states := by
  induction rs generalizing room with
  | nil => simp [releaseScan]
  | cons r rs ih =>
    cases hr : r.ready states with
    | false => simp [releaseScan_waits states r rs room hr, hr, ih room (by simpa [hr] using h)]
    | true =>
      cases room with
      | zero => simp [hr] at h
      | succ room => simp [releaseScan_ready states r rs room hr, hr, ih room (by simpa [hr] using h)]

/-- The examination ends at the first ready order that finds no room (05:R85). -/
theorem releaseScan_stops (states : Vector CondState 64) (pre : List OrderRecord) (r : OrderRecord) (post : List OrderRecord)
    (hr : r.ready states = true) :
    (releaseScan states (pre.filter (·.ready states)).length (pre ++ r :: post)).2
      = (pre.filter fun r => !r.ready states) ++ r :: post := by
  induction pre with
  | nil => simp [releaseScan_full states r post hr]
  | cons x xs ih =>
    cases hx : x.ready states with
    | false => simp [releaseScan_waits states x _ _ hx, hx, ih]
    | true => simp [releaseScan_ready states x _ _ hx, hx, ih]

end Sys2Proof.Machine
end

section
/-! ### Results, reports and counters: what the end of an order touches (05:R90, R91, R93) -/

namespace Sys2Proof.Machine

/-- A report offered to the egress queue (01:R15, R16). -/
theorem Reports.of_offer (c : Console) (k : Byte) (payload : List Byte)
    (hk : k = kindConditionReport ∨ k = kindPhaseReport ∨ k = kindAlert) : Reports c (c.offer k payload) := by
  unfold Console.offer
  split
  · exact ⟨[_], by simpa using hk, rfl⟩
  · exact ⟨[], by simp, by simp⟩

theorem Reports.alert (c : Console) (a : Alert) : Reports c (c.alert a) := Reports.of_offer c _ _ (.inr (.inr rfl))

theorem Reports.alerts (as : List Alert) (c : Console) : Reports c (as.foldl Console.alert c) := by
  induction as generalizing c with
  | nil => exact Reports.refl c
  | cons a as ih => exact (Reports.alert c a).trans (ih _)

theorem State.takeDuty_reports (s : State) (o : DutyOut) : Reports s.console (s.takeDuty o).console :=
  Reports.alerts o.alerts s.console

theorem State.occur_reports (s : State) (e : DutyEvent) : Reports s.console (s.occur e).console := s.takeDuty_reports _

/-- From s to t nothing has moved but the progress of entry orders, the duty counters with the occupancy they follow, the
counter changes raised, and the egress queue, whose new ORDER RESULTs are these. -/
structure Issues (s t : State) (results : List Frame) : Prop where
  frame : t = (((s.setSeq t.seq).setDuty t.duty).setConsole t.console).setCond t.cond
  seq : t.seq = { s.seq with tracking := t.seq.tracking }
  duty : t.duty = { s.duty with counters := t.duty.counters, frozen := t.duty.frozen, occupancy := t.duty.occupancy }
  cond : t.cond = { s.cond with counterChanges := t.cond.counterChanges }
  console : ∃ added, t.console =
      { s.console with
        egress := s.console.egress ++ added, reportsLost := t.console.reportsLost, reportSeq := t.console.reportSeq }
    ∧ (added.filter fun f => f.kind == kindOrderResult) = results

theorem Issues.refl (s : State) : Issues s s [] := ⟨rfl, rfl, rfl, rfl, [], by simp, rfl⟩

theorem Issues.trans {s t u : State} {a b : List Frame} (h : Issues s t a) (g : Issues t u b) : Issues s u (a ++ b) := by
  obtain ⟨hframe, hseq, hduty, hcond, hadded, hconsole, hresults⟩ := h
  obtain ⟨gframe, gseq, gduty, gcond, gadded, gconsole, gresults⟩ := g
  refine ⟨?_, ?_, ?_, ?_, hadded ++ gadded, ?_, by rw [List.filter_append, hresults, gresults]⟩
  · rw [gframe, hframe]
    rfl
  · rw [gseq, hseq]
  · rw [gduty, hduty]
  · rw [gcond, hcond]
  · rw [gconsole, hconsole]
    simp

/-- The ORDER RESULTs that have joined the egress queue. -/
theorem Issues.newResults {s t : State} {results : List Frame} (h : Issues s t results) : NewResults s t = results := by
  obtain ⟨added, hconsole, hresults⟩ := h.console
  rw [NewResults, hconsole]
  simpa using hresults

/-- The Console Port keeps all but the egress queue and what reports count. -/
theorem Issues.console_eq {s t : State} {results : List Frame} (h : Issues s t results) : t.console =
    { s.console with
      egress := t.console.egress, reportsLost := t.console.reportsLost, reportSeq := t.console.reportSeq } := by
  obtain ⟨added, hconsole, -⟩ := h.console
  rw [hconsole]

/-- Reports are no results. -/
theorem Reports.noResults {c d : Console} (h : Reports c d) :
    ∃ added, d = { c with egress := c.egress ++ added, reportsLost := d.reportsLost, reportSeq := d.reportSeq }
      ∧ (added.filter fun f => f.kind == kindOrderResult) = [] := by
  obtain ⟨added, hkinds, hd⟩ := h
  refine ⟨added, hd, ?_⟩
  rw [List.filter_eq_nil_iff]
  intro f hf
  rcases hkinds f hf with h | h | h <;> rw [h] <;> decide

/-- An occurrence reported to the Duty Counter Unit issues no result. -/
theorem Issues.occur (s : State) (e : DutyEvent) : Issues s (s.occur e) [] := by
  obtain ⟨-, hduty, -⟩ := s.occur_spec e
  exact ⟨rfl, rfl, by rw [hduty], rfl, (s.occur_reports e).noResults⟩

@[simp] theorem State.occur_occupancy (s : State) (e : DutyEvent) : (s.occur e).duty.occupancy = s.duty.occupancy := by
  obtain ⟨-, hduty, -⟩ := s.occur_spec e
  rw [hduty]

/-- The report of the occupancy issues no result. -/
theorem Issues.reportOccupancy (s : State) : Issues s s.reportOccupancy [] := by
  unfold State.reportOccupancy
  dsimp only
  split
  · exact Issues.refl s
  · obtain ⟨hduty, -⟩ := s.takeDuty_follow { s.duty with occupancy := s.gate.orders.length + s.gate.held.length }
      .queueOccupancy ⟨rfl, rfl⟩
    have hkeeps : ∀ (d : Duty) (n : Nat), d = { s.duty with counters := d.counters, frozen := d.frozen, occupancy := n } →
        d = { s.duty with counters := d.counters, frozen := d.frozen, occupancy := d.occupancy } := by
      intro d n h
      rw [h]
    exact ⟨rfl, rfl, hkeeps _ _ hduty, rfl, (s.takeDuty_reports _).noResults⟩

/-- The occupancy that the Duty Counter Unit follows after a report (05:R93). -/
theorem State.reportOccupancy_occupancy (s : State) :
    s.reportOccupancy.duty.occupancy = s.gate.orders.length + s.gate.held.length := by
  unfold State.reportOccupancy
  dsimp only
  split
  · rename_i h
    exact h.symm
  · obtain ⟨hduty, -⟩ := s.takeDuty_follow { s.duty with occupancy := s.gate.orders.length + s.gate.held.length }
      .queueOccupancy ⟨rfl, rfl⟩
    exact congrArg Duty.occupancy hduty

/-- An ORDER RESULT is one result. -/
theorem Issues.orderResult (s : State) (r : OrderRecord) (tag : Byte) (code detail flags : Nat) :
    Issues s (s.orderResult tag r.node r.cls r.arg code detail flags) [resultFrame tag r code detail flags] :=
  ⟨rfl, rfl, rfl, rfl, [resultFrame tag r code detail flags], rfl, rfl⟩

/-- The final result of a console order, which was not transmitted (05:R93). -/
theorem Issues.finalResult (s : State) (r : OrderRecord) (tag : Byte) (x : Result) (detail : Nat) :
    Issues s (FinalResult s r tag x detail false) [resultFrame tag r x.code detail (2 * bit r.clamped)] := by
  have h := (Issues.orderResult s r tag x.code detail (2 * bit r.clamped)).trans (Issues.occur _ (.orderOutcome r.node x))
  rw [FinalResult, show bit false = 0 from rfl, Nat.zero_add]
  exact h

/-- The held orders whose deadline has been reached end EXPIRED one after the other (05:R86). -/
theorem issues_expired (out : List OrderRecord) (hconsole : ∀ r ∈ out, FromConsole r) (s : State) :
    let t := out.foldl (fun s r => s.recordFinal r .expired (expiryDetail s.cond.states r)) s
    Issues s t (out.map fun r => resultFrame (consoleTag r) r 14 (expiryDetail s.cond.states r) (2 * bit r.clamped))
      ∧ t.duty.occupancy = s.duty.occupancy ∧ t.gate = s.gate ∧ t.seq = s.seq := by
  induction out generalizing s with
  | nil => exact ⟨Issues.refl s, rfl, rfl, rfl⟩
  | cons r rs ih =>
    obtain ⟨⟨tag, htag⟩, hconsole⟩ := List.forall_mem_cons.mp hconsole
    have hone : s.recordFinal r .expired (expiryDetail s.cond.states r)
        = FinalResult s r tag .expired (expiryDetail s.cond.states r) false := s.recordFinal_fromConsole r tag _ _ htag
    obtain ⟨hissues, hoccupancy, hgate, hseq⟩ := ih hconsole (s.recordFinal r .expired (expiryDetail s.cond.states r))
    have hstates : (s.recordFinal r .expired (expiryDetail s.cond.states r)).cond.states = s.cond.states := by simp
    rw [hstates] at hissues
    refine ⟨?_, hoccupancy.trans (by rw [hone]; simp [FinalResult]), hgate.trans (by simp), hseq.trans (by simp)⟩
    have hfirst := Issues.finalResult s r tag .expired (expiryDetail s.cond.states r)
    rw [← hone] at hfirst
    have htagged : consoleTag r = tag := by rw [consoleTag, htag]
    rw [List.map_cons, htagged]
    exact hfirst.trans hissues

/-- Settles O34: the examination by the room it finds, the expiry by the list of the orders due. -/
theorem heldOrdersAreReleasedOrExpire : Obligations.HeldOrdersAreReleasedOrExpire := by
  refine ⟨fun s k hpower hsets _ => ?_, fun s hpower hconsole => ?_⟩
  · simp only [← OrderRecord.ready_eq s]
    refine ⟨(releaseScan s.cond.states (8 - s.gate.orders.length) s.gate.held).2, ?_,
      releaseScan_held s.cond.states s.gate.held _, fun pre r post hheld hr hroom => ?_⟩
    · rw [← releaseScan_released]
      show Host.Outcome.next (s.whenRunning _) = _
      rw [s.whenRunning_running _ hpower, hsets]
      rfl
    · rw [hheld, ← hroom]
      exact releaseScan_stops s.cond.states pre r post hr
  · intro expired
    let u := s.setGate { s.gate with held := s.gate.held.filter fun r => !expired r }
    let v := (s.gate.held.filter expired).foldl (fun s r => s.recordFinal r .expired (expiryDetail s.cond.states r)) u
    obtain ⟨hissues, hoccupancy, hgate, hseq⟩ := issues_expired (s.gate.held.filter expired)
      (fun r hr => hconsole r (List.mem_of_mem_filter hr)) u
    have hall := hissues.trans (Issues.reportOccupancy v)
    rw [List.append_nil] at hall
    have hexec : exec .holdDeadlineExpiry s = .next v.reportOccupancy := by
      show Host.Outcome.next (s.whenRunning _) = _
      rw [s.whenRunning_running _ hpower]
      rfl
    have hcount : v.reportOccupancy.duty.occupancy
        = s.gate.orders.length + (s.gate.held.filter fun r => !expired r).length := by
      rw [v.reportOccupancy_occupancy, hgate]
      rfl
    have hsame : v.reportOccupancy.seq = s.seq := by
      rw [v.reportOccupancy_frame.2.2.2.2.2.2.2.1, hseq]
      rfl
    refine ⟨v.reportOccupancy, hexec, ?_, ?_, hall.cond, hall.console_eq, expiryDetail s.cond.states,
      hall.newResults, fun r => ⟨fun c hc => ?_, fun ht => ?_⟩⟩
    · refine hall.frame.trans ?_
      rw [hsame]
      rfl
    · rw [← hcount]
      exact hall.duty
    · rw [expiryDetail, (lowestFailing_eq_some s _ _).mpr hc, Option.getD_some]
    · rw [expiryDetail, (lowestFailing_eq_none s _).mpr ht, Option.getD_none]

end Sys2Proof.Machine
end

section
/-! ### A point written, and a stand-down entry (03:R53, 10:R176, R177) -/

namespace Sys2Proof.Machine

/-- From s to t nothing has moved but the points, the condition states, the condition change sets handed out and the reports
(03:R53, 04:R66 to R69). -/
structure Drifts (s t : State) : Prop where
  frame : t = ((((((s.setPoints t.points).setCond t.cond).setConsole t.console).setGate t.gate).setSeq t.seq).setChan
    t.chan).setDuty t.duty
  console : Reports s.console t.console
  cond : t.cond = { s.cond with states := t.cond.states }
  gate : t.gate = { s.gate with sets := t.gate.sets }
  seq : t.seq = { s.seq with sets := t.seq.sets }
  chan : t.chan = { s.chan with sets := t.chan.sets }
  duty : t.duty = { s.duty with sets := t.duty.sets }

/-- What a point written leaves: its walk, or the gather it joins, moves nothing else (03:R53). -/
theorem PointWritten.drifts {s t : State} {n : Nat} {v : Int} (h : PointWritten s t n v) :
    Drifts s t ∧ t.points = WithValue s n v := by
  by_cases hg : s.points.gather = none
  · obtain ⟨hreports, hframe⟩ := (h.walks hg).1
    have hpoints := congrArg State.points hframe
    refine ⟨⟨?_, hreports, ?_, ?_, ?_, ?_, ?_⟩, hpoints⟩
    · rw [hpoints]
      refine hframe.trans ?_
      rw [hframe]
      rfl
    · exact congrArg State.cond hframe
    · exact congrArg State.gate hframe
    · exact congrArg State.seq hframe
    · exact congrArg State.chan hframe
    · exact congrArg State.duty hframe
  · rw [h.joins hg]
    generalize WithValue s n v = points
    exact ⟨⟨rfl, Reports.refl _, rfl, rfl, rfl, rfl, rfl⟩, rfl⟩

/-- The blocks that a point written leaves as they are. -/
theorem Drifts.blocks {s t : State} (h : Drifts s t) :
    t.power = s.power ∧ t.now = s.now ∧ t.pending = s.pending ∧ t.field = s.field ∧ t.span = s.span ∧ t.unit = s.unit := by
  rw [h.frame]
  exact ⟨rfl, rfl, rfl, rfl, rfl, rfl⟩

/-- What the points read with a value written. -/
theorem point_withValue {s t : State} {n : Nat} {v : Int} (h : t.points = WithValue s n v) (hn : n < 128) (m : Nat) :
    t.point m = if m = n then { s.point n with value := v } else s.point m := by
  unfold State.point
  rw [h]
  show look (put s.points.points n _) m Point.first = _
  rw [look_put]
  by_cases hm : m = n
  · simp [hm, hn, State.point]
  · simp [hm, Ne.symm hm]

/-- The alert of a stand-down entry (11, section 11.6). -/
theorem Console.alert_standdown (c : Console) (x : Cause) :
    c.alert (.standdown x) = c.offer 21 [1, 0, BitVec.ofNat 8 x.code] := by
  cases x <;> rfl

/-- In a walk over a table without entries no report is offered (04:R69). -/
theorem PointWritten.console_of_noEntry {s t : State} {n : Nat} {v : Int} (h : PointWritten s t n v)
    (hno : ∀ n, look s.cond.table n none = none) : t.console = s.console := by
  by_cases hg : s.points.gather = none
  · obtain ⟨-, set, -, hands, -⟩ := h.walks hg
    have hreports := hands.reports
    have hnone : ∀ x : Nat × Bool,
        ((look (s.setPoints (WithValue s n v)).cond.table x.1 none).map CondEntry.report).getD false = false := by
      intro x
      rw [show look (s.setPoints (WithValue s n v)).cond.table x.1 none = none from hno x.1]
      rfl
    rw [List.filter_eq_nil_iff.mpr fun x _ => by rw [hnone x]; decide] at hreports
    exact hreports
  · rw [h.joins hg]
    rfl

/-- What stands where the course of a stand-down entry has gone through its two points (10:R177). -/
theorem standsDown_of_course (s a b : State) (c : Cause)
    (ha : PointWritten (s.setUnit { s.unit with causes := CauseSet.empty.join c, firstCause := some c, chain := false }) a 124 1)
    (hb : PointWritten (((a.setField { a.field with allStop := true }).setConsole
      (a.console.offer 21 [1, 0, BitVec.ofNat 8 c.code])).setSpan (StoodDown s.span)) b 119 4) :
    StandsDown s (((b.setGate { b.gate with standdowns := b.gate.standdowns + 1 }).setSeq
      { b.seq with standdowns := b.seq.standdowns + 1 }).setChan { b.chan with standdowns := b.chan.standdowns + 1 }) c := by
  obtain ⟨hda, hap⟩ := ha.drifts
  obtain ⟨hdb, hbp⟩ := hb.drifts
  obtain ⟨hapower, hanow, hapending, hafield, -, haunit⟩ := hda.blocks
  obtain ⟨hbpower, hbnow, hbpending, hbfield, hbspan, hbunit⟩ := hdb.blocks
  have hgate : b.gate = { a.gate with sets := b.gate.sets } := hdb.gate
  have hseq : b.seq = { a.seq with sets := b.seq.sets } := hdb.seq
  have hchan : b.chan = { a.chan with sets := b.chan.sets } := hdb.chan
  have hduty : b.duty = { a.duty with sets := b.duty.sets } := hdb.duty
  have hcond : b.cond = { a.cond with states := b.cond.states } := hdb.cond
  rw [hda.gate] at hgate
  rw [hda.seq] at hseq
  rw [hda.chan] at hchan
  rw [hda.duty] at hduty
  rw [hda.cond] at hcond
  have hpoint : ∀ m, b.point m = if m = 119 then { a.point 119 with value := 4 } else a.point m :=
    point_withValue hbp (by decide)
  have hpointA : ∀ m, a.point m = if m = 124 then { s.point 124 with value := 1 } else s.point m :=
    point_withValue hap (by decide)
  refine ⟨⟨a, b, ha, hb, rfl⟩, ⟨hbpower.trans hapower, hbnow.trans hanow, hbpending.trans hapending⟩, hbunit.trans haunit, ?_,
    hbspan, ⟨?_, ?_, fun n h1 h2 => ?_⟩, ?_, ?_, ?_, hduty, hcond,
    (hda.console.trans (Reports.of_offer _ _ _ (.inr (.inr rfl)))).trans hdb.console, ⟨a.console, hda.console, hdb.console⟩,
    fun hno => (hb.console_of_noEntry fun n => ?_).trans ?_⟩
  · rw [State.setChan_field, State.setSeq_field, State.setGate_field, hbfield]
    simp [hafield]
  · show (b.point 124).value = 1
    simp [hpoint, hpointA]
  · show (b.point 119).value = 4
    simp [hpoint]
  · show b.point n = s.point n
    simp [hpoint, hpointA, h1, h2]
  · show ({ b.gate with standdowns := b.gate.standdowns + 1 } : Gate) = _
    rw [hgate]
    rfl
  · show ({ b.seq with standdowns := b.seq.standdowns + 1 } : Sequencer) = _
    rw [hseq]
    rfl
  · show ({ b.chan with standdowns := b.chan.standdowns + 1 } : Channel) = _
    rw [hchan]
    rfl
  · show look a.cond.table n none = none
    rw [hda.cond]
    exact hno n
  · simp [ha.console_of_noEntry hno]

/-- A stand-down entry as the model makes it, in the terms of its course (10:R177). -/
theorem State.standDownEntry_standsDown (s : State) (c : Cause) :
    StandsDown s ((s.setUnit { s.unit with causes := CauseSet.empty.join c, chain := false }).standDownEntry c) c := by
  let u := s.setUnit { s.unit with causes := CauseSet.empty.join c, firstCause := some c, chain := false }
  have ha : PointWritten u (u.writePoint 124 1) 124 1 := u.writePoint_written 124 1
  have hspan : (u.writePoint 124 1).span = s.span := ha.drifts.1.blocks.2.2.2.2.1
  have hcourse := standsDown_of_course s _ _ c ha (State.writePoint_written _ 119 4)
  rw [← hspan, ← Console.alert_standdown] at hcourse
  exact hcourse

/-- A cause latched a second time changes nothing (10:R176). -/
theorem CauseSet.join_of_has (x : CauseSet) (c : Cause) (h : x.has c = true) : x.join c = x := by
  cases x
  cases c <;> simp_all [CauseSet.has, CauseSet.join]

theorem CauseSet.has_empty (c : Cause) : CauseSet.empty.has c = false := by cases c <;> rfl

theorem CauseSet.join_isEmpty (x : CauseSet) (c : Cause) : (x.join c).isEmpty = false := by
  cases c <;> simp [CauseSet.join, CauseSet.isEmpty]

/-- A cause that is latched makes the stand-down entry, or joins the set (10:R176, R177). -/
theorem State.latchCause_latches (s : State) (c : Cause) : Latches s (s.latchCause c) c := by
  have hjoined : s.setUnit ({ s.unit with causes := s.unit.causes.join c } : ModeChain).settleChain
      = s.setUnit { s.unit with causes := s.unit.causes.join c, chain := false } := by
    simp [ModeChain.settleChain, CauseSet.join_isEmpty]
  constructor
  · intro hempty
    have hlatch : s.latchCause c
        = (s.setUnit { s.unit with causes := CauseSet.empty.join c, chain := false }).standDownEntry c := by
      rw [State.latchCause, if_neg (by rw [hempty, CauseSet.has_empty]; decide), hjoined, hempty]
      rfl
    rw [hlatch]
    exact s.standDownEntry_standsDown c
  · intro hne
    unfold LatchedBeside State.latchCause
    cases hhas : s.unit.causes.has c with
    | true =>
      simp only [if_true, CauseSet.join_of_has _ c hhas]
      rfl
    | false =>
      simp only [(CauseSet.isEmpty_false _).mpr hne, Bool.false_eq_true, if_false]
      exact hjoined

/-! ### Own orders and REDs (05:R87, R88; 08:R143, R153) -/

/-- An own order that passes every check joins the own-order queue (05:R88). -/
theorem State.offerOwn_admitted (s : State) (origin : Origin) (node cls : Nat) (arg : Int) (n : Nat) (p : Permit)
    (h : OwnAdmitted s node cls arg n p) :
    s.offerOwn origin node cls arg
      = (s.setGate { s.gate with own := s.gate.own ++ [OwnRecord origin node cls arg n p] }, none) := by
  obtain ⟨hm, hf, hb, hi, ht, hroom⟩ := h
  rw [State.offerOwn, s.verdict_late true node cls arg n p hm hf (by simp) hb, s.lateChecks_pass _ _ _ _ hi ht]
  exact if_pos hroom

/-- An own order that a check refuses is reported and handed back (05:R87). -/
theorem State.offerOwn_refused (s : State) (origin : Origin) (node cls : Nat) (arg : Int) (x : Result)
    (h : OwnRefused s node cls arg x) :
    s.offerOwn origin node cls arg = (s.occur (.orderOutcome node x), some x) := by
  unfold State.offerOwn
  rcases h with ⟨hm, rfl⟩ | ⟨hm, hno, rfl⟩ | ⟨n, p, hmode, hm, h⟩
  · rw [s.verdict_init _ _ _ _ hm]
    rfl
  · rw [s.verdict_noPermit _ _ _ _ hm hno]
    rfl
  · have hlate : FlagsPass s p → MotionPass s node cls → s.verdict true node cls arg = s.lateChecks true n p arg :=
      fun hf hb => s.verdict_late true node cls arg n p hm hf (by simp) hb
    rcases h with ⟨hmaint, hp, rfl⟩ | ⟨hmaint, hc, hp, rfl⟩ | ⟨hf, hb, rfl⟩ | ⟨hf, hb, hi, rfl⟩ | ⟨hf, hb, hi, ht, rfl⟩
      | ⟨hf, hb, hi, ht, hfull, rfl⟩
    · rw [s.verdict_maintenance _ _ _ _ n p hmaint hm hp]
      rfl
    · rw [s.verdict_standdown _ _ _ _ n p hmode hm hmaint hc hp]
      rfl
    · rw [s.verdict_motionBusy _ _ _ _ n p hm hf (by simp) hb]
      rfl
    · obtain ⟨hout, hclamp⟩ := Classical.not_imp.mp hi
      rw [hlate hf hb, s.lateChecks_argument _ _ n p hout (by simpa using hclamp)]
      rfl
    · have hfails : lowestFailing s.cond.states p.required ≠ none := mt (lowestFailing_eq_none s _).mp ht
      obtain ⟨c, hc⟩ := Option.ne_none_iff_exists'.mp hfails
      rw [hlate hf hb, s.lateChecks_failing _ _ n p c hi ((lowestFailing_eq_some s _ _).mp hc), Bool.not_true, Bool.and_false]
      rfl
    · rw [hlate hf hb, s.lateChecks_pass _ _ n p hi ht]
      exact if_neg (Nat.not_lt.mpr hfull)

/-- An own RED that failed is the cause CHANNEL SIGNAL (08:R153). -/
theorem State.redFailed_latches (s : State) (d : Direction) :
    Latches (s.setChan (s.chan.setSignal d { s.chan.signal d with redWanted := false })) (s.redFailed d) .channelSignal :=
  State.latchCause_latches _ _

/-- A RED is offered (08:R143, R153). -/
theorem State.offerRed_offered (s : State) (d : Direction) : RedOffered s (s.offerRed d) d := by
  rw [State.offerRed_eq, State.offerSignal_eq]
  refine ⟨fun hr => ?_, fun r n p hr h => ?_, fun r x hr h => ?_⟩
  · rw [hr]
    rfl
  · rw [hr]
    simp only [SignalKind.arg, s.offerOwn_admitted (.channel d .red) _ _ _ n p h]
    rfl
  · rw [hr]
    simp only [SignalKind.arg, s.offerOwn_refused (.channel d .red) _ _ _ x h]
    exact State.redFailed_latches _ d

/-- A RED is offered unless one is outstanding (08:R152, R154). -/
theorem State.offerRedOnce_offered (s : State) (d : Direction) : RedOfferedOnce s (s.offerRedOnce d) d := by
  have hown : (s.chan.signal d).hasOwn .red = true ↔ SignalKind.red ∈ (s.chan.signal d).outstanding := by
    simp [Signal.hasOwn]
  unfold State.offerRedOnce
  exact ⟨fun h => if_pos (hown.mpr h), fun h => by rw [if_neg (mt hown.mp h)]; exact s.offerRed_offered d⟩

end Sys2Proof.Machine
end

section
/-! ### The cancellation at a stand-down entry (05:R91) -/

namespace Sys2Proof.Machine

/-- The working phases are those numbered 0 to 11 (07, section 7.1). -/
theorem Phase.working_iff (p : Phase) : p.working = true ↔ Working p := by
  cases p <;> simp [Phase.working, Phase.num, Working]

/-- A result is that of the present entry (07:R127). -/
theorem State.currentResult_iff (s : State) (serial : BitVec 16) :
    s.currentResult serial = true ↔ serial = s.seq.serial ∧ Working s.seq.phase := by
  simp [State.currentResult, Phase.working_iff]

/-- A cancelled RED leaves the outstanding orders, and is offered again while RED is wanted (08:R153). -/
theorem State.redResult_cancelled (s : State) (d : Direction) :
    s.redResult d .cancelled =
      if (s.chan.signal d).redWanted = true then (s.setChan (s.chan.dropOwn d .red)).offerRed d
      else s.setChan (s.chan.dropOwn d .red) := by
  cases d <;> rfl

theorem State.redResult_cancelled_state (s : State) (d : Direction) :
    (s.redResult d .cancelled).chan.state = s.chan.state := by
  rw [s.redResult_cancelled]
  split <;> simp [Channel.dropOwn]

/-- The final result of an order that is the memory of no signal: it reaches its originator, and is reported (05:R90, R93). -/
theorem State.finalResult_cancelled (s : State) (r : OrderRecord) (h : r.memory = none) :
    s.finalResult r .cancelled 0 false = (s.toOriginator r .cancelled 0 false).occur (.orderOutcome r.node .cancelled) := by
  simp [State.finalResult, State.settleMemory, h]

/-- A queued order ends CANCELLED (05:R91). -/
theorem State.toOriginator_cancelled (s : State) (r : OrderRecord) :
    Cancelled s (s.toOriginator r .cancelled 0 false) r := by
  refine ⟨fun tag h => ?_, fun serial place h => ⟨fun hs hw => ?_, fun hno => ?_⟩, fun d k h => ?_⟩
  · unfold State.toOriginator
    rw [h, resultFlags_final, show bit false = 0 from rfl, Nat.zero_add]
    rfl
  · unfold State.toOriginator State.entryResult
    rw [h]
    exact if_pos ((s.currentResult_iff serial).mpr ⟨hs, hw⟩)
  · unfold State.toOriginator State.entryResult
    rw [h]
    refine if_neg fun hc => ?_
    obtain ⟨hs, hw⟩ := (s.currentResult_iff serial).mp hc
    tauto
  · cases k with
    | green =>
      have hstep : s.toOriginator r .cancelled 0 false = s.setChan (s.chan.dropOwn d .green) := by
        unfold State.toOriginator
        rw [h]
        exact s.channelStep_of_state (fun s => s.greenResult d .cancelled) (by simp [State.greenResult, Channel.dropOwn])
      exact ⟨fun _ => hstep, fun hk => nomatch hk⟩
    | red =>
      have hstep : s.toOriginator r .cancelled 0 false = s.redResult d .cancelled := by
        unfold State.toOriginator
        rw [h]
        exact s.channelStep_of_state (fun s => s.redResult d .cancelled) (s.redResult_cancelled_state d)
      rw [hstep, s.redResult_cancelled]
      refine ⟨fun hk => ?_, fun _ hw => ?_⟩
      · rw [hk.resolve_left (by decide)]
        rfl
      · rw [if_pos hw]
        exact State.offerRed_offered _ d

/-- The orders end CANCELLED one after the other (05:R91, R93). -/
theorem cancelledInTurn_foldl (rs : List OrderRecord) (h : ∀ r ∈ rs, r.memory = none) (s : State) :
    CancelledInTurn rs s (rs.foldl (fun s r => s.finalResult r .cancelled 0 false) s) := by
  induction rs generalizing s with
  | nil => rfl
  | cons r rs ih =>
    obtain ⟨hr, h⟩ := List.forall_mem_cons.mp h
    refine ⟨_, s.toOriginator_cancelled r, ?_⟩
    rw [List.foldl_cons, s.finalResult_cancelled r hr]
    exact ih h _

/-- The gate takes a stand-down entry: the queues are emptied and the occupancy is reported, then the orders end
(05:R91, log 15). -/
theorem exec_gateStanddownCancel (s : State) (k : Nat) (hpower : s.power = .running) (hk : s.gate.standdowns = k + 1) :
    exec .gateStanddownCancel s = .next
      ((s.gate.orders ++ s.gate.held ++ s.gate.own).foldl (fun s r => s.finalResult r .cancelled 0 false)
        (s.setGate { s.gate with standdowns := k, orders := [], held := [], own := [] }).reportOccupancy) := by
  show Host.Outcome.next (s.whenRunning _) = _
  rw [s.whenRunning_running _ hpower, hk]
  rfl

/-- Console orders that end CANCELLED issue their results and move nothing but reports and counters (05:R91). -/
theorem cancelled_console (rs : List OrderRecord) (h : ∀ r ∈ rs, FromConsole r ∧ r.memory = none) (s : State) :
    let t := rs.foldl (fun s r => s.finalResult r .cancelled 0 false) s
    Issues s t (rs.map fun r => resultFrame (consoleTag r) r 17 0 (2 * bit r.clamped))
      ∧ t.duty.occupancy = s.duty.occupancy ∧ t.seq = s.seq := by
  induction rs generalizing s with
  | nil => exact ⟨Issues.refl s, rfl, rfl⟩
  | cons r rs ih =>
    obtain ⟨⟨⟨tag, htag⟩, hr⟩, h⟩ := List.forall_mem_cons.mp h
    have hone : s.finalResult r .cancelled 0 false = FinalResult s r tag .cancelled 0 false := by
      rw [s.finalResult_cancelled r hr]
      unfold State.toOriginator
      rw [htag]
      rfl
    obtain ⟨hissues, hoccupancy, hseq⟩ := ih h (FinalResult s r tag .cancelled 0 false)
    rw [List.foldl_cons, hone]
    refine ⟨?_, hoccupancy.trans (by simp [FinalResult]), hseq.trans (by simp [FinalResult])⟩
    have htagged : consoleTag r = tag := by rw [consoleTag, htag]
    rw [List.map_cons, htagged]
    exact (Issues.finalResult s r tag .cancelled 0).trans hissues

/-- The places of the present entry that these entry orders hold (07:R127). -/
def HoldsPlace (s : State) (rs : List OrderRecord) (i : Nat) : Prop :=
  (∃ r ∈ rs, r.origin = .sequencer s.seq.serial i) ∧ Working s.seq.phase

theorem holdsPlace_cons (s : State) (r : OrderRecord) (rs : List OrderRecord) (serial : BitVec 16) (place i : Nat)
    (ho : r.origin = .sequencer serial place) :
    HoldsPlace s (r :: rs) i ↔ (s.currentResult serial = true ∧ place = i) ∨ HoldsPlace s rs i := by
  simp only [HoldsPlace, List.exists_mem_cons_iff, ho, Origin.sequencer.injEq, s.currentResult_iff]
  tauto

/-- An entry order that ends CANCELLED marks its place, where its entry is the present one (07:R127). -/
theorem State.finalResult_cancelled_entry (s : State) (r : OrderRecord) (serial : BitVec 16) (place : Nat)
    (hr : r.memory = none) (ho : r.origin = .sequencer serial place) :
    let t := s.finalResult r .cancelled 0 false
    Issues s t [] ∧ t.duty.occupancy = s.duty.occupancy ∧ t.seq =
      if s.currentResult serial = true then { s.seq with tracking := s.seq.tracking.set place .cancelled } else s.seq := by
  have horigin : s.toOriginator r .cancelled 0 false
      = if s.currentResult serial = true then s.track place .cancelled else s := by
    unfold State.toOriginator
    rw [ho]
    rfl
  rw [s.finalResult_cancelled r hr, horigin]
  split
  · have htrack : Issues s (s.track place .cancelled) [] := ⟨rfl, rfl, rfl, rfl, [], by simp [State.track], rfl⟩
    exact ⟨htrack.trans (Issues.occur _ _), by simp [State.track], by simp [State.track]⟩
  · exact ⟨Issues.occur _ _, by simp, by simp⟩

/-- Entry orders that end CANCELLED mark their places (05:R91, 07:R127). -/
theorem cancelled_entries (rs : List OrderRecord)
    (h : ∀ r ∈ rs, r.memory = none ∧ ∃ serial place, r.origin = .sequencer serial place) (s : State) :
    let t := rs.foldl (fun s r => s.finalResult r .cancelled 0 false) s
    Issues s t [] ∧ t.duty.occupancy = s.duty.occupancy
      ∧ ∀ i, (HoldsPlace s rs i → t.seq.tracking[i]? = s.seq.tracking[i]?.map fun _ => .cancelled)
        ∧ (¬HoldsPlace s rs i → t.seq.tracking[i]? = s.seq.tracking[i]?) := by
  induction rs generalizing s with
  | nil => exact ⟨Issues.refl s, rfl, fun i => ⟨fun ⟨⟨_, hr, _⟩, _⟩ => absurd hr List.not_mem_nil, fun _ => rfl⟩⟩
  | cons r rs ih =>
    obtain ⟨⟨hr, serial, place, ho⟩, h⟩ := List.forall_mem_cons.mp h
    obtain ⟨hone, hoccupancy, hseq⟩ := s.finalResult_cancelled_entry r serial place hr ho
    obtain ⟨hissues, hoccupancies, hplaces⟩ := ih h (s.finalResult r .cancelled 0 false)
    refine ⟨hone.trans hissues, hoccupancies.trans hoccupancy, fun i => ?_⟩
    obtain ⟨hin, hout⟩ := hplaces i
    have hholds : HoldsPlace (s.finalResult r .cancelled 0 false) rs i ↔ HoldsPlace s rs i := by
      have hsame := hone.seq
      unfold HoldsPlace
      rw [hsame]
    rw [hholds] at hin hout
    rw [holdsPlace_cons s r rs serial place i ho, List.foldl_cons]
    by_cases hmark : s.currentResult serial = true ∧ place = i
    · obtain ⟨hcur, rfl⟩ := hmark
      have hset : (s.finalResult r .cancelled 0 false).seq.tracking[place]? = s.seq.tracking[place]?.map fun _ => .cancelled := by
        rw [hseq, if_pos hcur, List.getElem?_set_self']
        rfl
      refine ⟨fun _ => ?_, fun hno => absurd (.inl ⟨hcur, rfl⟩) hno⟩
      by_cases hrest : HoldsPlace s rs place
      · rw [hin hrest, hset, Option.map_map]
        rfl
      · rw [hout hrest, hset]
    · have hkept : (s.finalResult r .cancelled 0 false).seq.tracking[i]? = s.seq.tracking[i]? := by
        rw [hseq]
        split
        · rename_i hcur
          exact List.getElem?_set_ne fun hi => hmark ⟨hcur, hi⟩
        · rfl
      rw [hkept] at hin hout
      exact ⟨fun hor => hin (hor.resolve_left hmark), fun hno => hout fun hrest => hno (.inr hrest)⟩

/-- What an own order's admission reads (05:R77 to R80, R88). -/
theorem OwnAdmitted.congr {s t : State} {node cls : Nat} {arg : Int} {n : Nat} {p : Permit} (h : OwnAdmitted s node cls arg n p)
    (hpermits : t.gate.permits = s.gate.permits) (hown : t.gate.own = s.gate.own) (hunit : t.unit = s.unit)
    (hspan : t.span = s.span) (hstates : t.cond.states = s.cond.states) : OwnAdmitted t node cls arg n p := by
  unfold OwnAdmitted FlagsPass MotionPass IsStart AllTrue at *
  rw [hpermits, hown, hunit, hspan, hstates]
  exact h

/-- A RED that leaves the outstanding orders, where it is alone, and joins them again. -/
theorem Channel.addOwn_erased (c : Channel) (d : Direction) (h : (c.signal d).outstanding = [.red]) :
    (c.setSignal d { c.signal d with outstanding := (c.signal d).outstanding.erase .red }).addOwn d .red = c := by
  rw [h]
  cases d with
  | north =>
    show ({ c with north := { c.north with outstanding := [.red] } } : Channel) = c
    rw [← show c.north.outstanding = [.red] from h]
  | south =>
    show ({ c with south := { c.south with outstanding := [.red] } } : Channel) = c
    rw [← show c.south.outstanding = [.red] from h]

/-- A wanted RED that ends CANCELLED alone is outstanding again (05:R91, 08:R153). -/
theorem State.cancelled_red (u : State) (r : OrderRecord) (d : Direction) (c : ChannelRecord) (n : Nat) (p : Permit)
    (ho : r.origin = .channel d .red) (hrecord : u.chan.record = some c) (hwanted : (u.chan.signal d).redWanted = true)
    (hout : (u.chan.signal d).outstanding = [.red]) (hadmitted : OwnAdmitted u (c.node d) c.cls 0 n p) :
    u.toOriginator r .cancelled 0 false
      = u.setGate { u.gate with own := u.gate.own ++ [OwnRecord (.channel d .red) (c.node d) c.cls 0 n p] } := by
  let v := u.setChan (u.chan.setSignal d { u.chan.signal d with outstanding := (u.chan.signal d).outstanding.erase .red })
  have hoffered : RedOffered v (u.toOriginator r .cancelled 0 false) d :=
    ((u.toOriginator_cancelled r).signal d .red ho).2 rfl hwanted
  have hv : v.chan.record = some c := by simpa [v] using hrecord
  rw [hoffered.passes c n p hv (hadmitted.congr rfl rfl rfl rfl rfl)]
  rw [SignalOffered, show v.chan.addOwn d .red = u.chan from u.chan.addOwn_erased d hout]
  rfl

/-- Settles O35: the orders end one after the other, each reaching its originator; a lone signal order is the case of one
order, and console and entry orders issue results and mark places. -/
theorem standDownCancelsTheQueues : Obligations.StandDownCancelsTheQueues := by
  intro s k hpower hk emptied
  have hexec := exec_gateStanddownCancel s k hpower hk
  have hgate : emptied.gate = { s.gate with standdowns := k, orders := [], held := [], own := [] } := by simp [emptied]
  have hchan : emptied.chan = s.chan := by simp [emptied]
  have hunit : emptied.unit = s.unit := by simp [emptied]
  refine ⟨fun hmem => ⟨_, hexec, cancelledInTurn_foldl _ hmem emptied⟩, fun r d horders hheld hown hr => ?_,
    fun hconsole hentries => ?_⟩
  · have hlone : exec .gateStanddownCancel s
        = .next ((emptied.toOriginator r .cancelled 0 false).occur (.orderOutcome r.node .cancelled)) := by
      rw [hexec, horders, hheld, hown]
      exact congrArg Host.Outcome.next (emptied.finalResult_cancelled r hr)
    refine ⟨fun ho => ?_, fun c n p ho hrecord hwanted hout hadmitted => ⟨_, hlone, ?_⟩⟩
    · rw [hlone, ((emptied.toOriginator_cancelled r).signal d .green ho).1 (.inl rfl), hchan]
    · rw [← hchan] at hrecord hwanted hout
      rw [emptied.cancelled_red r d c n p ho hrecord hwanted hout
        (hadmitted.congr (by rw [hgate]; rfl) (by rw [hgate]; rfl) hunit (by simp [emptied]) (by simp [emptied]))]
      simp [hgate, hchan, hunit]
  · have hreport : Issues (s.setGate { s.gate with standdowns := k, orders := [], held := [], own := [] }) emptied [] :=
      Issues.reportOccupancy _
    have hseq : emptied.seq = s.seq := by simp [emptied]
    obtain ⟨hfirst, hoccupancy, hseq1⟩ := cancelled_console (s.gate.orders ++ s.gate.held) hconsole emptied
    obtain ⟨hsecond, hoccupancies, hplaces⟩ := cancelled_entries s.gate.own hentries
      ((s.gate.orders ++ s.gate.held).foldl (fun s r => s.finalResult r .cancelled 0 false) emptied)
    have hall := (hreport.trans hfirst).trans hsecond
    rw [List.append_nil, List.nil_append] at hall
    rw [List.foldl_append] at hexec
    have hzero := hoccupancies.trans (hoccupancy.trans (State.reportOccupancy_occupancy _))
    refine ⟨_, hexec, hall.frame, hall.seq, fun i => ?_, ?_, hall.cond, hall.console_eq, hall.newResults⟩
    · have := hplaces i
      unfold HoldsPlace at this
      rw [hseq1, hseq] at this
      exact this
    · refine hall.duty.trans ?_
      rw [hzero]
      rfl

end Sys2Proof.Machine
end

section
/-! ### The memories of the signals, and how a final result reaches its originator (05:R89, R90; 08:R145, R151 to R154) -/

namespace Sys2Proof.Machine

/-- A signal's memory is that of a RED that ended DONE (08:R145). -/
theorem Signal.redDone_iff (g : Signal) : g.redDone = true ↔ g.memory = some { kind := .red, result := .done } := by
  simp [Signal.redDone]

theorem Signal.hasOwn_false (g : Signal) (k : SignalKind) : g.hasOwn k = false ↔ k ∉ g.outstanding := by
  simp [Signal.hasOwn]

theorem Channel.setSignal_signal (c : Channel) (d : Direction) : c.setSignal d (c.signal d) = c := by cases d <;> rfl

theorem argKind_eq_green (arg : Int) : argKind arg = .green ↔ arg = 1 := by
  unfold argKind
  split
  · simp; omega
  · split <;> simp_all

/-! #### The re-check -/

/-- The re-check of a signal order whose conditions all hold: the interlock of the other signal decides (05:R89, 08:R145). -/
theorem State.recheck_signal (s : State) (r : OrderRecord) (d : Direction) (hsignal : IsSignal s r.node r.cls d)
    (htrue : AllTrue s r.required) :
    s.recheck r = if r.arg = 1 ∧ (s.chan.signal d.opposite).redDone = false then .revoked 255 else .passes (some d) := by
  unfold State.recheck
  rw [(lowestFailing_eq_none s _).mpr htrue, (s.signalOf_eq_some _ _ d).mpr hsignal]
  simp only [argKind_eq_green]

/-- The re-check of an order of which a condition fails (05:R89). -/
theorem State.recheck_failing (s : State) (r : OrderRecord) (c : Nat) (h : LowestFailing s r.required c) :
    s.recheck r = .revoked c := by
  unfold State.recheck
  rw [(lowestFailing_eq_some s _ c).mpr h]

/-! #### The final result -/

/-- The final result of a kept order (05:R90, R92, R93). -/
theorem State.finalResult_given (s : State) (r : OrderRecord) (x : Result) (detail : Nat) (sent : Bool) :
    s.finalResult r x detail sent = ResultGiven s r x detail sent := by
  unfold State.finalResult ResultGiven State.toOriginator
  simp only [resultFlags_final]
  cases hmemory : r.memory <;> rfl

/-- An order that the re-check revokes has its final result (05:R89). -/
theorem State.takeOrder_revoked (s : State) (r : OrderRecord) (detail : Nat) (h : s.recheck r = .revoked detail) :
    s.takeOrder r = .again (ResultGiven s r .revoked detail false) := by
  unfold State.takeOrder
  rw [h, ← s.finalResult_given]

/-- A memory is settled by the result that it waits for (08:R145). -/
theorem State.settleMemory_eq (s : State) (r : OrderRecord) (x : Result) (d : Direction) (m : SignalMemory)
    (hr : r.memory = some d) (hm : (s.chan.signal d).memory = some m) :
    s.settleMemory r x = if m.result = .pending then s.setChan (s.chan.setSignal d
      { s.chan.signal d with memory := some { m with result := if x = .done then .done else .notDone } }) else s := by
  unfold State.settleMemory Signal.settle
  rw [hr]
  dsimp only
  rw [hm]
  dsimp only
  split
  · rfl
  · rw [Channel.setSignal_signal]
    rfl

/-! #### The tests of the channel -/

/-- The closing check (08:R152). -/
theorem State.closingCheck_iff (s : State) :
    (s.chan.closing = true ∧ s.chan.bothRedDone = true ∧ s.chan.north.hasOwn .green = false
        ∧ s.chan.south.hasOwn .green = false)
      ↔ s.chan.closing = true ∧ (∀ d, (s.chan.signal d).memory = some { kind := .red, result := .done })
        ∧ ∀ d, SignalKind.green ∉ (s.chan.signal d).outstanding := by
  have hboth : ∀ P : Direction → Prop, (∀ d, P d) ↔ P .north ∧ P .south :=
    fun P => ⟨fun h => ⟨h .north, h .south⟩, fun h d => by cases d; exacts [h.1, h.2]⟩
  simp only [hboth, Channel.bothRedDone, Bool.and_eq_true, Signal.redDone_iff, Signal.hasOwn_false, Channel.signal]

/-- The state that names a direction is that of its GREEN (08, section 8.5). -/
theorem ChannelState.direction_eq_some (c : ChannelState) (d : Direction) : c.direction = some d ↔ c = .green d := by
  cases c <;> cases d <;> simp [ChannelState.direction, ChannelState.green]

/-- A changeover begins from a GREEN of d (08:R151): its last CLEARED vessel has gone and one of the other direction waits. -/
def ChangeoverStarts (s : State) (d : Direction) : Prop :=
  s.chan.state = ChannelState.green d ∧ s.chan.changeoverPending = false ∧ s.chan.closing = false
    ∧ (∀ v ∈ s.chan.vessels, v.direction = d → v.cleared = false)
    ∧ ∃ v ∈ s.chan.vessels, v.direction = d.opposite ∧ v.cleared = false

/-- The changeover test under a GREEN of d (08:R151). -/
theorem State.changeoverTest_green (s : State) (d : Direction) (h : s.chan.state = .green d) :
    (ChangeoverStarts s d → s.changeoverTest
        = (s.setChan (({ s.chan with changeoverPending := true } : Channel).wantRed d true)).offerRed d)
      ∧ (¬ChangeoverStarts s d → s.changeoverTest = s) := by
  have hiff : (s.chan.changeoverPending = false ∧ s.chan.closing = false ∧ s.chan.vessels.any (Vessel.clearedFor d) = false
      ∧ s.chan.vessels.any (Vessel.waitsFor d.opposite) = true) ↔ ChangeoverStarts s d := by
    simp only [ChangeoverStarts, h, true_and, List.any_eq_false, List.any_eq_true, Vessel.clearedFor, Vessel.waitsFor,
      Vessel.waits]
    grind
  unfold State.changeoverTest
  rw [(ChannelState.direction_eq_some _ d).mpr h]
  exact ⟨fun hs => if_pos (hiff.mpr hs), fun hs => if_neg (mt hiff.mp hs)⟩

/-- The changeover test where no changeover begins (08:R151). -/
theorem State.changeoverTest_none (s : State) (h : ∀ d, ¬ChangeoverStarts s d) : s.changeoverTest = s := by
  cases hd : s.chan.state.direction with
  | none => unfold State.changeoverTest; rw [hd]
  | some d => exact (s.changeoverTest_green d ((ChannelState.direction_eq_some _ d).mp hd)).2 (h d)

/-- Settles O48, part by part: the re-check of a signal order, the settling of a memory, the final result, and the three tests
of the channel. -/
theorem signalMemoriesAndReds : Obligations.SignalMemoriesAndReds := by
  intro s known
  have hknown : ∀ d, (s.chan.signal d).redDone = true ↔ known d := fun d => Signal.redDone_iff _
  refine ⟨fun r d hsignal htrue => ⟨fun h => ?_, fun harg hno => ?_⟩,
    fun r c h => s.takeOrder_revoked r c (s.recheck_failing r c h), fun r x d m hr hm => ?_, s.finalResult_given,
    ⟨fun h => ?_, fun h => ?_⟩, ?_, ?_, fun d h => ?_⟩
  · have hpasses : s.recheck r = .passes (some d) := by
      rw [s.recheck_signal r d hsignal htrue]
      refine if_neg fun ⟨harg, hred⟩ => ?_
      rw [(hknown _).mpr (h.resolve_left fun hne => hne harg)] at hred
      exact nomatch hred
    unfold State.takeOrder
    rw [hpasses]
    rfl
  · refine s.takeOrder_revoked r 255 ?_
    rw [s.recheck_signal r d hsignal htrue]
    exact if_pos ⟨harg, Bool.eq_false_iff.mpr (mt (hknown _).mp hno)⟩
  · rw [s.settleMemory_eq r x d m hr hm]
    exact ⟨fun h => if_pos h, fun h => if_neg h⟩
  · exact if_neg (mt s.closingCheck_iff.mp h)
  · unfold State.closingCheck
    rw [if_pos (s.closingCheck_iff.mpr h)]
    exact State.writePoint_written _ 127 0
  · exact ⟨_, State.offerRedOnce_offered _ .north, State.offerRedOnce_offered _ .south⟩
  · exact s.changeoverTest_none
  · rw [(s.changeoverTest_green d h.1).1 h]
    have := State.offerRed_offered (s.setChan (({ s.chan with changeoverPending := true } : Channel).wantRed d true)) d
    cases d <;> exact this

end Sys2Proof.Machine
end

section
/-! ### A close (08:R152) -/

namespace Sys2Proof.Machine

/-- RED is wanted for a signal after a close (08:R152). -/
theorem wantsRed_eq (g : Signal) : WantsRed g = (g.redWanted || g.needsRed) := by
  have hneeds : g.needsRed
      = (decide (g.memory ≠ some { kind := .red, result := .done }) || decide (SignalKind.green ∈ g.outstanding)) := by
    rw [Bool.eq_iff_iff, g.needsRed_iff, SignalRed]
    simp only [Bool.or_eq_true, decide_eq_true_eq]
    tauto
  rw [hneeds, WantsRed, Bool.or_assoc]

theorem Channel.wantReds_eq (c : Channel) :
    c.wantReds = { c with
      north := { c.north with redWanted := WantsRed c.north }, south := { c.south with redWanted := WantsRed c.south } } := by
  rw [wantsRed_eq, wantsRed_eq]
  rfl

/-- Where RED is wanted for no signal, a close wants none (08:R152). -/
theorem Channel.wantReds_unwanted (c : Channel) (hn : WantsRed c.north = false) (hs : WantsRed c.south = false) :
    c.wantReds = c := by
  have hkept : ∀ g : Signal, WantsRed g = false → { g with redWanted := false } = g := fun g hg => by
    rw [wantsRed_eq, Bool.or_eq_false_iff] at hg
    rw [← hg.1]
  rw [c.wantReds_eq, hn, hs, hkept _ hn, hkept _ hs]

/-- Step 3 of a close at one signal (08:R152). -/
theorem State.closeRed_offers (s : State) (g : Signal) (d : Direction) : CloseOffers g s (s.closeRed g.needsRed d) d := by
  unfold State.closeRed
  exact ⟨fun h => if_neg fun hn => (g.needsRed_iff.mp hn) h,
    fun h => by rw [if_pos (g.needsRed_iff.mpr h)]; exact s.offerRedOnce_offered d⟩

/-- A close (08:R152). -/
theorem State.close_closes (s : State) : Closes s s.close := by
  have hunwanted : (!s.chan.withdraw.wantReds.north.redWanted && !s.chan.withdraw.wantReds.south.redWanted) = true
      ↔ WantsRed s.chan.north = false ∧ WantsRed s.chan.south = false := by
    rw [Channel.wantReds_eq]
    simp [Channel.withdraw]
  unfold State.close
  refine ⟨fun h => ?_, fun ⟨d, h⟩ => ?_⟩
  · rw [if_pos (hunwanted.mpr ⟨h .north, h .south⟩),
      Channel.wantReds_unwanted s.chan.withdraw (h .north) (h .south)]
    exact State.writePoint_written _ 127 0
  · dsimp only
    rw [if_neg fun hno => ?_]
    · rw [Channel.wantReds_eq]
      exact ⟨_, State.closeRed_offers _ s.chan.north .north, State.closeRed_offers _ s.chan.south .south⟩
    · obtain ⟨hn, hs⟩ := hunwanted.mp hno
      cases d with
      | north => exact nomatch hn.symm.trans h
      | south => exact nomatch hs.symm.trans h

end Sys2Proof.Machine
end

section
/-! ### MAINTENANCE begins, and a phase faults (07:R125, R130, R140, R141; 10:R172) -/

namespace Sys2Proof.Machine

/-! A point written does not read the Mode and Chain Unit. -/

theorem walkStates_setUnit (s : State) (x : ModeChain) (base : Vector CondState 64) (marks : List Nat) (expire : Bool)
    (ns : List Nat) (states : Vector CondState 64) :
    walkStates (s.setUnit x) base marks expire ns states = walkStates s base marks expire ns states := by
  induction ns generalizing states with
  | nil => rfl
  | cons n ns ih => exact ih _

theorem State.walkPoints_setUnit (s : State) (x : ModeChain) (ns : List Nat) :
    (s.setUnit x).walkPoints ns = (s.walkPoints ns).setUnit x := by
  unfold State.walkPoints State.walk
  rw [State.setUnit_cond, walkStates_setUnit]
  generalize walkStates s _ _ _ conditionNumbers s.cond.states = states
  rfl

theorem State.raisePoints_setUnit (s : State) (x : ModeChain) : (s.setUnit x).raisePoints = s.raisePoints.setUnit x := by
  unfold State.raisePoints
  rw [State.setUnit_points]
  match s.points.gather with
  | none => rfl
  | some [] => rfl
  | some (n :: ns) => exact State.walkPoints_setUnit (s.setPoints _) x (n :: ns)

theorem State.writePoint_setUnit (s : State) (x : ModeChain) (n : Nat) (v : Int) :
    (s.setUnit x).writePoint n v = (s.writePoint n v).setUnit x := by
  unfold State.writePoint
  cases hg : s.points.gather with
  | none =>
    rw [State.pointEvent_idle _ _ hg, State.pointEvent_idle (s.setUnit x) _ hg, ← State.raisePoints_setUnit]
    rfl
  | some ns =>
    rw [State.pointEvent_gathering _ _ ns hg, State.pointEvent_gathering (s.setUnit x) _ ns hg]
    rfl

/-! The steps of the change. -/

/-- What the Mode and Chain Unit does at a change of mode (10:R172). -/
theorem State.modeBase_written (s : State) (m : Mode) :
    PointWritten (s.setUnit { ({ s.unit with mode := m } : ModeChain).settleChain with maintenancePending := false })
      (s.modeBase m) 123 m.num := by
  have hbase : s.modeBase m
      = (s.setUnit { ({ s.unit with mode := m } : ModeChain).settleChain with
          maintenancePending := false }).writePoint 123 m.num := by
    unfold State.modeBase
    rw [State.writePoint_setUnit, State.writePoint_setUnit]
    rfl
  rw [hbase]
  exact State.writePoint_written _ 123 m.num

/-- Steps 1 to 3 of a phase change (07:R125). -/
theorem State.phaseBase_changed (s : State) (p : Phase) (cause : PhaseCause) : PhaseChanged s (s.phaseBase p cause) p cause :=
  ⟨_, State.writePoint_written _ 120 p.num, rfl⟩

/-- The Channel Controller takes a phase other than 6 and 7 (07:R125). -/
theorem State.channelEvent_phase (s : State) (advance : State → State) (p : Phase) (h6 : p ≠ .channelOpen)
    (h7 : p ≠ .channelClosing) :
    (s.channelEvent advance fun s => s.channelPhase p) = s.setChan { s.chan with phaseSeen := p } := by
  have hphase : s.channelPhase p = s.setChan { s.chan with phaseSeen := p } := by
    unfold State.channelPhase
    split
    · exact absurd rfl h6
    · exact absurd rfl h7
    · rfl
  exact (if_pos (congrArg (·.chan.state) hphase)).trans hphase

/-- Outside SERVICE the opening test finds nothing to do (08:R149). -/
theorem State.openingTest_of_mode (s : State) (h : s.unit.mode ≠ .service) : s.openingTest = s := by
  have hno : s.mayOpen = false := by simp [State.mayOpen, h]
  unfold State.openingTest
  split
  · rfl
  · simp [hno]

/-- The sequencer as INACTIVE leaves it (07:R140). -/
def Sequencer.deactivated (q : Sequencer) : Sequencer :=
  { q with interrupted := none, tracking := [], dwell := .absent, limit := none, request := .none, recovery := false }

/-- The sequencer goes to INACTIVE (07:R140). -/
theorem State.sequencerInactive_eq (s : State) :
    let b := (s.setSeq s.seq.deactivated).phaseBase .inactive .mode
    s.sequencerInactive = b.setChan { b.chan with phaseSeen := .inactive } :=
  State.channelEvent_phase _ id .inactive (by decide) (by decide)

/-- SERVICE to MAINTENANCE ends with the close (10:R172): outside SERVICE no opening test follows it. -/
theorem State.enterMaintenance_eq (s : State) : s.enterMaintenance = (s.modeBase .maintenance).sequencerInactive.close := by
  have hmode : (s.modeBase .maintenance).sequencerInactive.close.unit.mode ≠ .service := by
    simp [State.modeBase, ModeChain.settleChain]
  have hopening := State.openingTest_of_mode _ hmode
  show (if _ then (s.modeBase .maintenance).sequencerInactive.close else if _ then
    (s.modeBase .maintenance).sequencerInactive.close.openingTest else (s.modeBase .maintenance).sequencerInactive.close) = _
  rw [hopening, ite_self, ite_self]

/-- SERVICE ends and MAINTENANCE begins (10:R172). -/
theorem State.enterMaintenance_begun (s : State) : MaintenanceBegun s s.enterMaintenance := by
  rw [s.enterMaintenance_eq, State.sequencerInactive_eq]
  refine ⟨s.modeBase .maintenance, _, ?_, State.phaseBase_changed _ .inactive .mode, State.close_closes _⟩
  have hchain : (Mode.maintenance != .init && s.unit.causes.isEmpty) = decide (s.unit.causes = CauseSet.empty) := by
    rw [Bool.eq_iff_iff, decide_eq_true_eq, ← CauseSet.isEmpty_iff]
    rfl
  have ha := s.modeBase_written .maintenance
  unfold ModeChain.settleChain at ha
  rw [hchain] at ha
  exact ha

/-- The Mode and Chain Unit takes a phase handed to it (07:R141). -/
theorem State.phaseHandMode_takes (s : State) (p : Phase) : ModeTakes s (s.phaseHandMode p) p := by
  unfold State.phaseHandMode
  exact ⟨fun h => by rw [if_pos h]; exact s.enterMaintenance_begun, fun h => if_neg h⟩

/-- A phase fault (07:R130). -/
theorem State.phaseFault_faults (s : State) (cause : PhaseCause) : Faults s (s.phaseFault cause) cause := by
  unfold State.phaseFault
  refine ⟨fun h => if_neg (mt (Phase.working_iff _).mp h), fun h => ?_⟩
  rw [if_pos ((Phase.working_iff _).mpr h)]
  refine ⟨_, State.phaseBase_changed _ .halted cause, ?_⟩
  unfold State.haltPhase
  rw [State.channelEvent_phase _ id .halted (by decide) (by decide)]
  exact State.phaseHandMode_takes _ .halted

end Sys2Proof.Machine
end

section
/-! ### What a phase change and a phase fault leave (07:R125, R130) -/

namespace Sys2Proof.Machine

/-- What t keeps of s over steps 1 to 3 of a phase change to p (07:R125). -/
structure PhaseMoves (s t : State) (p : Phase) (cause : PhaseCause) : Prop where
  power : t.power = s.power ∧ t.now = s.now ∧ t.pending = s.pending ∧ t.unit = s.unit ∧ t.field = s.field ∧ t.span = s.span
  points : t.points = WithValue s 120 p.num
  seq : t.seq = { s.seq with phase := p, sets := t.seq.sets }
  gate : t.gate = { s.gate with sets := t.gate.sets }
  chan : t.chan = { s.chan with sets := t.chan.sets }
  cond : t.cond = { s.cond with states := t.cond.states, counterChanges := t.cond.counterChanges }
  duty : t.duty =
    { s.duty with phase := p, counters := t.duty.counters, frozen := t.duty.frozen, sets := t.duty.sets }
  report : ReportsAround s.console t.console 20 [byte p.num, byte cause.code]

theorem PhaseChanged.moves {s t : State} {p : Phase} {cause : PhaseCause} (h : PhaseChanged s t p cause) :
    PhaseMoves s t p cause := by
  obtain ⟨u, hu, rfl⟩ := h
  obtain ⟨hd, hpoints⟩ := hu.drifts
  obtain ⟨hpower, hnow, hpending, hfield, hspan, hunit⟩ := hd.blocks
  obtain ⟨hduty, -⟩ := (u.setConsole (u.console.offer 20 [byte p.num, byte cause.code])).takeDuty_follow
    { u.duty with phase := p } .phaseEntry ⟨rfl, rfl⟩
  have hdrift : u.duty = { s.duty with sets := u.duty.sets } := hd.duty
  have hfollowed : ∀ d : Duty,
      d = { ({ u.duty with phase := p } : Duty) with counters := d.counters, frozen := d.frozen } →
      d = { s.duty with phase := p, counters := d.counters, frozen := d.frozen, sets := d.sets } := fun d hd => by
    rw [hd, hdrift]
  have hcond : u.cond = { s.cond with states := u.cond.states } := hd.cond
  refine ⟨⟨hpower, hnow, hpending, hunit, hfield, hspan⟩, hpoints, hd.seq, hd.gate, hd.chan, ?_, hfollowed _ hduty,
    ⟨u.console, hd.console, State.takeDuty_reports _ _⟩⟩
  show ({ u.cond with counterChanges := _ } : Conditions) = _
  rw [hcond]
  rfl

/-- The points with a value written, where no point change is being gathered. -/
theorem withValue_idle (s : State) (n : Nat) (v : Int) (h : s.points.gather = none) :
    WithValue s n v = { s.points with points := put s.points.points n { s.point n with value := v } } := by
  unfold WithValue
  rw [h]
  rw [show (none : Option (List Nat)).map _ = s.points.gather from h.symm]

/-- With no MAINTENANCE pending the Mode and Chain Unit does nothing at a phase change (07:R141). -/
theorem ModeTakes.idle {s t : State} {p : Phase} (h : ModeTakes s t p) (hp : s.unit.maintenancePending = false) : t = s :=
  h.2 fun hbegins => by rw [hp] at hbegins; exact nomatch hbegins.1

/-- A phase fault with no MAINTENANCE pending (07:R130). -/
theorem Faults.settles {s t : State} {cause : PhaseCause} (h : Faults s t cause) (hw : Working s.seq.phase)
    (hp : s.unit.maintenancePending = false) :
    ∃ v, PhaseMoves (s.setSeq
        { s.seq with
          interrupted := some (.phase s.seq.phase), tracking := [], dwell := .absent, limit := none, request := .none }) v
        .halted cause
      ∧ t = v.setChan { v.chan with phaseSeen := .halted } := by
  obtain ⟨v, hv, hmode⟩ := h.2 hw
  have hunit : v.unit = s.unit := hv.moves.power.2.2.2.1
  exact ⟨v, hv.moves, hmode.idle (by rw [← hp, ← hunit]; rfl)⟩

/-- A phase change that is handed to a Channel Controller that does nothing more (07:R125). -/
theorem PhaseMoves.handed {s v : State} {p : Phase} {cause : PhaseCause} (h : PhaseMoves s v p cause)
    (hg : s.points.gather = none) : PhaseHanded s (v.setChan { v.chan with phaseSeen := p }) p cause := by
  refine ⟨h.power, h.points.trans (withValue_idle s _ _ hg), ?_, h.cond, h.duty, h.report⟩
  show ({ v.chan with phaseSeen := p } : Channel) = _
  rw [h.chan]
  rfl

/-- What is handed over does not depend on the sequencer (07:R125). -/
theorem PhaseHanded.of_setSeq {s t : State} {q : Sequencer} {p : Phase} {cause : PhaseCause}
    (h : PhaseHanded (s.setSeq q) t p cause) : PhaseHanded s t p cause :=
  ⟨h.power, h.points, h.chan, h.cond, h.duty, h.report⟩

/-- A phase fault of a working phase halts the crossing (07:R130). -/
theorem Faults.halts {s t : State} {cause : PhaseCause} (h : Faults s t cause) (hw : Working s.seq.phase)
    (hg : s.points.gather = none) (hp : s.unit.maintenancePending = false) : Halts s t cause := by
  obtain ⟨v, hv, rfl⟩ := h.settles hw hp
  exact ⟨hv.seq, hv.gate, (hv.handed hg).of_setSeq⟩

end Sys2Proof.Machine
end

section
/-! ### A motion stop (06:R98, 07:R131) -/

namespace Sys2Proof.Machine

/-- The alert of a motion stop (11, section 11.6). -/
theorem Console.alert_motionStop (c : Console) (x : MotionCause) :
    c.alert (.motionStop x) = c.offer 21 [2, 0, byte x.code] := by
  cases x <;> rfl

/-- A STOP order is placed in the stop slot of a hoist (06:R98). -/
theorem State.placeStop_eq (s : State) (t : Tower) (r : SpanRecord) (h : s.span.record = some r) :
    s.placeStop t = s.setField (s.field.setStop t (some (r.stopOrder t))) := by
  unfold State.placeStop
  rw [h]

/-- Both hoists are stopped (06:R98). -/
theorem State.placeStops_eq (s : State) (r : SpanRecord) (h : s.span.record = some r) :
    (s.placeStop .a).placeStop .b = s.setField { s.field with
      stopA := some { node := r.a.hoist, cls := r.stop, arg := 0 }
      stopB := some { node := r.b.hoist, cls := r.stop, arg := 0 } } := by
  rw [s.placeStop_eq .a r h]
  exact State.placeStop_eq _ .b r h

/-- A motion stop begins (06:R98). -/
theorem State.beginStopping_begins (s : State) (l : LimitRecord) (r : SpanRecord) (c : MotionCause)
    (hr : s.span.record = some r) (hl : s.unit.limits = some l) :
    StopBegins s ((s.beginStopping .fault).alert (.motionStop c)) l r c := by
  refine ⟨s.beginStopping .fault, ?_, by rw [State.alert, Console.alert_motionStop]⟩
  have hexpiry : s.stopExpiry = some (s.now + BitVec.ofNat 32 (l.stopLimit * 1000)) := by
    unfold State.stopExpiry
    rw [hl]
    rfl
  unfold State.beginStopping
  rw [s.placeStops_eq r hr, ← hexpiry]
  exact State.writePoint_written _ 119 3

/-- The blocks as the beginning of a motion stop leaves them (06:R98). -/
structure StopMoves (s u : State) (l : LimitRecord) (r : SpanRecord) (c : MotionCause) : Prop where
  power : u.power = s.power ∧ u.now = s.now ∧ u.pending = s.pending ∧ u.unit = s.unit
  span : u.span =
    { s.span with
      motion := .stopping, stopKind := some .fault, standstillRun := 0, startWindow := none
      stopTimer := some (s.now + BitVec.ofNat 32 (l.stopLimit * 1000)) }
  field : u.field =
    { s.field with
      trimA := none, trimB := none
      stopA := some { node := r.a.hoist, cls := r.stop, arg := 0 }
      stopB := some { node := r.b.hoist, cls := r.stop, arg := 0 } }
  points : u.points = WithValue s 119 3
  gate : u.gate = { s.gate with sets := u.gate.sets }
  seq : u.seq = { s.seq with sets := u.seq.sets }
  chan : u.chan = { s.chan with sets := u.chan.sets }
  cond : u.cond = { s.cond with states := u.cond.states }
  duty : u.duty = { s.duty with sets := u.duty.sets }
  alert : ∃ m, Reports s.console m ∧ u.console = m.offer 21 [2, 0, byte c.code]

theorem StopBegins.moves {s u : State} {l : LimitRecord} {r : SpanRecord} {c : MotionCause} (h : StopBegins s u l r c) :
    StopMoves s u l r c := by
  obtain ⟨w, hw, rfl⟩ := h
  obtain ⟨hd, hpoints⟩ := hw.drifts
  obtain ⟨hpower, hnow, hpending, hfield, hspan, hunit⟩ := hd.blocks
  exact ⟨⟨hpower, hnow, hpending, hunit⟩, hspan, hfield, hpoints, hd.gate, hd.seq, hd.chan, hd.cond, hd.duty,
    w.console, hd.console, rfl⟩

/-- A motion stop that the sequencer does not take (06:R98). -/
theorem StopMoves.stops {s u : State} {l : LimitRecord} {r : SpanRecord} {c : MotionCause} (h : StopMoves s u l r c) :
    StopsMotion s (u.occur (.motionStop c)) l r c := by
  obtain ⟨hframe, hduty, -, hcounts⟩ := u.occur_spec (.motionStop c)
  have hcounted : ∀ d : Duty, d = { u.duty with counters := d.counters, frozen := d.frozen } →
      d = { s.duty with counters := d.counters, frozen := d.frozen, sets := d.sets } := fun d hd => by rw [hd, h.duty]
  have hraised : ∀ q : Conditions, q = { u.cond with counterChanges := q.counterChanges } →
      q = { s.cond with states := q.states, counterChanges := q.counterChanges } := fun q hq => by rw [hq, h.cond]
  obtain ⟨m, hm, halert⟩ := h.alert
  refine ⟨h.power, h.span, h.field, h.points, h.gate, h.seq, h.chan, hraised _ rfl, hcounted _ hduty, ?_,
    m, hm, halert ▸ u.occur_reports _⟩
  rw [h.duty] at hcounts
  exact hcounts

/-- A motion stop in a phase that it faults, with no MAINTENANCE pending (07:R131). -/
theorem StopMoves.halts {s u v : State} {l : LimitRecord} {r : SpanRecord} {c : MotionCause} (h : StopMoves s u l r c)
    (hphase : Working s.seq.phase) (hp : s.unit.maintenancePending = false) (hv : Faults u v .motionStop) :
    v.span = u.span ∧ v.field = u.field ∧ v.unit = s.unit ∧ v.seq.phase = .halted
      ∧ v.seq.interrupted = some (.phase s.seq.phase) ∧ (v.point 119).value = 3 ∧ (v.point 120).value = 12 := by
  have hseq : u.seq.phase = s.seq.phase := by rw [h.seq]
  have hunit : u.unit = s.unit := h.power.2.2.2
  obtain ⟨w, hw, rfl⟩ := hv.settles (hseq ▸ hphase) (by rw [hunit, hp])
  obtain ⟨-, -, -, hwunit, hwfield, hwspan⟩ := hw.power
  have hpoint : ∀ n, w.point n = if n = 120 then { u.point 120 with value := 12 } else u.point n :=
    point_withValue hw.points (by decide)
  have hpointU : ∀ n, u.point n = if n = 119 then { s.point 119 with value := 3 } else s.point n :=
    point_withValue h.points (by decide)
  refine ⟨hwspan, hwfield, hwunit.trans hunit, ?_, ?_, ?_, ?_⟩
  · show w.seq.phase = _
    rw [hw.seq]
  · show w.seq.interrupted = _
    rw [hw.seq, ← hseq]
    rfl
  · show (w.point 119).value = 3
    simp [hpoint, hpointU]
  · show (w.point 120).value = 12
    simp [hpoint]

theorem FaultedByStop.working {p : Phase} (h : FaultedByStop p) : Working p := by
  rcases h with rfl | rfl | rfl <;> exact ⟨nofun, nofun⟩

theorem State.moving_iff (s : State) : s.moving = true ↔ Moving s := by
  unfold State.moving Moving
  cases s.span.motion <;> simp [MotionState.moving]

/-- A motion stop (06:R98, 07:R131). -/
theorem State.motionStop_stopped (s : State) (l : LimitRecord) (r : SpanRecord) (c : MotionCause) (hm : Moving s)
    (hr : s.span.record = some r) (hl : s.unit.limits = some l) : MotionStopped s (s.motionStop c) l r c := by
  let u := (s.beginStopping .fault).alert (.motionStop c)
  have hu : StopBegins s u l r c := s.beginStopping_begins l r c hr hl
  have hmoves := hu.moves
  have hphase : u.seq.phase = s.seq.phase := by rw [hmoves.seq]
  have hstop : s.motionStop c = u.sequencerMotionStop.occur (.motionStop c) := if_pos (s.moving_iff.mpr hm)
  have hfaulted : FaultedByStop s.seq.phase → u.sequencerMotionStop = u.phaseFault .motionStop :=
    fun h => if_pos (hphase.symm ▸ h)
  have hpassed : ¬FaultedByStop s.seq.phase → u.sequencerMotionStop = u := fun h => if_neg (hphase.symm ▸ h)
  rw [hstop]
  refine ⟨⟨u, _, hu, fun h => ?_, hpassed, rfl⟩, fun h => ?_, fun h hp => ?_⟩
  · rw [hfaulted h]
    exact u.phaseFault_faults .motionStop
  · rw [hpassed h]
    exact hmoves.stops
  · rw [hfaulted h]
    have hv := u.phaseFault_faults .motionStop
    generalize u.phaseFault .motionStop = v at hv
    obtain ⟨hspan, hfield, hunit, hhalted, hinterrupted, h119, h120⟩ := hmoves.halts h.working hp hv
    exact ⟨hspan.trans hmoves.span, hfield.trans hmoves.field, hunit, hhalted, hinterrupted, h119, h120⟩

end Sys2Proof.Machine
end

section
/-! ### Starts (06:R113, R114) -/

namespace Sys2Proof.Machine

/-- A DONE that is no hoist START changes nothing (06:R113). -/
theorem State.startDone_other (s : State) (node cls : Nat) (h : ∀ x up, ¬IsStart s node cls x up) :
    s.startDone node cls = s := by
  have hno := (s.startOf_eq_none node cls).mpr h
  unfold State.startOf at hno
  unfold State.startDone
  cases hr : s.span.record with
  | none => rfl
  | some r =>
    rw [hr] at hno
    dsimp only at hno ⊢
    rw [hno]

/-- The DONE of a hoist START, by the motion state (06:R113, R114). -/
theorem State.startDone_start (s : State) (node cls : Nat) (r : SpanRecord) (x : Tower) (up : Bool)
    (hr : s.span.record = some r) (h : IsStart s node cls x up) :
    (s.span.motion = .idle ∨ s.span.motion = .stopped → s.startDone node cls = s.firstStart r x up)
      ∧ (s.span.motion = (if up then .raising else .lowering) → s.startDone node cls = s.laterStart true x)
      ∧ (s.span.motion = (if up then .lowering else .raising) → s.startDone node cls = s.motionStop .startFailed)
      ∧ (s.span.motion = .stopping → s.startDone node cls = s.placeStop x) := by
  have hstart := (s.startOf_eq_some node cls x up).mpr h
  unfold State.startOf at hstart
  unfold State.startDone
  rw [hr] at hstart ⊢
  dsimp only at hstart ⊢
  rw [hstart]
  dsimp only
  refine ⟨?_, fun h => ?_, fun h => ?_, fun h => ?_⟩
  · rintro (h | h) <;> rw [h]
  · rw [h]
    cases up <;> rfl
  · rw [h]
    cases up <;> rfl
  · rw [h]

/-- Both ends can be compared (06:R113). -/
theorem State.skewKnown_iff (s : State) (r : SpanRecord) : s.skewKnown r = true ↔ SkewKnown s r := by
  simp [State.skewKnown, SkewKnown, State.encoderFresh, SpanRecord.tower, and_assoc]

/-- The two watches of a start (06:R113). -/
theorem State.startWatches_watch (w : State) (l : LimitRecord) (r : SpanRecord) (hm : Moving w)
    (hr : w.span.record = some r) (hl : w.unit.limits = some l) :
    ((w.point 125).value ≠ 0 → SkewKnown w r → w.startWatches r = w)
      ∧ ((w.point 125).value = 0 → MotionStopped w (w.startWatches r) l r .holdLapse)
      ∧ ((w.point 125).value ≠ 0 → ¬SkewKnown w r → MotionStopped w (w.startWatches r) l r .skewUnknown) := by
  unfold State.startWatches
  simp only [← w.skewKnown_iff]
  refine ⟨fun h hk => by rw [if_neg h, if_pos hk], fun h => ?_, fun h hk => ?_⟩
  · rw [if_pos h]
    exact w.motionStop_stopped l r .holdLapse hm hr hl
  · rw [if_neg h, if_neg hk]
    exact w.motionStop_stopped l r .skewUnknown hm hr hl

/-- The first START DONE in INIT, or with a cause latched, is no start (06:R113). -/
theorem State.firstStart_barred (s : State) (r : SpanRecord) (x : Tower) (up : Bool)
    (h : s.unit.mode = .init ∨ s.unit.causes ≠ CauseSet.empty) : s.firstStart r x up = s :=
  if_pos (h.imp_right (CauseSet.isEmpty_false _).mpr)

theorem State.firstStart_open (s : State) (hmode : s.unit.mode ≠ .init) (hcauses : s.unit.causes = CauseSet.empty) :
    ¬(s.unit.mode = .init ∨ s.unit.causes.isEmpty = false) := by
  rw [hcauses]
  exact fun h => h.elim hmode nofun

/-- The first START DONE without a limit record (06:R113). -/
theorem State.firstStart_unlimited (s : State) (r : SpanRecord) (x : Tower) (up : Bool) (hr : s.span.record = some r)
    (hmode : s.unit.mode ≠ .init) (hcauses : s.unit.causes = CauseSet.empty) (hl : s.unit.limits = none) :
    s.firstStart r x up = ((s.setField { s.field with
      stopA := some { node := r.a.hoist, cls := r.stop, arg := 0 }
      stopB := some { node := r.b.hoist, cls := r.stop, arg := 0 } }).alert (.motionStop .startFailed)).occur
        (.motionStop .startFailed) := by
  unfold State.firstStart
  rw [if_neg (s.firstStart_open hmode hcauses), if_pos hl, s.placeStops_eq r hr]

/-- The first START DONE begins the motion (06:R113). -/
theorem State.firstStart_limited (s : State) (l : LimitRecord) (r : SpanRecord) (x : Tower) (up : Bool)
    (hmode : s.unit.mode ≠ .init) (hcauses : s.unit.causes = CauseSet.empty) (hl : s.unit.limits = some l) :
    s.firstStart r x up = (((s.setSpan (s.span.started s.now r x up)).setMotion (if up then .raising else .lowering)).setCorrection
      .acquire).startWatches r := by
  unfold State.firstStart
  rw [if_neg (s.firstStart_open hmode hcauses), if_neg (by rw [hl]; exact nofun)]

/-- What the two points of a start leave of the points (06:R113). -/
theorem started_points {s u w : State} {n : Int} {p q : Span} (hu : PointWritten (s.setSpan p) u 119 n)
    (hw : PointWritten (u.setSpan q) w 118 0) (m : Nat) :
    (w.point m).freshness = (s.point m).freshness ∧ (m ≠ 118 → m ≠ 119 → w.point m = s.point m) := by
  have hpointU : u.point m = if m = 119 then { s.point 119 with value := n } else s.point m :=
    point_withValue hu.drifts.2 (by decide) m
  have hpoint : w.point m = if m = 118 then { u.point 118 with value := 0 } else u.point m :=
    point_withValue hw.drifts.2 (by decide) m
  have hpoint118 : u.point 118 = s.point 118 := by
    rw [show u.point 118 = if 118 = 119 then _ else s.point 118 from point_withValue hu.drifts.2 (by decide) 118]
    rfl
  rw [hpoint, hpointU]
  refine ⟨?_, fun h118 h119 => by rw [if_neg h118, if_neg h119]⟩
  split
  · rename_i h
    rw [hpoint118, h]
  · split
    · rename_i h
      rw [h]
    · rfl

/-- The first START DONE begins the motion with its two watches (06:R113). -/
theorem State.firstStart_begins (s : State) (l : LimitRecord) (r : SpanRecord) (x : Tower) (up : Bool)
    (hr : s.span.record = some r) (hmode : s.unit.mode ≠ .init) (hcauses : s.unit.causes = CauseSet.empty)
    (hl : s.unit.limits = some l) :
    let began := { s.span.started s.now r x up with motion := if up then .raising else .lowering, correction := .acquire }
    ∃ u w, PointWritten (s.setSpan { began with correction := s.span.correction }) u 119 (if up then 1 else 2)
      ∧ PointWritten (u.setSpan began) w 118 0
      ∧ ((s.point 125).value ≠ 0 → SkewKnown s r → s.firstStart r x up = w)
      ∧ ((s.point 125).value = 0 → MotionStopped w (s.firstStart r x up) l r .holdLapse)
      ∧ ((s.point 125).value ≠ 0 → ¬SkewKnown s r → MotionStopped w (s.firstStart r x up) l r .skewUnknown) := by
  intro began
  let u := (s.setSpan (s.span.started s.now r x up)).setMotion (if up then .raising else .lowering)
  have hu : PointWritten (s.setSpan { began with correction := s.span.correction }) u 119 (if up then 1 else 2) := by
    cases up <;> exact State.writePoint_written _ 119 _
  have hspan : u.span = { began with correction := s.span.correction } := hu.drifts.1.blocks.2.2.2.2.1
  have hw : PointWritten (u.setSpan began) (u.setCorrection .acquire) 118 0 := by
    unfold State.setCorrection
    rw [hspan]
    exact State.writePoint_written _ 118 0
  obtain ⟨-, -, -, -, hwspan, hwunit⟩ := hw.drifts.1.blocks
  have huunit : u.unit = s.unit := hu.drifts.1.blocks.2.2.2.2.2
  have hpoint := started_points hu hw
  have hmoving : Moving (u.setCorrection .acquire) := by
    unfold Moving
    rw [hwspan]
    cases up <;> simp [began]
  have hskew : SkewKnown (u.setCorrection .acquire) r ↔ SkewKnown s r := by
    unfold SkewKnown
    rw [hwspan, (hpoint _).1, (hpoint _).1]
    rfl
  have hwatches := State.startWatches_watch (u.setCorrection .acquire) l r hmoving (by rw [hwspan]; exact hr)
    (by rw [hwunit]; exact huunit ▸ hl)
  rw [(hpoint 125).2 (by decide) (by decide), hskew] at hwatches
  rw [s.firstStart_limited l r x up hmode hcauses hl]
  exact ⟨u, _, hu, hw, hwatches⟩

/-- Settles O40: a first START begins the motion with its watches, a later one is judged by its direction. -/
theorem startsAreSupervised : Obligations.StartsAreSupervised := by
  intro s node cls
  refine ⟨s.startDone_other node cls, fun r x up hr hstart => ?_⟩
  obtain ⟨hfirst, hsame, hopposed, hstopping⟩ := s.startDone_start node cls r x up hr hstart
  refine ⟨fun h hno => ?_, fun h hmode hcauses hl => ?_, fun l h hmode hcauses hl => ?_, fun h => ?_, fun l h hl => ?_,
    fun h => ?_⟩
  · rw [hfirst h, s.firstStart_barred r x up hno]
  · rw [hfirst h, s.firstStart_unlimited r x up hr hmode hcauses hl]
  · rw [hfirst h]
    exact s.firstStart_begins l r x up hr hmode hcauses hl
  · rw [hsame h, State.laterStart, if_pos rfl]
    refine ⟨fun w hw hne => ?_, fun hown => ?_⟩
    · rw [hw]
      exact if_neg hne
    · cases hw : s.span.startWindow with
      | none => rfl
      | some w => exact if_pos (hown w hw)
  · rw [hopposed h]
    exact s.motionStop_stopped l r .startFailed (by rw [Moving, h]; cases up <;> simp) hr hl
  · rw [hstopping h]
    exact (s.placeStop_eq x r hr).trans (by cases x <;> rfl)

end Sys2Proof.Machine
end

section
/-! ### A run of advances (07:R126, R128) -/

namespace Sys2Proof.Machine

/-! #### The advance test -/

/-- What makes a phase ready to advance (07:R128). -/
theorem State.ready_iff (s : State) : s.ready = true ↔ PhaseReady s := by
  have hproven : s.advanceProven = true
      ↔ ∀ e c, look s.seq.table s.seq.phase.num none = some e → e.advance = some c → standsTrue s.cond.states c = true := by
    unfold State.advanceProven State.phaseEntry
    cases look s.seq.table s.seq.phase.num none with
    | none => simp
    | some e =>
      have hentry : (∀ e' c, some e = some e' → e'.advance = some c → standsTrue s.cond.states c = true)
          ↔ ∀ c, e.advance = some c → standsTrue s.cond.states c = true :=
        ⟨fun h c => h e c rfl, fun h e' c he => by cases he; exact h c⟩
      rw [hentry]
      dsimp only
      cases e.advance <;> simp
  have hneeds : s.phaseNeeds = true ↔ (s.seq.phase = .roadOpen → s.seq.request = .openRequest)
      ∧ (s.seq.phase = .channelOpen → s.seq.request = .closeRequest)
      ∧ (s.seq.phase = .channelClosing → s.chan.state = .closed) := by
    unfold State.phaseNeeds
    cases s.seq.phase <;> simp
  unfold State.ready PhaseReady
  simp only [Bool.and_eq_true, hproven, hneeds, Phase.working_iff, Working, List.all_eq_true, beq_iff_eq]
  tauto

/-- The successor of a working phase (07:R128). -/
theorem mem_successors (recovery : Bool) (p q : Phase) :
    (p, q) ∈ successors recovery ↔ Working p ∧ q = p.successor recovery := by
  cases p <;> simp [successors, Working, Phase.successor]

/-- No OPEN and no CLOSE waits for phases 0 and 6 (07:R128). -/
def NoRequest (s : State) : Prop := s.seq.request = .none

/-- While no OPEN and no CLOSE waits, phases 0 and 6 do not advance (07:R128). -/
theorem State.ready_unrequested (s : State) (h : NoRequest s) (hr : s.ready = true) :
    Working s.seq.phase ∧ s.seq.phase ≠ .roadOpen ∧ s.seq.phase ≠ .channelOpen := by
  obtain ⟨hhalted, hinactive, -, -, -, hopen, hclose, -⟩ := s.ready_iff.mp hr
  unfold NoRequest at h
  rw [h] at hopen hclose
  exact ⟨⟨hhalted, hinactive⟩, fun hp => (nomatch hopen hp), fun hp => nomatch hclose hp⟩

/-! #### An entry leaves no request -/

theorem State.channelEvent_request (s : State) (advance : State → State) (p : Phase) (hs : NoRequest s)
    (ha : ∀ t, NoRequest t → NoRequest (advance t)) : NoRequest (s.channelEvent advance fun s => s.channelPhase p) := by
  have hphase : NoRequest (s.channelPhase p) := by
    unfold NoRequest
    rw [← show s.seq.request = .none from hs]
    simp
  have hadvanced := ha _ hphase
  unfold State.channelEvent
  dsimp only
  split
  · exact hphase
  · split
    · unfold NoRequest at hadvanced ⊢
      simp [hadvanced]
    · exact hadvanced

theorem State.phaseHandMode_request (s : State) (p : Phase) (hs : NoRequest s) : NoRequest (s.phaseHandMode p) := by
  unfold State.phaseHandMode
  split
  · rw [s.enterMaintenance_eq, State.sequencerInactive_eq]
    simp [NoRequest, Sequencer.deactivated]
  · exact hs

theorem State.phaseFault_request (s : State) (cause : PhaseCause) (hs : NoRequest s) : NoRequest (s.phaseFault cause) := by
  unfold State.phaseFault State.haltPhase
  split
  · refine State.phaseHandMode_request _ _ (State.channelEvent_request _ _ _ ?_ fun _ h => h)
    simp [NoRequest]
  · exact hs

theorem offerEntries_request (serial : BitVec 16) (os : List EntryOrder) (i : Nat) (s : State) (hs : NoRequest s) :
    NoRequest (offerEntries serial i os s) := by
  induction os generalizing i s with
  | nil => exact hs
  | cons o os ih =>
    have hoffer : NoRequest (s.offerOwn (.sequencer serial i) o.node o.cls o.arg).1 := by
      unfold NoRequest
      rw [← show s.seq.request = .none from hs]
      simp
    rw [offerEntries_cons]
    dsimp only
    split
    · exact ih _ _ (by simpa [NoRequest] using hoffer)
    · exact State.phaseFault_request _ _ hoffer

/-! #### The bound of a run of advances (log 27) -/

/-- The most entries that a run of advances from phase p makes, where no request waits: it ends at phase 0 or 6. -/
def Phase.run : Phase → Nat
  | .roadOpen => 1
  | .warning => 9
  | .entryGates => 8
  | .exitGates => 7
  | .roadProof => 6
  | .lifting => 2
  | .channelOpen => 1
  | .channelClosing => 6
  | .lowering => 5
  | .seating => 4
  | .gatesRaising => 3
  | .roadRelease => 2
  | .halted => 1
  | .inactive => 1

theorem Phase.run_pos (p : Phase) : 1 ≤ p.run := by cases p <;> simp [Phase.run]

theorem Phase.run_successor (p : Phase) (recovery : Bool) (hw : Working p) (h0 : p ≠ .roadOpen) (h6 : p ≠ .channelOpen) :
    (p.successor recovery).run < p.run := by
  cases p <;> cases recovery <;> simp_all [Phase.run, Phase.successor, Working]

theorem Phase.run_le (p : Phase) : p.run ≤ 9 := by cases p <;> simp [Phase.run]

/-- The advance test with two entries that agree where it uses them. -/
theorem State.advanceWith_congr (s : State) (enter enter' : Phase → PhaseCause → State → State)
    (h : s.ready = true → ∀ c t, enter (s.seq.phase.successor s.seq.recovery) c t
      = enter' (s.seq.phase.successor s.seq.recovery) c t) : s.advanceWith enter = s.advanceWith enter' := by
  unfold State.advanceWith
  split
  · rename_i hr
    exact h hr _ _
  · rfl

/-- An event of the Channel Controller with two advance tests that agree where it uses them. -/
theorem State.channelEvent_congr (s : State) (a b : State → State) (f : State → State) (h : a (f s) = b (f s)) :
    s.channelEvent a f = s.channelEvent b f := by
  unfold State.channelEvent
  dsimp only
  rw [h]

/-- An entry into a phase, up to its hand-overs (07:R126). -/
def State.entryHanded (s : State) (p : Phase) (cause : PhaseCause) (advance : State → State) : State :=
  (((s.beginEntry p).phaseBase p cause).channelEvent advance fun s => s.channelPhase p).phaseHandMode p

/-- An entry into a phase (07:R126): its hand-overs, then the offers and the advance test while the phase is still p. -/
theorem enterPhase_succ (fuel : Nat) (p : Phase) (cause : PhaseCause) (s : State) :
    enterPhase (fuel + 1) p cause s =
      let c := s.entryHanded p cause (State.advanceWith (enterPhase fuel))
      if c.seq.phase = p then
        if (c.offerPhase p).seq.phase = p then (c.offerPhase p).advanceWith (enterPhase fuel) else c.offerPhase p
      else c := rfl

theorem State.offerPhase_request (s : State) (p : Phase) (hs : NoRequest s) : NoRequest (s.offerPhase p) := by
  unfold State.offerPhase
  split
  · exact offerEntries_request _ _ _ _ hs
  · exact hs

theorem State.advanceWith_request (s : State) (enter : Phase → PhaseCause → State → State) (hs : NoRequest s)
    (he : ∀ p c t, NoRequest t → NoRequest (enter p c t)) : NoRequest (s.advanceWith enter) := by
  unfold State.advanceWith
  split
  · exact he _ _ _ hs
  · exact hs

theorem State.entryHanded_request (s : State) (p : Phase) (cause : PhaseCause) (advance : State → State)
    (ha : ∀ t, NoRequest t → NoRequest (advance t)) : NoRequest (s.entryHanded p cause advance) :=
  State.phaseHandMode_request _ _ (State.channelEvent_request _ _ _ (by simp [NoRequest, State.beginEntry]) ha)

theorem enterPhase_request (fuel : Nat) (p : Phase) (cause : PhaseCause) (s : State) (hs : NoRequest s) :
    NoRequest (enterPhase fuel p cause s) := by
  induction fuel generalizing p cause s with
  | zero => exact hs
  | succ fuel ih =>
    have hadvance : ∀ t, NoRequest t → NoRequest (t.advanceWith (enterPhase fuel)) :=
      fun t ht => t.advanceWith_request _ ht fun p c t ht => ih p c t ht
    have hhanded := s.entryHanded_request p cause _ hadvance
    rw [enterPhase_succ]
    dsimp only
    split
    · split
      · exact hadvance _ (State.offerPhase_request _ p hhanded)
      · exact State.offerPhase_request _ p hhanded
    · exact hhanded

/-- The bound of a run of advances does not matter where it reaches the run's length (log 27). -/
theorem enterPhase_fuel (fuel : Nat) (p : Phase) (cause : PhaseCause) (s : State) :
    p.run ≤ fuel → enterPhase (fuel + 1) p cause s = enterPhase fuel p cause s := by
  induction fuel generalizing p cause s with
  | zero => exact fun h => absurd (Nat.le_trans p.run_pos h) (by decide)
  | succ fuel ih =>
    intro hrun
    have hadvance : ∀ t, NoRequest t → t.seq.phase = p →
        t.advanceWith (enterPhase (fuel + 1)) = t.advanceWith (enterPhase fuel) := fun t ht hp =>
      t.advanceWith_congr _ _ fun hr c u => by
        obtain ⟨hw, h0, h6⟩ := t.ready_unrequested ht hr
        have hshorter := Phase.run_successor _ t.seq.recovery hw h0 h6
        rw [hp] at hshorter
        rw [hp]
        exact ih _ c u (by omega)
    have hhanded : s.entryHanded p cause (State.advanceWith (enterPhase (fuel + 1)))
        = s.entryHanded p cause (State.advanceWith (enterPhase fuel)) :=
      congrArg (State.phaseHandMode · p) (State.channelEvent_congr _ _ _ _
        (hadvance _ (by simp [NoRequest, State.beginEntry]) (by simp [State.phaseBase])))
    have hrequest := s.entryHanded_request p cause (State.advanceWith (enterPhase fuel)) fun t ht =>
      t.advanceWith_request _ ht fun p c t ht => enterPhase_request fuel p c t ht
    rw [enterPhase_succ, enterPhase_succ, hhanded]
    dsimp only
    split
    · split
      · rename_i hphase
        exact hadvance _ (State.offerPhase_request _ p hrequest) hphase
      · rfl
    · rfl

/-- The advance test inside an entry is the advance test (07:R126, R128). -/
theorem State.advanceWith_entry (s : State) : s.advanceWith (enterPhase 13) = s.advanceTest :=
  s.advanceWith_congr _ _ fun _ c t => (enterPhase_fuel 13 _ c t (Nat.le_trans (Phase.run_le _) (by decide))).symm

/-- An entry into a phase, with the advance test (07:R126). -/
theorem State.enter_eq (s : State) (p : Phase) (cause : PhaseCause) :
    s.enter p cause =
      let c := s.entryHanded p cause State.advanceTest
      if c.seq.phase = p then
        if (c.offerPhase p).seq.phase = p then (c.offerPhase p).advanceTest else c.offerPhase p
      else c := by
  have hadvance : State.advanceWith (enterPhase 13) = State.advanceTest := funext State.advanceWith_entry
  show enterPhase (13 + 1) p cause s = _
  rw [enterPhase_succ, hadvance]

end Sys2Proof.Machine
end

section
/-! ### The entry into a phase, and the advance test (07:R125, R126, R128) -/

namespace Sys2Proof.Machine

/-- Entry orders are offered in listed order (07:R126). -/
theorem offerEntries_offered (serial : BitVec 16) (i : Nat) (os : List EntryOrder) (s : State) :
    EntriesOffered serial i os s (offerEntries serial i os s) := by
  induction os generalizing i s with
  | nil => rfl
  | cons o os ih =>
    rw [offerEntries_cons]
    refine ⟨fun x h => ?_, fun n p h => ?_⟩
    · rw [s.offerOwn_refused _ _ _ _ x h]
      exact State.phaseFault_faults _ .entryRefused
    · rw [s.offerOwn_admitted _ _ _ _ n p h]
      exact ih _ _

/-- The Channel Controller takes a phase handed to it (07:R125, 08:R149, R152). -/
theorem State.channelEvent_takes (s : State) (p : Phase) :
    (s.channelEvent State.advanceTest fun s => s.channelPhase p) = ChannelTakes s p := by
  by_cases h6 : p = .channelOpen
  · subst h6
    exact s.channelStep_of_state (fun s => s.channelPhase .channelOpen) (State.openingTest_state _)
  · by_cases h7 : p = .channelClosing
    · subst h7
      rfl
    · rw [s.channelEvent_phase _ p h6 h7]
      unfold ChannelTakes
      split
      · exact absurd rfl h6
      · exact absurd rfl h7
      · rfl

/-- The entry of a phase, one without orders and times where none is present (07:R122, R126). -/
def State.entryOf (s : State) (p : Phase) : PhaseEntry :=
  (look s.seq.table p.num none).getD { orders := [], advance := none, dwell := 0, limit := 0, proof := none }

/-- The sequencer as steps 1 and 2 of an entry leave it (07:R126). -/
def State.entrySeq (s : State) (p : Phase) : Sequencer :=
  { s.seq with
    interrupted := none, request := .none, recovery := s.seq.recovery && decide (p ≠ .roadOpen)
    serial := s.seq.serial + 1, tracking := (s.entryOf p).orders.map fun _ => .notOffered
    dwell := if (s.entryOf p).dwell = 0 then .elapsed else .running (s.now + BitVec.ofNat 32 (s.entryOf p).dwell)
    limit := if (s.entryOf p).limit = 0 then none
      else some (s.now + BitVec.ofNat 32 ((s.entryOf p).limit * 1000)) }

theorem State.beginEntry_eq (s : State) (p : Phase) : s.beginEntry p = s.setSeq (s.entrySeq p) := by
  have hrecovery : (p != .roadOpen) = decide (p ≠ .roadOpen) := by cases p <;> rfl
  unfold State.beginEntry State.entrySeq State.entryOf State.phaseEntry
  rw [hrecovery]
  cases look s.seq.table p.num none <;> rfl

/-- The entry orders of the phase just entered are offered (07:R126, step 4). -/
theorem State.offerPhase_offered (s : State) (p : Phase) :
    EntriesOffered s.seq.serial 0 (s.entryOf p).orders s (s.offerPhase p) := by
  unfold State.offerPhase State.entryOf State.phaseEntry
  cases look s.seq.table p.num none with
  | none => rfl
  | some e => exact offerEntries_offered _ 0 e.orders s

theorem State.entryHanded_table (s : State) (p : Phase) (cause : PhaseCause) :
    (s.entryHanded p cause State.advanceTest).seq.table = s.seq.table := by
  unfold State.entryHanded State.channelEvent
  dsimp only
  split
  · simp
  · split <;> simp

/-- The hand-overs of an entry (07:R125, R126). -/
theorem State.entryHanded_eq (s : State) (p : Phase) (cause : PhaseCause) :
    s.entryHanded p cause State.advanceTest
      = (ChannelTakes ((s.setSeq (s.entrySeq p)).phaseBase p cause) p).phaseHandMode p := by
  unfold State.entryHanded
  rw [State.channelEvent_takes, s.beginEntry_eq]

/-- An entry into a phase (07:R126). -/
theorem State.enter_enters (s : State) (p : Phase) (cause : PhaseCause) : EntersPhase s (s.enter p cause) p cause := by
  let b := (s.setSeq (s.entrySeq p)).phaseBase p cause
  let c := s.entryHanded p cause State.advanceTest
  have hc : c = (ChannelTakes b p).phaseHandMode p := s.entryHanded_eq p cause
  have htable : c.entryOf p = s.entryOf p := by
    unfold State.entryOf
    rw [s.entryHanded_table p cause]
  refine ⟨b, c, c.offerPhase p, State.phaseBase_changed _ p cause, ?_, fun h => ?_, fun h => ⟨?_, fun hd => ?_, fun hd => ?_⟩⟩
  · rw [hc]
    exact State.phaseHandMode_takes _ p
  · rw [s.enter_eq]
    exact if_neg h
  · have := c.offerPhase_offered p
    rw [htable] at this
    exact this
  · rw [s.enter_eq]
    exact (if_pos h).trans (if_neg hd)
  · rw [s.enter_eq]
    exact (if_pos h).trans (if_pos hd)

/-- The advance test (07:R128). -/
theorem State.advanceTest_advances (s : State) : Advances s s.advanceTest := by
  refine ⟨fun h => if_neg (mt s.ready_iff.mp h), fun q h hq => ?_⟩
  obtain ⟨-, rfl⟩ := (mem_successors _ _ q).mp hq
  have hadvance : s.advanceTest = (s.setSeq { s.seq with limit := none }).enter (s.seq.phase.successor s.seq.recovery) .advance :=
    if_pos (s.ready_iff.mpr h)
  rw [hadvance]
  exact State.enter_enters _ _ .advance

/-! ### An entry that dwells, and the results of entry orders (07:R126, R127) -/

/-- A phase that dwells is not ready (07:R128). -/
theorem State.advanceTest_dwelling (s : State) (x : Time) (h : s.seq.dwell = .running x) : s.advanceTest = s :=
  s.advanceTest_advances.1 fun ⟨_, _, _, hdwell, _⟩ => nomatch h.symm.trans hdwell

/-- The sequencer keeps all but what is handed to it from outside. -/
def SequencerKept (q r : Sequencer) : Prop := r = { q with sets := r.sets, standdowns := r.standdowns }

theorem State.openingTest_keeps (s : State) : SequencerKept s.seq s.openingTest.seq := by
  obtain ⟨h1, h2, h3, h4, h5, h6, h7, h8, h9⟩ := s.openingTest_seq
  unfold SequencerKept
  rw [← h1, ← h2, ← h3, ← h4, ← h5, ← h6, ← h7, ← h8, ← h9]

theorem State.close_keeps (s : State) : SequencerKept s.seq s.close.seq := by
  obtain ⟨h1, h2, h3, h4, h5, h6, h7, h8, h9⟩ := s.close_seq
  unfold SequencerKept
  rw [← h1, ← h2, ← h3, ← h4, ← h5, ← h6, ← h7, ← h8, ← h9]

/-- A close whose phase dwells moves nothing of the crossing (07:R128, 08:R152). -/
theorem State.closed_keeps (s : State) (x : Time) (h : s.seq.dwell = .running x) :
    SequencerKept s.seq (ChannelDone s s.close).seq
      ∧ (ChannelDone s s.close).unit.maintenancePending = s.unit.maintenancePending := by
  have hdwell : s.close.seq.dwell = .running x := by simp [h]
  unfold ChannelDone
  rw [State.advanceTest_dwelling _ x hdwell]
  have hopened := s.close.openingTest_keeps
  have hclosed := s.close_keeps
  split
  · exact ⟨hclosed, by simp⟩
  · split
    · refine ⟨?_, by simp⟩
      unfold SequencerKept at hopened hclosed ⊢
      rw [hopened, hclosed]
    · exact ⟨hclosed, by simp⟩

/-- What the Channel Controller does with the phase of an entry that dwells (07:R125). -/
theorem ChannelTakes.keeps (s : State) (p : Phase) (x : Time) (h : s.seq.dwell = .running x) :
    SequencerKept s.seq (ChannelTakes s p).seq
      ∧ (ChannelTakes s p).unit.maintenancePending = s.unit.maintenancePending := by
  unfold ChannelTakes
  dsimp only
  split
  · exact ⟨State.openingTest_keeps _, by simp⟩
  · exact State.closed_keeps (s.setChan _) x h
  · exact ⟨rfl, rfl⟩

/-- Phases other than 6 and 7 are handed to the channel, and no more (07:R125). -/
theorem ChannelTakes.eq_handed (s : State) (p : Phase) (h6 : p ≠ .channelOpen) (h7 : p ≠ .channelClosing) :
    ChannelTakes s p = s.setChan { s.chan with phaseSeen := p } :=
  (s.channelEvent_takes p).symm.trans (s.channelEvent_phase _ p h6 h7)

/-- An entry without orders offers nothing (07:R126). -/
theorem State.offerPhase_unordered (s : State) (p : Phase) (e : PhaseEntry) (he : look s.seq.table p.num none = some e)
    (horders : e.orders = []) : s.offerPhase p = s := by
  unfold State.offerPhase State.phaseEntry
  rw [he]
  dsimp only
  rw [horders]
  rfl

/-- The entry into a phase whose entry holds no orders and a dwell (07:R126). -/
theorem State.enter_dwells (s : State) (p : Phase) (cause : PhaseCause) (e : PhaseEntry) (he : HasEntry s p e [])
    (hg : s.points.gather = none) (hp : s.unit.maintenancePending = false) : Enters s (s.enter p cause) p cause e := by
  obtain ⟨hlook, horders, hdwell⟩ := he
  have hentry : s.entryOf p = e := by
    unfold State.entryOf
    rw [hlook]
    rfl
  let b := (s.setSeq (s.entrySeq p)).phaseBase p cause
  have hb : PhaseMoves (s.setSeq (s.entrySeq p)) b p cause := (State.phaseBase_changed _ p cause).moves
  have hrunning : b.seq.dwell = .running (s.now + BitVec.ofNat 32 e.dwell) := by
    rw [hb.seq]
    show (s.entrySeq p).dwell = _
    rw [State.entrySeq, hentry]
    exact if_neg (Nat.ne_of_gt hdwell)
  obtain ⟨hkept, hpending⟩ := ChannelTakes.keeps b p _ hrunning
  have hnone : (ChannelTakes b p).unit.maintenancePending = false := by
    rw [hpending, ← hp]
    exact congrArg ModeChain.maintenancePending hb.power.2.2.2.1
  have hhanded : s.entryHanded p cause State.advanceTest = ChannelTakes b p :=
    (s.entryHanded_eq p cause).trans ((State.phaseHandMode_takes _ p).idle hnone)
  have hseq : (ChannelTakes b p).seq = EnteredPhase s (ChannelTakes b p) p e [] := by
    unfold SequencerKept at hkept
    rw [hkept, hb.seq]
    show ({ ({ s.entrySeq p with phase := p, sets := _ } : Sequencer) with sets := _, standdowns := _ } : Sequencer) = _
    rw [State.entrySeq, hentry, horders]
    simp only [EnteredPhase, if_neg (Nat.ne_of_gt hdwell), List.map_nil]
  have hoffers : (ChannelTakes b p).offerPhase p = ChannelTakes b p := by
    refine State.offerPhase_unordered _ p e ?_ horders
    rw [hseq]
    exact hlook
  have henter : s.enter p cause = ChannelTakes b p := by
    rw [s.enter_eq, hhanded]
    dsimp only
    rw [hoffers, State.advanceTest_dwelling _ _ (by rw [hseq]; rfl), ite_self, ite_self]
  rw [henter]
  refine ⟨hseq, fun h6 h7 => ?_⟩
  rw [ChannelTakes.eq_handed b p h6 h7]
  exact ⟨(hb.handed hg).of_setSeq, hb.gate⟩

/-- The limit that the advance test takes away is none of the entry that follows (07:R126, R128). -/
theorem Enters.of_unlimited {s t : State} {p : Phase} {cause : PhaseCause} {e : PhaseEntry}
    (h : Enters (s.setSeq { s.seq with limit := none }) t p cause e) : Enters s t p cause e := by
  obtain ⟨hseq, hhanded⟩ := h
  refine ⟨hseq, fun h6 h7 => ?_⟩
  obtain ⟨hhanded, hgate⟩ := hhanded h6 h7
  exact ⟨hhanded.of_setSeq, hgate⟩

/-- A result of an entry order of the present entry that failed on the link, or was REVOKED, faults the phase (07:R127). -/
theorem State.entryResult_failed (s : State) (serial : BitVec 16) (place : Nat) (x : Result)
    (hcurrent : s.currentResult serial = true) (hx : FailedOnLink x ∨ x = .revoked) :
    s.entryResult serial place x = s.phaseFault .entryFailed := by
  unfold State.entryResult
  rw [if_pos hcurrent]
  rcases hx with (rfl | rfl | rfl | rfl) | rfl <;> rfl

/-- Settles O44: the results of entry orders by their kind, and the offers one by one. -/
theorem entryOrdersEnd : Obligations.EntryOrdersEnd := by
  refine ⟨?_, ?_⟩
  · intro s serial place x t placed
    refine ⟨fun h => if_neg fun hc => ?_, fun hs hw => ?_⟩
    · obtain ⟨hs, hw⟩ := (s.currentResult_iff serial).mp hc
      exact h.elim (· hs) (· hw)
    · have hcurrent := (s.currentResult_iff serial).mpr ⟨hs, hw⟩
      have hdone : x = .done → t = (placed .done).advanceTest := by
        rintro rfl
        exact if_pos hcurrent
      refine ⟨?_, fun hx => ?_, fun hx => ?_, fun p e hx hready hsucc he hg hp => ?_⟩
      · rintro rfl
        exact if_pos hcurrent
      · have hfault : Faults s t .entryFailed := by
          rw [show t = _ from s.entryResult_failed serial place x hcurrent hx]
          exact s.phaseFault_faults .entryFailed
        exact ⟨hfault, hfault.halts hw⟩
      · rw [hdone hx]
        exact ⟨rfl, State.advanceTest_advances _⟩
      · obtain ⟨-, rfl⟩ := (mem_successors _ _ p).mp hsucc
        have henter : t = ((placed .done).setSeq { (placed .done).seq with limit := none }).enter
            (s.seq.phase.successor s.seq.recovery) .advance := by
          rw [hdone hx]
          exact if_pos ((State.ready_iff _).mpr hready)
        rw [henter]
        exact Enters.of_unlimited (State.enter_dwells _ _ .advance e he hg hp)
  · intro s p
    refine ⟨fun h => ?_, fun e he => ?_⟩
    · unfold State.offerPhase State.phaseEntry
      rw [h]
    · have hoffered := s.offerPhase_offered p
      unfold State.entryOf at hoffered
      rw [he] at hoffered
      refine ⟨hoffered, fun o rest x horders hw hg hp href => ?_⟩
      rw [show (some e).getD _ = e from rfl, horders] at hoffered
      exact (hoffered.1 x href).halts (by simpa using hw) (by simpa using hg) (by simpa using hp)

end Sys2Proof.Machine
end

section
/-! ### The Span Supervisor over the events of the other blocks (06:R120) -/

namespace Sys2Proof.Machine

/-- The chain stays allowed from s to t: MAINTENANCE and SERVICE do not end in INIT, and an empty cause set stays empty
(06:R120). -/
def ChainStays (s t : State) : Prop :=
  (s.unit.mode ≠ .init → t.unit.mode ≠ .init) ∧ (s.unit.causes = CauseSet.empty → t.unit.causes = CauseSet.empty)

/-- From s to t the Span Supervisor has stood down, or nothing of it has moved and the chain stays allowed (06:R120). -/
def SpanHeld (s t : State) : Prop := t.span = StoodDown s.span ∨ t.span = s.span ∧ ChainStays s t

theorem ChainStays.trans {s t u : State} (h : ChainStays s t) (g : ChainStays t u) : ChainStays s u :=
  ⟨fun hs => g.1 (h.1 hs), fun hs => g.2 (h.2 hs)⟩

theorem ChainStays.of_unit {s t : State} (h : t.unit = s.unit) : ChainStays s t := by simp [ChainStays, h]

theorem SpanHeld.of_eq {s t : State} (hspan : t.span = s.span) (hunit : t.unit = s.unit) : SpanHeld s t :=
  .inr ⟨hspan, .of_unit hunit⟩

theorem SpanHeld.refl (s : State) : SpanHeld s s := .of_eq rfl rfl

theorem SpanHeld.trans {s t u : State} (h : SpanHeld s t) (g : SpanHeld t u) : SpanHeld s u := by
  rcases h with h | ⟨h, hc⟩
  · refine .inl ?_
    rcases g with g | ⟨g, -⟩
    · rw [g, h]
      rfl
    · rw [g, h]
  · rcases g with g | ⟨g, gc⟩
    · exact .inl (by rw [g, h])
    · exact .inr ⟨g.trans h, hc.trans gc⟩

/-- A choice between two courses. -/
theorem SpanHeld.ite {s t u : State} {c : Prop} [Decidable c] (h : SpanHeld s t) (g : SpanHeld s u) :
    SpanHeld s (if c then t else u) := by
  split
  · exact h
  · exact g

/-! ### Stand-down -/

/-- The Span Supervisor as it stands down (06:R120). -/
theorem State.spanStandDown_stoodDown (s : State) : s.spanStandDown.span = StoodDown s.span := by
  simp [State.spanStandDown, State.setMotion, StoodDown]

theorem State.standDownEntry_stoodDown (s : State) (c : Cause) : (s.standDownEntry c).span = StoodDown s.span := by
  simp [State.standDownEntry, State.spanStandDown_stoodDown]

/-- A first cause stands the span down, a further one finds the cause set not empty (10:R176, R177). -/
theorem State.latchCause_held (s : State) (c : Cause) : SpanHeld s (s.latchCause c) := by
  unfold State.latchCause
  split
  · exact .refl s
  · split
    · exact .inl (State.standDownEntry_stoodDown _ c)
    · next h => exact .inr ⟨rfl, id, fun he => absurd ((CauseSet.isEmpty_iff _).mpr he) h⟩

/-! ### The Channel Controller -/

theorem State.redFailed_held (s : State) (d : Direction) : SpanHeld s (s.redFailed d) :=
  State.latchCause_held (s.setChan _) .channelSignal

theorem State.offerSignal_held (s : State) (d : Direction) (k : SignalKind) : SpanHeld s (s.offerSignal d k).1 :=
  .of_eq (by simp) (by simp)

theorem State.offerRed_held (s : State) (d : Direction) : SpanHeld s (s.offerRed d) := by
  rw [State.offerRed_eq]
  exact .ite (s.offerSignal_held d .red) ((s.offerSignal_held d .red).trans (State.redFailed_held _ d))

theorem State.offerRedOnce_held (s : State) (d : Direction) : SpanHeld s (s.offerRedOnce d) :=
  .ite (.refl s) (s.offerRed_held d)

theorem State.redResult_held (s : State) (d : Direction) (x : Result) : SpanHeld s (s.redResult d x) := by
  unfold State.redResult
  split
  · exact .of_eq (by simp) (by simp)
  · exact .ite (State.offerRed_held (s.setChan _) d) (.refl s)
  · exact State.redFailed_held (s.setChan _) d

theorem State.greenFailed_held (s : State) (d : Direction) (x : Result) : SpanHeld s (s.greenFailed d x) := by
  unfold State.greenFailed
  dsimp only
  have hretry : SpanHeld s (if (s.alert (.channelGreenFailed d)).chan.closing then s.alert (.channelGreenFailed d)
      else (s.alert (.channelGreenFailed d)).greenRetry) :=
    .ite (.of_eq (by simp) (by simp)) (.of_eq (by simp) (by simp))
  exact .ite (hretry.trans (State.offerRedOnce_held (State.setChan _ _) d)) hretry

theorem State.offerGreen_held (s : State) (d : Direction) : SpanHeld s (s.offerGreen d) := by
  rw [State.offerGreen_eq]
  split
  · exact s.offerSignal_held d .green
  · exact (s.offerSignal_held d .green).trans (State.greenFailed_held _ d _)

theorem State.greenResult_held (s : State) (d : Direction) (x : Result) : SpanHeld s (s.greenResult d x) := by
  unfold State.greenResult
  split
  · exact .ite (.refl s) (.of_eq (by simp) (by simp))
  · exact .refl s
  · exact State.greenFailed_held (s.setChan _) d x

theorem State.openingTest_held (s : State) : SpanHeld s s.openingTest := by
  unfold State.openingTest
  split
  · exact .refl s
  · exact .ite (s.offerGreen_held _) (.refl s)

theorem State.changeoverTest_held (s : State) : SpanHeld s s.changeoverTest := by
  unfold State.changeoverTest
  split
  · exact .refl s
  · exact .ite (State.offerRed_held (s.setChan _) _) (.refl s)

theorem State.queueTests_held (s : State) : SpanHeld s s.queueTests :=
  s.openingTest_held.trans (State.changeoverTest_held _)

theorem State.setVessels_held (s : State) (vs : List Vessel) : SpanHeld s (s.setVessels vs) :=
  .of_eq (by simp) (by simp)

theorem State.joinVessel_held (s : State) (tag : Nat) (d : Direction) : SpanHeld s (s.joinVessel tag d) :=
  (s.setVessels_held _).trans (State.queueTests_held _)

theorem State.removeVessel_held (s : State) (tag : Nat) : SpanHeld s (s.removeVessel tag) :=
  (s.setVessels_held _).trans (State.queueTests_held _)

theorem State.vesselCall_held (s : State) (tag direction : Nat) : SpanHeld s (s.vesselCall tag direction) := by
  unfold State.vesselCall
  refine .ite (.refl s) ?_
  split
  · exact .refl s
  · exact .ite (.refl s) (.ite (.of_eq (by simp) (by simp)) (s.joinVessel_held tag _))

theorem State.vesselPassage_held (s : State) (d : Direction) : SpanHeld s (s.vesselPassage d) :=
  .ite (.trans (.of_eq (by simp) (by simp)) (State.queueTests_held _)) (.of_eq (by simp) (by simp))

theorem State.passages_held (s : State) (set : ChangeSet) : SpanHeld s (s.passages set) := by
  unfold State.passages
  split
  · exact .refl s
  · next r _ =>
    have hnorth : SpanHeld s (if set.contains (r.northPassage, true) then s.vesselPassage .north else s) :=
      .ite (s.vesselPassage_held .north) (.refl s)
    exact .ite (hnorth.trans (State.vesselPassage_held _ .south)) hnorth

theorem State.changeoverEnd_held (s : State) : SpanHeld s s.changeoverEnd := by
  unfold State.changeoverEnd
  split
  · exact s.offerGreen_held _
  · exact .of_eq (by simp) (by simp)

theorem State.closeRed_held (s : State) (due : Bool) (d : Direction) : SpanHeld s (s.closeRed due d) :=
  .ite (s.offerRedOnce_held d) (.refl s)

theorem State.close_held (s : State) : SpanHeld s s.close := by
  refine .ite (.of_eq (by simp) (by simp)) (.trans ?_ (State.closeRed_held _ _ .south))
  exact State.closeRed_held (s.setChan _) _ .north

theorem State.channelService_held (s : State) : SpanHeld s s.channelService := by
  refine .trans ?_ (State.offerRedOnce_held _ .south)
  exact State.offerRedOnce_held (s.setChan _) .north

/-- An event of the Channel Controller holds the span where its two parts do (08:R144). -/
theorem State.channelEvent_held (s : State) (advance f : State → State) (hadvance : ∀ t, SpanHeld t (advance t))
    (hf : SpanHeld s (f s)) : SpanHeld s (s.channelEvent advance f) :=
  .ite hf (.ite (hf.trans ((hadvance _).trans (State.openingTest_held _))) (hf.trans (hadvance _)))

/-! ### Phases and modes -/

theorem State.phaseBase_held (s : State) (p : Phase) (cause : PhaseCause) : SpanHeld s (s.phaseBase p cause) :=
  .of_eq (by simp) (by simp)

theorem State.channelPhase_held (s : State) (p : Phase) : SpanHeld s (s.channelPhase p) := by
  unfold State.channelPhase
  split
  · exact State.openingTest_held (s.setChan _)
  · exact State.close_held (s.setChan _)
  · exact .refl s

/-- A change of mode into MAINTENANCE or SERVICE (10:R172). -/
theorem State.modeBase_held (s : State) (m : Mode) (hm : m ≠ .init) : SpanHeld s (s.modeBase m) := by
  refine .inr ⟨by simp, fun _ => ?_, fun h => by simpa using h⟩
  simpa [State.modeBase, ModeChain.settleChain] using hm

theorem State.sequencerInactive_held (s : State) : SpanHeld s s.sequencerInactive := by
  refine .trans ?_ (State.channelEvent_held _ id _ .refl (State.channelPhase_held _ .inactive))
  exact State.phaseBase_held (s.setSeq _) .inactive .mode

theorem State.enterMaintenance_held (s : State) : SpanHeld s s.enterMaintenance := by
  rw [s.enterMaintenance_eq]
  exact ((s.modeBase_held .maintenance (by decide)).trans (State.sequencerInactive_held _)).trans (State.close_held _)

theorem State.phaseHandMode_held (s : State) (p : Phase) : SpanHeld s (s.phaseHandMode p) :=
  .ite s.enterMaintenance_held (.refl s)

theorem State.haltPhase_held (s : State) (cause : PhaseCause) : SpanHeld s (s.haltPhase cause) :=
  ((s.phaseBase_held .halted cause).trans
    (State.channelEvent_held _ id _ .refl (State.channelPhase_held _ .halted))).trans (State.phaseHandMode_held _ .halted)

theorem State.phaseFault_held (s : State) (cause : PhaseCause) : SpanHeld s (s.phaseFault cause) :=
  .ite (State.haltPhase_held (s.setSeq _) cause) (.refl s)

/-- Entry orders are offered one by one, and a refusal faults the phase (07:R126). -/
theorem offerEntries_held (serial : BitVec 16) (i : Nat) (os : List EntryOrder) (s : State) :
    SpanHeld s (offerEntries serial i os s) := by
  induction os generalizing i s with
  | nil => exact .refl s
  | cons o os ih =>
    rw [offerEntries_cons]
    have hoffer : SpanHeld s (s.offerOwn (.sequencer serial i) o.node o.cls o.arg).1 := .of_eq (by simp) (by simp)
    exact .ite (hoffer.trans (ih (i + 1) (State.track _ i .awaiting))) (hoffer.trans (State.phaseFault_held _ _))

theorem State.offerPhase_held (s : State) (p : Phase) : SpanHeld s (s.offerPhase p) := by
  unfold State.offerPhase
  split
  · exact offerEntries_held _ 0 _ s
  · exact .refl s

theorem State.advanceWith_held (enter : Phase → PhaseCause → State → State) (henter : ∀ p c t, SpanHeld t (enter p c t))
    (s : State) : SpanHeld s (s.advanceWith enter) :=
  .ite (henter _ _ (s.setSeq _)) (.refl s)

theorem State.entryHanded_held (s : State) (p : Phase) (cause : PhaseCause) (advance : State → State)
    (hadvance : ∀ t, SpanHeld t (advance t)) : SpanHeld s (s.entryHanded p cause advance) := by
  have hbase : SpanHeld s ((s.beginEntry p).phaseBase p cause) := .of_eq (by simp) (by simp)
  exact (hbase.trans (State.channelEvent_held _ _ _ hadvance (State.channelPhase_held _ p))).trans
    (State.phaseHandMode_held _ p)

/-- A run of entries, by its bound (07:R126, log 27). -/
theorem enterPhase_held (fuel : Nat) (p : Phase) (cause : PhaseCause) (s : State) :
    SpanHeld s (enterPhase fuel p cause s) := by
  induction fuel generalizing p cause s with
  | zero => exact .refl s
  | succ fuel ih =>
    have hadvance := State.advanceWith_held (enterPhase fuel) ih
    rw [enterPhase_succ]
    have hhanded := s.entryHanded_held p cause _ hadvance
    have hoffered := hhanded.trans (State.offerPhase_held _ p)
    exact .ite (.ite (hoffered.trans (hadvance _)) hoffered) hhanded

theorem State.enter_held (s : State) (p : Phase) (cause : PhaseCause) : SpanHeld s (s.enter p cause) :=
  enterPhase_held entryBound p cause s

theorem State.advanceTest_held (s : State) : SpanHeld s s.advanceTest :=
  State.advanceWith_held _ (enterPhase_held entryBound) s

theorem State.channelStep_held (s : State) (f : State → State) (hf : SpanHeld s (f s)) : SpanHeld s (s.channelStep f) :=
  s.channelEvent_held _ f State.advanceTest_held hf

theorem State.entryResult_held (s : State) (serial : BitVec 16) (place : Nat) (x : Result) :
    SpanHeld s (s.entryResult serial place x) := by
  unfold State.entryResult
  refine .ite ?_ (.refl s)
  split
  case h_1 => exact State.advanceTest_held (s.track place .done)
  case h_2 => exact .refl s
  case h_8 => exact .refl s
  all_goals exact s.phaseFault_held .entryFailed

theorem State.adopt_held (s : State) : SpanHeld s s.adopt :=
  .ite (s.enter_held .roadOpen .adopted) (State.haltPhase_held (s.setSeq _) .adopted)

theorem State.enterService_held (s : State) : SpanHeld s s.enterService := by
  refine .trans (.trans (s.modeBase_held .service (by decide)) ?_)
    (State.channelStep_held _ _ (State.channelService_held _))
  exact State.adopt_held (State.setField _ _)

/-- At the entry to INIT the span stands down (06:R120). -/
theorem State.enterInit_held (s : State) : SpanHeld s s.enterInit := by
  refine .inl ?_
  show (s.modeBase .init).spanStandDown.span = _
  rw [State.spanStandDown_stoodDown]
  simp

theorem State.recover_held (s : State) : SpanHeld s s.recover := by
  refine .trans ?_ (State.enter_held _ .entryGates .recover)
  exact State.channelStep_held (s.setSeq _) _ (State.close_held _)

theorem State.keyOn_held (s : State) : SpanHeld s s.keyOn := by
  unfold State.keyOn
  split
  · exact s.modeBase_held .maintenance (by decide)
  · exact .refl s
  · exact .ite s.enterMaintenance_held (.inr ⟨by simp, by simp [ChainStays]⟩)

end Sys2Proof.Machine
end

section
/-! ### No motion begins but by a START (06:R113, R120) -/

namespace Sys2Proof.Machine

/-- From s to t no motion begins: a span that moves in t moved in s, and the chain has stayed allowed (06:R120). -/
def NoStart (s t : State) : Prop := Moving t → Moving s ∧ ChainStays s t

theorem NoStart.refl (s : State) : NoStart s s := fun h => ⟨h, .of_unit rfl⟩

theorem NoStart.trans {s t u : State} (h : NoStart s t) (g : NoStart t u) : NoStart s u := fun hu => by
  obtain ⟨ht, gc⟩ := g hu
  obtain ⟨hs, hc⟩ := h ht
  exact ⟨hs, hc.trans gc⟩

theorem NoStart.of_motion {s t : State} (hmotion : t.span.motion = s.span.motion) (hunit : t.unit = s.unit) :
    NoStart s t := fun h => by
  unfold Moving at h ⊢
  rw [hmotion] at h
  exact ⟨h, .of_unit hunit⟩

theorem NoStart.of_rest {s t : State} (h : ¬Moving t) : NoStart s t := fun ht => absurd ht h

/-- A span at rest stays at rest. -/
theorem NoStart.rest {s t : State} (h : NoStart s t) (hs : ¬Moving s) : ¬Moving t := fun ht => hs (h ht).1

theorem NoStart.ite {s t u : State} {c : Prop} [Decidable c] (h : NoStart s t) (g : NoStart s u) :
    NoStart s (if c then t else u) := by
  split
  · exact h
  · exact g

theorem SpanHeld.noStart {s t : State} (h : SpanHeld s t) : NoStart s t := by
  rcases h with h | ⟨h, hc⟩
  · exact .of_rest (by simp [Moving, h, StoodDown])
  · exact fun ht => ⟨by simpa [Moving, h] using ht, hc⟩

/-- Events of one kind after each other. -/
theorem NoStart.foldl {α : Type} (f : State → α → State) (hf : ∀ t x, NoStart t (f t x)) (xs : List α) (s : State) :
    NoStart s (xs.foldl f s) := by
  induction xs generalizing s with
  | nil => exact .refl s
  | cons x xs ih => exact (hf s x).trans (ih _)

/-- An event of the Point Image starts a motion only where what it does starts one. -/
theorem State.pointEvent_noStart (s : State) (f : State → State) (hf : ∀ t, NoStart t (f t)) :
    NoStart s (s.pointEvent f) := by
  cases hg : s.points.gather with
  | some ns =>
    rw [s.pointEvent_gathering f ns hg]
    exact hf s
  | none =>
    rw [s.pointEvent_idle f hg]
    have hevent : NoStart s (f (s.gathering [])) := hf (s.gathering [])
    exact hevent.trans (.of_motion (by simp) (by simp))

/-! ### Motion stops -/

theorem State.setMotion_motion (s : State) (m : MotionState) : (s.setMotion m).span.motion = m := by
  simp [State.setMotion]

theorem State.beginStopping_motion (s : State) (k : StopKind) : (s.beginStopping k).span.motion = .stopping :=
  State.setMotion_motion _ .stopping

theorem State.beginStopping_rest (s : State) (k : StopKind) : ¬Moving (s.beginStopping k) := by
  simp [Moving, State.beginStopping_motion]

theorem State.sequencerMotionStop_held (s : State) : SpanHeld s s.sequencerMotionStop :=
  .ite (s.phaseFault_held .motionStop) (.refl s)

/-- A motion stop leaves the span at rest (06:R98). -/
theorem State.motionStop_rest (s : State) (c : MotionCause) : ¬Moving (s.motionStop c) := by
  by_cases hm : s.moving = true
  · have hbegun : ¬Moving ((s.beginStopping .fault).alert (.motionStop c)) := by
      simpa [Moving] using s.beginStopping_rest .fault
    have hfault := (State.sequencerMotionStop_held _).noStart.rest hbegun
    unfold State.motionStop
    rw [if_pos hm]
    simpa [Moving] using hfault
  · have hstop : s.motionStop c = s := if_neg hm
    rw [hstop]
    exact fun h => hm ((State.moving_iff s).mpr h)

theorem State.motionStop_noStart (s : State) (c : MotionCause) : NoStart s (s.motionStop c) :=
  .of_rest (s.motionStop_rest c)

theorem State.whileMoving_noStart (s : State) (f : State → State) (hf : ∀ t, NoStart t (f t)) :
    NoStart s (s.whileMoving f) :=
  .ite (hf s) (.refl s)

/-! ### Updates, pairs and losses -/

theorem State.overspeedStage_noStart (s : State) (l : LimitRecord) (mean v : Int) : NoStart s (s.overspeedStage l mean v) :=
  .ite (State.motionStop_noStart (s.setSpan _) .overspeed) (.of_motion rfl rfl)

theorem State.arrivalStage_noStart (s : State) (r : SpanRecord) (mean : Int) : NoStart s (s.arrivalStage r mean) :=
  .ite (.of_rest (s.beginStopping_rest .arrival)) (.refl s)

theorem State.standstillEnd_rest (s : State) : ¬Moving s.standstillEnd := by
  unfold State.standstillEnd Moving
  rw [State.setMotion_motion]
  split <;> simp

theorem State.standstillStage_noStart (s : State) (r : SpanRecord) (v : Int) : NoStart s (s.standstillStage r v) :=
  .ite (.ite (.of_rest (State.standstillEnd_rest _)) (.of_motion rfl rfl)) (.refl s)

/-- The stages of motion go on from one another (06:R102). -/
theorem State.motionStages_noStart (s : State) (l : LimitRecord) (r : SpanRecord) (skew mean v : Int) :
    NoStart s (s.motionStages l r skew mean v) := by
  unfold State.motionStages
  refine .trans ?_ (State.whileMoving_noStart _ _ fun _ => .of_motion (by simp) (by simp))
  refine .trans ?_ (State.whileMoving_noStart _ _ fun u => u.arrivalStage_noStart r mean)
  refine .trans ?_ (State.whileMoving_noStart _ _ fun u => u.overspeedStage_noStart l mean v)
  refine .trans ?_ (State.whileMoving_noStart _ _ fun _ => .of_motion (by simp) (by simp))
  exact State.whileMoving_noStart _ _ fun _ => .of_motion (by simp) (by simp)

theorem State.skewStage_noStart (s : State) (l : LimitRecord) (skew : Int) : NoStart s (s.skewStage l skew) :=
  .ite (s.latchCause_held .skewTrip).noStart (.refl s)

theorem State.takePair_noStart (s : State) (l : LimitRecord) (r : SpanRecord) (stopping : Bool) (hA hB : Int) (t : Time) :
    NoStart s (s.takePair l r stopping hA hB t) := by
  have hpair : NoStart s (s.pairStage hA hB t) := .of_motion (by simp) (by simp)
  have hskew := hpair.trans (State.skewStage_noStart _ l (hA - hB))
  have hlevel : NoStart s (((s.pairStage hA hB t).skewStage l (hA - hB)).levelStage l (hA - hB)) :=
    hskew.trans (.of_motion (by simp) (by simp))
  have hstages := hlevel.trans
    (State.motionStages_noStart _ l r (hA - hB) ((hA + hB) / 2) (s.pairStage hA hB t).span.speed)
  exact .ite (hstages.trans (State.standstillStage_noStart _ r _)) hstages

theorem State.pairMiss_noStart (s : State) (l : LimitRecord) : NoStart s (s.pairMiss l) :=
  .ite (.of_rest (State.motionStop_rest _ .skewUnknown)) (.of_motion (by simp) (by simp))

theorem State.pairing_noStart (s : State) (l : LimitRecord) (r : SpanRecord) (stopping : Bool) (x : Tower) (h : Int)
    (t : Time) : NoStart s (s.pairing l r stopping x h t) := by
  unfold State.pairing
  split
  · exact s.pairMiss_noStart l
  · split
    · exact s.pairMiss_noStart l
    · split
      · exact s.takePair_noStart l r stopping _ _ _
      · exact s.takePair_noStart l r stopping _ _ _

theorem State.stallWatch_noStart (s : State) (r : SpanRecord) (x : Tower) : NoStart s (s.stallWatch r x) := by
  unfold State.stallWatch
  split
  · exact .refl s
  · exact .ite (s.motionStop_noStart _) (.refl s)

theorem Span.setTower_motion (p : Span) (x : Tower) (y : TowerState) : (p.setTower x y).motion = p.motion := by
  cases x <;> rfl

theorem State.takeUpdate_noStart (s : State) (l : LimitRecord) (r : SpanRecord) (x : Tower) (raw : Nat) (t : Time) :
    NoStart s (s.takeUpdate l r x raw t) := by
  refine .trans ?_ (State.pairing_noStart _ l r _ x _ t)
  refine .trans ?_ (State.whileMoving_noStart _ _ fun u => u.stallWatch_noStart r x)
  exact .ite (.of_rest (State.motionStop_rest _ .heightRange)) (.of_motion (by simp [Span.setTower_motion]) (by simp))

theorem State.encoderUpdate_noStart (s : State) (x : Tower) (raw : Nat) (t : Time) :
    NoStart s (s.encoderUpdate x raw t) := by
  unfold State.encoderUpdate
  split
  · exact .ite (.refl s) (s.takeUpdate_noStart _ _ x raw t)
  · exact .refl s

theorem State.encoderLost_noStart (s : State) : NoStart s s.encoderLost :=
  .ite (.refl s) (.of_rest (State.motionStop_rest _ .skewUnknown))

theorem State.encoderLoss_noStart (s before : State) (r : SpanRecord) (x : Tower) : NoStart s (s.encoderLoss before r x) :=
  .ite s.encoderLost_noStart (.refl s)

theorem State.encodersAfter_noStart (s before : State) : NoStart s (s.encodersAfter before) := by
  have hsettled : NoStart s s.settleSpanPoints := .of_motion (by simp) (by simp)
  unfold State.encodersAfter
  dsimp only
  split
  · exact hsettled
  · exact (hsettled.trans (State.encoderLoss_noStart _ before _ .a)).trans (State.encoderLoss_noStart _ before _ .b)

theorem State.encoderReading_noStart (s : State) (ps : List (Nat × PointEntry)) (payload : List Byte) (t : Time) (x : Tower) :
    NoStart s (s.encoderReading ps payload t x) := by
  unfold State.encoderReading
  split
  · exact .refl s
  · split
    · exact .refl s
    · exact .ite (s.encoderUpdate_noStart x _ t) (.refl s)

/-! ### Replies and misses reach the points -/

theorem State.setPoint_noStart (s : State) (n : Nat) (p : Point) : NoStart s (s.setPoint n p) :=
  .of_motion (by simp) (by simp)

theorem State.offerCall_noStart (s before : State) (q : Nat × PointEntry) : NoStart s (s.offerCall before q) :=
  .ite (s.channelStep_held _ (s.vesselCall_held _ _)).noStart (.refl s)

theorem State.decodeReply_noStart (s : State) (node : Nat) (payload : List Byte) (t : Time) :
    NoStart s (s.decodeReply node payload t) := by
  refine .trans (s.pointEvent_noStart _ fun v => ?_) (.foldl _ (fun v q => v.offerCall_noStart s q) _ _)
  refine .trans ?_ (State.encoderReading_noStart _ _ payload t .b)
  refine .trans ?_ (State.encoderReading_noStart _ _ payload t .a)
  refine .trans ?_ (State.encodersAfter_noStart _ s)
  exact .foldl _ (fun v q => v.setPoint_noStart _ _) _ v

theorem State.missNode_noStart (s : State) (node : Nat) : NoStart s (s.missNode node) :=
  s.pointEvent_noStart _ fun v =>
    .trans (.foldl _ (fun v _ => v.setPoint_noStart _ _) _ v) (State.encodersAfter_noStart _ s)

theorem State.rewritePoint_noStart (s : State) (n : Nat) (e : Option PointEntry) : NoStart s (s.rewritePoint n e) :=
  s.pointEvent_noStart _ fun _ => .trans (.of_motion (by simp) (by simp)) (State.encodersAfter_noStart _ s)

theorem State.writeSpanRecord_noStart (s : State) (r : Option SpanRecord) : NoStart s (s.writeSpanRecord r) :=
  .trans (.of_motion rfl rfl) (State.pointEvent_noStart _ _ fun _ => .of_motion (by simp) (by simp))

/-! ### Outcomes of trims and stops -/

theorem State.trimOutcome_noStart (s : State) (x : Tower) (y : Result) : NoStart s (s.trimOutcome x y) := by
  have hcount (n : Nat) : NoStart s (s.setTrimLoss x n) := .of_motion (by simp) (by simp)
  refine .ite (.ite (hcount 0) (.ite ?_ (.refl s))) (.refl s)
  exact .ite (.of_rest (State.motionStop_rest _ .trimLost)) (hcount _)

theorem State.stopOutcome_noStart (s : State) (y : Result) : NoStart s (s.stopOutcome y) :=
  .ite (s.latchCause_held .stopFailed).noStart (.refl s)

end Sys2Proof.Machine
end

section
/-! ### The law of motion over starts, transactions and the arbiter (06:R113, R120) -/

namespace Sys2Proof.Machine

/-- The operation keeps the law of 06:R120. -/
def KeepsMotionLaw (f : State → State) : Prop := ∀ s, MotionLaw s → MotionLaw (f s)

theorem NoStart.motionLaw {s t : State} (h : NoStart s t) (hs : MotionLaw s) : MotionLaw t := fun ht => by
  obtain ⟨hm, hmode, hcauses⟩ := h ht
  obtain ⟨hsm, hsc⟩ := hs hm
  refine ⟨?_, hcauses hsc⟩
  have hinit : t.unit.mode ≠ .init := hmode (by rcases hsm with hsm | hsm <;> simp [hsm])
  cases htm : t.unit.mode with
  | init => exact absurd htm hinit
  | maintenance => exact .inl rfl
  | service => exact .inr rfl

theorem SpanHeld.motionLaw {s t : State} (h : SpanHeld s t) (hs : MotionLaw s) : MotionLaw t := h.noStart.motionLaw hs

theorem MotionLaw.of_rest {s : State} (h : ¬Moving s) : MotionLaw s := fun hm => absurd hm h

theorem MotionLaw.ite {s t : State} {c : Prop} [Decidable c] (h : MotionLaw s) (g : MotionLaw t) :
    MotionLaw (if c then s else t) := by
  split
  · exact h
  · exact g

theorem KeepsMotionLaw.foldl {α : Type} (f : State → α → State) (hf : ∀ x, KeepsMotionLaw fun s => f s x) (xs : List α) :
    KeepsMotionLaw fun s => xs.foldl f s := by
  intro s hs
  induction xs generalizing s with
  | nil => exact hs
  | cons x xs ih => exact ih (f s x) (hf x s hs)

/-! ### Starts and final results -/

theorem State.occur_noStart (s : State) (e : DutyEvent) : NoStart s (s.occur e) := .of_motion (by simp) (by simp)

theorem State.placeStop_motionLaw (x : Tower) : KeepsMotionLaw (·.placeStop x) := fun _ hs =>
  NoStart.motionLaw (.of_motion (by simp) (by simp)) hs

theorem State.startWatches_noStart (s : State) (r : SpanRecord) : NoStart s (s.startWatches r) :=
  .ite (s.motionStop_noStart .holdLapse) (.ite (.refl s) (s.motionStop_noStart .skewUnknown))

/-- A motion begins only with the chain allowed (06:R113). -/
theorem State.firstStart_motionLaw (r : SpanRecord) (x : Tower) (up : Bool) : KeepsMotionLaw (·.firstStart r x up) := by
  intro s hs
  dsimp only
  by_cases hbar : s.unit.mode = .init ∨ s.unit.causes ≠ CauseSet.empty
  · rw [s.firstStart_barred r x up hbar]
    exact hs
  · obtain ⟨hmode, hcauses⟩ := not_or.mp hbar
    have hcauses := not_not.mp hcauses
    unfold State.firstStart
    rw [if_neg (s.firstStart_open hmode hcauses)]
    refine .ite (NoStart.motionLaw (.of_motion (by simp) (by simp)) hs) ((State.startWatches_noStart _ r).motionLaw ?_)
    intro _
    simp only [State.setCorrection_frame, State.setMotion_frame, State.setSpan_unit]
    refine ⟨?_, hcauses⟩
    cases hm : s.unit.mode with
    | init => exact absurd hm hmode
    | maintenance => exact .inl rfl
    | service => exact .inr rfl

theorem State.laterStart_noStart (s : State) (same : Bool) (x : Tower) : NoStart s (s.laterStart same x) := by
  unfold State.laterStart
  refine .ite ?_ (s.motionStop_noStart .startFailed)
  split
  · exact .ite (.refl s) (.of_motion rfl rfl)
  · exact .refl s

theorem State.startDone_motionLaw (node cls : Nat) : KeepsMotionLaw (·.startDone node cls) := by
  intro s hs
  dsimp only
  unfold State.startDone
  split
  · exact hs
  · split
    · exact hs
    · split
      · exact State.firstStart_motionLaw _ _ _ s hs
      · exact State.firstStart_motionLaw _ _ _ s hs
      · exact (s.laterStart_noStart _ _).motionLaw hs
      · exact (s.laterStart_noStart _ _).motionLaw hs
      · exact State.placeStop_motionLaw _ s hs

theorem State.toOriginator_noStart (s : State) (r : OrderRecord) (x : Result) (detail : Nat) (sent : Bool) :
    NoStart s (s.toOriginator r x detail sent) := by
  unfold State.toOriginator
  split
  · exact .of_motion (by simp) (by simp)
  · exact (s.entryResult_held _ _ x).noStart
  · exact (s.channelStep_held _ (s.redResult_held _ x)).noStart
  · exact (s.channelStep_held _ (s.greenResult_held _ x)).noStart

theorem State.memoryTests_held (s : State) : SpanHeld s s.memoryTests :=
  s.channelStep_held _ (.trans (.of_eq (by simp) (by simp)) (State.openingTest_held _))

theorem State.finalResult_motionLaw (r : OrderRecord) (x : Result) (detail : Nat) (sent : Bool) :
    KeepsMotionLaw (·.finalResult r x detail sent) := by
  intro s hs
  have hmemory : MotionLaw (s.settleMemory r x) := NoStart.motionLaw (.of_motion (by simp) (by simp)) hs
  have hstart := MotionLaw.ite (c := x = .done) (State.startDone_motionLaw r.node r.cls _ hmemory) hmemory
  have hgiven := (State.toOriginator_noStart _ r x detail sent).motionLaw hstart
  have htests := MotionLaw.ite (c := r.memory.isSome = true) ((State.memoryTests_held _).motionLaw hgiven) hgiven
  exact (State.occur_noStart _ _).motionLaw htests

theorem State.cancelQueues_motionLaw : KeepsMotionLaw State.cancelQueues := by
  intro s hs
  refine KeepsMotionLaw.foldl _ (fun r => State.finalResult_motionLaw r .cancelled 0 false) _ _ ?_
  exact NoStart.motionLaw (.of_motion (by simp) (by simp)) hs

/-! ### Transactions -/

theorem State.orderOutcome_motionLaw (tx : Transaction) (x : Result) (detail : Nat) :
    KeepsMotionLaw (·.orderOutcome tx x detail) := by
  intro s hs
  dsimp only
  unfold State.orderOutcome
  split
  · exact hs
  · exact State.finalResult_motionLaw _ x detail _ s hs
  · exact (s.trimOutcome_noStart _ x).motionLaw hs
  · exact (s.stopOutcome_noStart x).motionLaw hs

theorem State.endTransaction_held (s : State) (tx : Transaction) : SpanHeld s (s.endTransaction tx) :=
  .ite (State.latchCause_held (s.setField _) .fieldContention) (.refl s)

theorem State.endOrder_motionLaw (tx : Transaction) (x : Result) (detail : Nat) :
    KeepsMotionLaw (·.endOrder tx x detail) := fun s hs =>
  State.orderOutcome_motionLaw tx x detail _ ((s.endTransaction_held tx).motionLaw hs)

theorem State.nodeAnswers_noStart (s : State) (node : Nat) (t : Time) : NoStart s (s.nodeAnswers node t) :=
  .of_motion (by simp) (by simp)

theorem State.nodeMisses_noStart (s : State) (node : Nat) : NoStart s (s.nodeMisses node) :=
  .of_motion (by simp) (by simp)

theorem State.pollMiss_noStart (s : State) (tx : Transaction) : NoStart s (s.pollMiss tx) :=
  ((s.endTransaction_held tx).noStart.trans (State.missNode_noStart _ tx.node)).trans (State.nodeMisses_noStart _ tx.node)

theorem State.pollAnswer_noStart (s : State) (tx : Transaction) (a : Arrival) : NoStart s (s.pollAnswer tx a) := by
  refine .ite ?_ (s.pollMiss_noStart tx)
  exact ((s.endTransaction_held tx).noStart.trans (State.decodeReply_noStart _ tx.node _ a.time)).trans
    (State.nodeAnswers_noStart _ tx.node a.time)

theorem State.orderAnswer_motionLaw (tx : Transaction) (a : Arrival) : KeepsMotionLaw (·.orderAnswer tx a) := fun s hs => by
  have hanswer (x : Result) (detail : Nat) : MotionLaw ((s.endOrder tx x detail).nodeAnswers tx.node a.time) :=
    (State.nodeAnswers_noStart _ tx.node a.time).motionLaw (State.endOrder_motionLaw tx x detail s hs)
  exact .ite (hanswer _ _) (.ite (hanswer _ _) (State.endOrder_motionLaw tx .garbled 0 s hs))

theorem State.judgeFrame_motionLaw (a : Arrival) : KeepsMotionLaw (·.judgeFrame a) := by
  intro s hs
  dsimp only
  unfold State.judgeFrame
  split
  · exact hs
  · exact .ite ((s.pollAnswer_noStart _ a).motionLaw hs) (State.orderAnswer_motionLaw _ a s hs)

theorem State.judgeFault_motionLaw : KeepsMotionLaw State.judgeFault := by
  intro s hs
  unfold State.judgeFault
  split
  · exact hs
  · exact .ite ((s.pollMiss_noStart _).motionLaw hs) (State.endOrder_motionLaw _ .garbled 0 s hs)

theorem State.judgeArrivals_motionLaw : KeepsMotionLaw State.judgeArrivals := fun s hs =>
  KeepsMotionLaw.foldl _ State.judgeFrame_motionLaw s.field.arrivals (s.setField _) hs

theorem State.noAnswer_motionLaw : KeepsMotionLaw State.noAnswer := by
  intro s hs
  unfold State.noAnswer
  split
  · exact hs
  · exact .ite ((s.pollMiss_noStart _).motionLaw hs)
      ((State.nodeMisses_noStart _ _).motionLaw (State.endOrder_motionLaw _ .noAnswer 0 s hs))

theorem State.linkFault_motionLaw (tx : Transaction) : KeepsMotionLaw (·.linkFault tx) := fun s hs =>
  (State.occur_noStart _ _).motionLaw
    (.ite ((s.pollMiss_noStart tx).motionLaw hs) (State.endOrder_motionLaw _ .linkFault 0 s hs))

theorem State.abandon_motionLaw (tx : Transaction) : KeepsMotionLaw (·.abandon tx) := fun s hs =>
  .ite (State.linkFault_motionLaw _ s hs) hs

theorem State.fullySent_noStart (s : State) (tx : Transaction) : NoStart s (s.fullySent tx) := by
  unfold State.fullySent
  dsimp only
  split
  · exact .ite (.refl s) (.of_motion (by simp) (by simp))
  · exact .refl s
  · exact .refl s
  · exact .refl s

theorem State.beginBreak_motionLaw : KeepsMotionLaw State.beginBreak := by
  intro s hs
  unfold State.beginBreak State.cutOutcome
  dsimp only
  split
  · exact hs
  · exact State.orderOutcome_motionLaw _ .cancelled 0 _ hs

/-! ### The transmit arbiter -/

/-- What a choice comes to keeps the law of 06:R120. -/
def Choice.MotionLaw : Choice → Prop
  | .settled s => Machine.MotionLaw s
  | .again s => Machine.MotionLaw s

theorem State.beginTransaction_motionLaw (source : TxSource) (node cls : Nat) (arg : Int) :
    KeepsMotionLaw (·.beginTransaction source node cls arg) := fun _ hs => hs

theorem State.takeOrder_motionLaw (s : State) (r : OrderRecord) (hs : MotionLaw s) : (s.takeOrder r).MotionLaw := by
  unfold State.takeOrder
  split
  · exact State.finalResult_motionLaw r .revoked _ false s hs
  · refine State.beginTransaction_motionLaw _ r.node r.cls r.arg _ ?_
    exact NoStart.motionLaw (.of_motion (by simp [State.spendCredit]) (by simp [State.spendCredit])) hs

theorem State.chooseOrder_motionLaw (s : State) (other : State → Choice) (hs : MotionLaw s) (ho : (other s).MotionLaw) :
    (s.chooseOrder other).MotionLaw := by
  unfold State.chooseOrder
  split
  · exact State.takeOrder_motionLaw _ _ hs
  · split
    · exact State.takeOrder_motionLaw _ _ (NoStart.motionLaw (.of_motion (by simp) (by simp)) hs)
    · exact ho

theorem State.chooseWaiting_motionLaw (s : State) (other : State → Choice) (hs : MotionLaw s) (ho : (other s).MotionLaw) :
    (s.chooseWaiting other).MotionLaw := by
  unfold State.chooseWaiting
  split
  · exact hs
  · exact hs
  · exact s.chooseOrder_motionLaw other hs ho

theorem State.choosePoll_motionLaw (s : State) (other : State → Choice) (hs : MotionLaw s)
    (ho : ∀ t, MotionLaw t → (other t).MotionLaw) : (s.choosePoll other).MotionLaw := by
  unfold State.choosePoll
  split
  · unfold State.choosePollContinuous
    split
    · split
      · exact hs
      · exact ho s hs
    · exact ho s hs
  · unfold State.choosePollSingle
    split
    · exact hs
    · exact ho _ (NoStart.motionLaw (.of_motion (by simp) (by simp)) hs)
  · exact ho s hs

theorem State.chooseRest_motionLaw (s : State) (hs : MotionLaw s) : s.chooseRest.MotionLaw := by
  unfold State.chooseRest
  split
  · exact s.choosePoll_motionLaw _ hs fun t ht => t.chooseWaiting_motionLaw _ ht ht
  · exact s.chooseWaiting_motionLaw _ hs (s.choosePoll_motionLaw _ hs fun _ ht => ht)

theorem State.chooseOnce_motionLaw (s : State) (hs : MotionLaw s) : s.chooseOnce.MotionLaw := by
  unfold State.chooseOnce
  split
  · exact State.beginBreak_motionLaw s hs
  · split
    · exact hs
    · exact hs
    · exact s.chooseRest_motionLaw hs

/-- The choices of one event, by their bound (log 26). -/
theorem chooseLoop_motionLaw (k : Nat) : KeepsMotionLaw (chooseLoop k) := by
  intro s hs
  induction k generalizing s with
  | zero => exact hs
  | succ k ih =>
    have hchoice := s.chooseOnce_motionLaw hs
    unfold chooseLoop
    split
    · next t ht =>
      rw [ht] at hchoice
      exact hchoice
    · next t ht =>
      rw [ht] at hchoice
      exact .ite (ih t hchoice) hchoice

theorem State.arbitrate_motionLaw : KeepsMotionLaw State.arbitrate := chooseLoop_motionLaw choiceBound

theorem State.fallIdle_motionLaw : KeepsMotionLaw State.fallIdle := fun s hs =>
  State.arbitrate_motionLaw (s.setField _) hs

/-! ### The receivers -/

theorem State.setReceiver_motionLaw (l : Link) (x : Receiver) : KeepsMotionLaw (·.setReceiver l x) := by
  intro s hs
  cases l with
  | console => exact hs
  | field => exact hs

theorem State.receiveFault_motionLaw (l : Link) (f : LinkCounts → LinkCounts) (x : Receiver) :
    KeepsMotionLaw (·.receiveFault l f x) := by
  intro s hs
  cases l with
  | console => exact hs
  | field => exact State.judgeFault_motionLaw _ (State.judgeArrivals_motionLaw ((s.count .field f).setReceiver .field x) hs)

theorem State.completeFrame_motionLaw (l : Link) (all : List Byte) : KeepsMotionLaw (·.completeFrame l all) := by
  intro s hs
  refine .ite ?_ (State.receiveFault_motionLaw l _ _ s hs)
  cases l with
  | console => exact hs
  | field => exact hs

theorem State.takeCharacter_motionLaw (l : Link) (c : Character) : KeepsMotionLaw (·.takeCharacter l c) := by
  intro s hs
  dsimp only
  unfold State.takeCharacter
  refine .ite ?_ hs
  split
  · exact .ite (State.noAnswer_motionLaw s hs) (.ite (State.setReceiver_motionLaw l _ s hs) hs)
  · exact .ite (State.setReceiver_motionLaw l _ s hs) hs

end Sys2Proof.Machine
end

section
/-! ### The law of motion over every command (06:R120) -/

namespace Sys2Proof.Machine

/-- The command keeps the law of 06:R120. -/
def CommandKeepsMotionLaw (c : Instr) : Prop := ∀ s t, MotionLaw s → exec c s = .next t → MotionLaw t

/-- A command of the running controller keeps the law where its meaning does. -/
theorem CommandKeepsMotionLaw.of_running {c : Instr} {f : State → State} (hc : ∀ s, exec c s = .next (s.whenRunning f))
    (hf : KeepsMotionLaw f) : CommandKeepsMotionLaw c := by
  intro s t hs ht
  rw [hc s] at ht
  cases ht
  exact s.whenRunning_keeps MotionLaw f hs fun _ => hf s

/-! ### Requests (11:R183) -/

/-- The effect of a response in state s keeps the law, whatever the Console Port then holds. -/
def Reply.Keeps (r : Reply) (s : State) : Prop := ∀ c, MotionLaw (r.effect (s.setConsole c))

theorem Reply.Keeps.denied {s : State} (d : Denial) (hs : MotionLaw s) : (denied d).Keeps s := fun _ => hs

theorem Reply.Keeps.accepted {s : State} (data : List Byte) {effect : State → State} (he : KeepsMotionLaw effect)
    (hs : MotionLaw s) : (accepted data effect).Keeps s := fun c => he (s.setConsole c) hs

theorem Reply.Keeps.read {s : State} (data : List Byte) (hs : MotionLaw s) : (Machine.accepted data id).Keeps s := fun _ => hs

theorem Reply.Keeps.ite {a b : Reply} {s : State} {c : Prop} [Decidable c] (ha : a.Keeps s) (hb : b.Keeps s) :
    Reply.Keeps (if c then a else b) s := by
  split
  · exact ha
  · exact hb

theorem Reply.Keeps.sized {s : State} {r : Reply} (f : Frame) (n : Nat) (hr : r.Keeps s) (hs : MotionLaw s) :
    (Machine.sized f n r).Keeps s := .ite hr (.denied .range hs)

/-- A row that serves a request keeps the law where every effect of its judging does. -/
theorem CommandKeepsMotionLaw.of_request {c : Instr} {wanted : Frame → Bool} {judge : Frame → State → Reply}
    (hc : ∀ s, exec c s = .next (s.whenRunning fun s => s.request wanted judge))
    (hj : ∀ f s, MotionLaw s → (judge f s).Keeps s) : CommandKeepsMotionLaw c := by
  refine .of_running hc fun s hs => ?_
  rcases s.serve_cases wanted (fun f s => s.answer f (judge f s)) with ⟨f, rest, -, -, -, -, h⟩ | h
  · show MotionLaw (s.serve wanted _)
    rw [h]
    exact hj f (s.setConsole { s.console with ingress := rest }) hs _
  · show MotionLaw (s.serve wanted _)
    rw [h]
    exact hs

/-- A WRITE ENTRY or CLEAR ENTRY keeps the law where every effect of its owner does (11:R184). -/
theorem tableReply_keeps {entries : Nat} {sizeOk forbids : Bool} {apply : Nat → Option (State → State)} {f : Frame} {s : State}
    (happly : ∀ n effect, apply n = some effect → KeepsMotionLaw effect) (hs : MotionLaw s) :
    (tableReply entries sizeOk forbids apply f s).Keeps s := by
  unfold tableReply
  refine .ite (.denied _ hs) (.ite (.denied _ hs) (.ite (.denied _ hs) (.ite (.denied _ hs) (.ite (.denied _ hs) ?_))))
  split
  · next effect h => exact .accepted [] (happly _ effect h) hs
  · exact .denied _ hs

/-- The row of a WRITE ENTRY whose contents are read by `read` and written by `write`. -/
theorem CommandKeepsMotionLaw.of_tableWrite {α : Type} {c : Instr} {t entries : Nat} {size : List Byte → Bool}
    {forbids : State → Bool} {read : Nat → List Byte → Option α} {write : Nat → α → State → State}
    (hc : ∀ s, exec c s = .next (s.whenRunning fun s => s.tableWrite t entries size forbids fun n b => (read n b).map (write n)))
    (hw : ∀ n x, KeepsMotionLaw (write n x)) : CommandKeepsMotionLaw c := by
  refine .of_request hc fun f s hs => tableReply_keeps (fun n effect h => ?_) hs
  obtain ⟨x, -, rfl⟩ := Option.map_eq_some_iff.mp h
  exact hw n x

/-- The row of a CLEAR ENTRY. -/
theorem CommandKeepsMotionLaw.of_tableClear {c : Instr} {t entries : Nat} {forbids : State → Bool}
    {clear : Nat → State → State} (hc : ∀ s, exec c s = .next (s.whenRunning fun s => s.tableClear t entries forbids clear))
    (hw : ∀ n, KeepsMotionLaw (clear n)) : CommandKeepsMotionLaw c := by
  refine .of_request hc fun f s hs => tableReply_keeps (fun n effect h => ?_) hs
  cases h
  exact hw n

theorem rangeRead_keeps {s : State} (f : Frame) (lo past : Nat) (data : Nat → List Byte) (hs : MotionLaw s) :
    (rangeRead f lo past data).Keeps s := .ite (.read _ hs) (.denied _ hs)

theorem sequenceReply_keeps {s : State} (ok : Bool) {effect : State → State} (he : KeepsMotionLaw effect) (hs : MotionLaw s) :
    (sequenceReply ok effect s).Keeps s := .ite (.denied _ hs) (.ite (.accepted [] he hs) (.denied _ hs))

theorem entryReply_keeps {s : State} (p : Option Phase) (cause : PhaseCause) (hs : MotionLaw s) :
    (entryReply p cause s).Keeps s := by
  cases p with
  | some p => exact sequenceReply_keeps _ (fun t ht => (t.enter_held p cause).motionLaw ht) hs
  | none => exact sequenceReply_keeps _ (fun _ ht => ht) hs

/-! ### Effects of requests -/

theorem State.takeDuty_motionLaw (o : State → DutyOut) : KeepsMotionLaw fun s => s.takeDuty (o s) := fun _ hs => hs

theorem State.writeCondition_motionLaw (n : Nat) (e : Option CondEntry) : KeepsMotionLaw (·.writeCondition n e) :=
  fun _ hs => NoStart.motionLaw (.of_motion (by simp) (by simp)) hs

theorem State.record_held (s : State) (x : RequestRecord) : SpanHeld s (s.record x) := State.advanceTest_held (s.setSeq _)

theorem State.halt_noStart (s : State) : NoStart s s.halt := .of_rest (State.motionStop_rest _ .haltRequest)

theorem vesselAddReply_keeps {s : State} (tag direction : Nat) (hs : MotionLaw s) :
    (vesselAddReply tag direction s).Keeps s := by
  unfold vesselAddReply
  split
  · exact .denied _ hs
  · refine .ite (.denied _ hs) (.ite (.read [] hs) (.ite (fun _ => hs) (.accepted [] (fun t ht => ?_) hs)))
    exact (t.channelStep_held _ (t.joinVessel_held tag _)).motionLaw ht

/-- A clearing that leaves the empty set empty (10:R178, R179). -/
theorem State.clearCauses_motionLaw (s : State) (c : CauseSet) (hs : MotionLaw s)
    (hc : s.unit.causes = CauseSet.empty → c = CauseSet.empty) : MotionLaw (s.clearCauses c) := by
  have hcleared : (s.clearCauses c).unit.mode = s.unit.mode ∧ (s.clearCauses c).unit.causes = c := by
    unfold State.clearCauses
    split <;> simp [ModeChain.settleChain]
  intro hm
  have hspan : (s.clearCauses c).span = s.span := by simp
  rw [hspan] at hm
  obtain ⟨hmode, hcauses⟩ := hs hm
  exact ⟨by rwa [hcleared.1], by rw [hcleared.2, hc hcauses]⟩

/-- No cause remains where none was latched (10:R178). -/
theorem State.remainingCauses_empty (s : State) (h : s.unit.causes = CauseSet.empty) :
    s.remainingCauses = CauseSet.empty := by
  simp [State.remainingCauses, h, CauseSet.empty]

theorem State.validated_enterService_motionLaw : KeepsMotionLaw fun s => s.validated.enterService := fun s hs =>
  (State.enterService_held s.validated).motionLaw hs

/-! ### The key, the samples and the resets -/

theorem State.keyOff_motionLaw : KeepsMotionLaw State.keyOff := by
  intro s hs
  unfold State.keyOff
  split
  · exact hs
  · split
    · exact (State.enterInit_held s.validated).motionLaw hs
    · exact State.validated_enterService_motionLaw s hs
  · exact hs

theorem State.endOfReset_motionLaw : KeepsMotionLaw State.endOfReset := by
  intro s hs
  have hevaluated : MotionLaw ({ s with power := .running, now := 0 } : State).resetEvaluation :=
    NoStart.motionLaw (s := { s with power := .running, now := 0 }) (.of_motion (by simp) (by simp)) hs
  have hestop : KeepsMotionLaw State.sampleEstop := fun t ht => .ite ((State.latchCause_held (t.setUnit _) _).motionLaw ht) ht
  have hkey : KeepsMotionLaw State.sampleKey := fun t ht => .ite ((State.keyOn_held (t.setUnit _)).motionLaw ht) ht
  exact hkey _ (hestop _ hevaluated)

theorem State.powerOnCleared_motionLaw (s : State) : MotionLaw s.powerOnCleared :=
  .of_rest (by simp [Moving, State.powerOnCleared, State.reset, Span.reset])

theorem State.warmCleared_motionLaw (s : State) : MotionLaw s.warmCleared :=
  .of_rest (by simp [Moving, State.warmCleared, Span.reset])

/-! ### The commands -/

/-- The rows that a character, a fault or a break of a link brings (01_links_characters_and_frames). -/
theorem linkRows_keepMotionLaw (l : Link) (mark : Bool) (data : Byte) :
    ∀ c ∈ ([.frameComplete l data, .badStopBit l, .gapFault l, .truncatedFault l data, .lengthFault l data,
        .validCharacter l mark data, .lineBreak, .fieldBreak] : List Instr), CommandKeepsMotionLaw c := by
  simp only [List.forall_mem_cons, List.not_mem_nil, false_implies, implies_true, and_true]
  have hfault (f : LinkCounts → LinkCounts) (x : Receiver) := State.receiveFault_motionLaw l f x
  refine ⟨.of_running (fun _ => rfl) fun s hs => ?_, .of_running (fun _ => rfl) fun s hs => ?_,
    .of_running (fun _ => rfl) fun s hs => ?_, .of_running (fun _ => rfl) fun s hs => ?_,
    .of_running (fun _ => rfl) fun s hs => ?_, .of_running (fun _ => rfl) fun s hs => ?_,
    .of_running (fun _ => rfl) fun s hs => ?_, .of_running (fun _ => rfl) fun s hs => ?_⟩
  · split
    · exact .ite (State.completeFrame_motionLaw l _ s hs) hs
    · exact hs
  · split
    · exact hfault _ _ s hs
    · exact hs
  · split
    · exact hfault _ _ s hs
    · exact hs
  · split
    · exact hfault _ _ s hs
    · exact hs
  · split
    · exact .ite (hfault _ _ s hs) hs
    · exact hs
  · split
    · exact .ite hs hs
    · exact State.takeCharacter_motionLaw l _ s hs
  · exact .ite ((State.latchCause_held (s.setConsole _) .consoleBreak).motionLaw hs) hs
  · refine .ite (State.receiveFault_motionLaw .field _ _ (State.setField _ _) ?_) hs
    exact .ite (State.noAnswer_motionLaw s hs) hs

/-- The rows of the Field Engine (02_field_transactions_and_the_scan_list). -/
theorem fieldRows_keepMotionLaw :
    ∀ c ∈ ([.arbiterChoice, .frameFullySent, .contention, .turnaroundEnd, .replyTimeout, .fieldFrameReceived,
        .allStopBreak, .breakIdleEnd] : List Instr), CommandKeepsMotionLaw c := by
  simp only [List.forall_mem_cons, List.not_mem_nil, false_implies, implies_true, and_true]
  refine ⟨.of_running (fun _ => rfl) fun s hs => .ite (State.arbitrate_motionLaw s hs) hs,
    .of_running (fun _ => rfl) fun s hs => ?_, .of_running (fun _ => rfl) fun s hs => ?_,
    .of_running (fun _ => rfl) fun s hs => ?_,
    .of_running (fun _ => rfl) fun s hs => .ite (State.noAnswer_motionLaw s hs) hs,
    .of_running (fun _ => rfl) fun s hs => ?_,
    .of_running (fun _ => rfl) fun s hs => .ite (State.beginBreak_motionLaw s hs) hs,
    .of_running (fun _ => rfl) fun s hs => .ite (State.fallIdle_motionLaw s hs) hs⟩
  · split
    · exact .ite ((s.fullySent_noStart _).motionLaw hs) hs
    · exact hs
  · split
    · exact .ite hs (State.abandon_motionLaw _ s hs)
    · exact hs
  · exact .ite (.ite (State.fallIdle_motionLaw s hs) (.ite (State.beginBreak_motionLaw s hs) hs)) hs
  · split
    · exact hs
    · exact State.judgeFrame_motionLaw _ (s.setField _) hs

theorem State.reportOccupancy_noStart (s : State) : NoStart s s.reportOccupancy := .of_motion (by simp) (by simp)

/-- The rows of the timers, of the hand-outs and of the walks (03 to 09). -/
theorem eventRows_keepMotionLaw :
    ∀ c ∈ ([.motionHold, .holdTimerExpiry, .stopTimerExpiry, .startWindowExpiry, .provingEnd, .counterChange,
        .conditionTrueEvent, .holdRelease, .consoleOrderAdmission, .holdDeadlineExpiry,
        .gateStanddownCancel] : List Instr), CommandKeepsMotionLaw c := by
  simp only [List.forall_mem_cons, List.not_mem_nil, false_implies, implies_true, and_true]
  refine ⟨.of_running (fun _ => rfl) fun s hs => ?_,
    .of_running (fun _ => rfl) fun s hs => .ite (.of_rest (State.motionStop_rest _ .holdLapse)) hs,
    .of_running (fun _ => rfl) fun s hs => .ite ((State.latchCause_held (s.setSpan _) .stopFailed).motionLaw hs) hs,
    .of_running (fun _ => rfl) fun s hs => .ite ((s.motionStop_noStart .startFailed).motionLaw hs) hs,
    .of_running (fun _ => rfl) fun s hs => NoStart.motionLaw (.of_motion (by simp) (by simp)) hs,
    .of_running (fun _ => rfl) fun s hs => ?_, .of_running (fun _ => rfl) fun s hs => ?_,
    .of_running (fun _ => rfl) fun s hs => ?_, .of_running (fun _ => rfl) fun s hs => ?_,
    .of_running (fun _ => rfl) fun s hs => ?_, .of_running (fun _ => rfl) fun s hs => ?_⟩
  · split
    · exact hs
    · refine .ite ?_ hs
      exact NoStart.motionLaw (.of_motion (by simp [State.takeHold]) (by simp [State.takeHold])) hs
  · split
    · exact NoStart.motionLaw (.of_motion (by simp) (by simp)) hs
    · exact hs
  · split
    · exact hs
    · exact hs
  · split
    · exact hs
    · exact hs
  · rcases s.serve_cases _ _ with ⟨f, rest, -, -, -, -, h⟩ | h
    · rw [h]
      exact NoStart.motionLaw (.of_motion (by simp) (by simp)) hs
    · rw [h]
      exact hs
  · refine (State.reportOccupancy_noStart _).motionLaw ?_
    exact KeepsMotionLaw.foldl _ (fun r t ht => NoStart.motionLaw (.of_motion (by simp) (by simp)) ht) _ (s.setGate _) hs
  · split
    · exact hs
    · exact State.cancelQueues_motionLaw (s.setGate _) hs

/-- The rows of the Crossing Sequencer and of the Channel Controller (07, 08). -/
theorem crossingRows_keepMotionLaw :
    ∀ c ∈ ([.advanceTest, .dwellExpiry, .phaseLimitExpiry, .sequencerStanddown, .passage, .greenTimerExpiry,
        .changeoverTimerExpiry, .retryTimerExpiry, .channelStanddownClose] : List Instr),
      CommandKeepsMotionLaw c := by
  simp only [List.forall_mem_cons, List.not_mem_nil, false_implies, implies_true, and_true]
  refine ⟨.of_running (fun _ => rfl) fun s hs => ?_,
    .of_running (fun _ => rfl) fun s hs => .ite ((State.advanceTest_held (s.setSeq _)).motionLaw hs) hs,
    .of_running (fun _ => rfl) fun s hs => .ite ((State.phaseFault_held (s.setSeq _) .limit).motionLaw hs) hs,
    .of_running (fun _ => rfl) fun s hs => ?_, .of_running (fun _ => rfl) fun s hs => ?_,
    .of_running (fun _ => rfl) fun s hs => .ite hs hs,
    .of_running (fun _ => rfl) fun s hs =>
      .ite ((State.channelStep_held (s.setChan _) _ (State.changeoverEnd_held _)).motionLaw hs) hs,
    .of_running (fun _ => rfl) fun s hs =>
      .ite ((State.channelStep_held (s.setChan _) _ (State.openingTest_held _)).motionLaw hs) hs,
    .of_running (fun _ => rfl) fun s hs => ?_⟩
  · split
    · exact hs
    · exact (State.advanceTest_held (s.setSeq _)).motionLaw hs
  · split
    · exact hs
    · exact (State.phaseFault_held (s.setSeq _) .standdown).motionLaw hs
  · split
    · exact hs
    · exact (State.channelStep_held (s.setChan _) _ (State.passages_held _ _)).motionLaw hs
  · split
    · exact hs
    · exact (State.channelStep_held (s.setChan _) _ (State.close_held _)).motionLaw hs

/-- The rows of the hardwired lines, the resets and the supply (10:R170, R181). -/
theorem modeRows_keepMotionLaw (source : ResetSource) (line : HardLine) (level : LineLevel) :
    ∀ c ∈ ([.estopAsserted, .estopReleased, .maintKeyOn, .maintKeyOff, .powerOnReset, .warmReset source,
        .rawLineChange line level, .resetLineReleased, .supplyLoss] : List Instr), CommandKeepsMotionLaw c := by
  simp only [List.forall_mem_cons, List.not_mem_nil, false_implies, implies_true, and_true]
  refine ⟨.of_running (fun _ => rfl) fun s hs => .ite ((State.latchCause_held (s.setUnit _) .estopLine).motionLaw hs) hs,
    .of_running (fun _ => rfl) fun s hs => .ite hs hs,
    .of_running (fun _ => rfl) fun s hs => .ite ((State.keyOn_held (s.setUnit _)).motionLaw hs) hs,
    .of_running (fun _ => rfl) fun s hs => .ite (State.keyOff_motionLaw (s.setUnit _) hs) hs,
    fun s t _ ht => ?_, .of_running (fun _ => rfl) fun s hs => ?_, fun s t hs ht => ?_, fun s t hs ht => ?_,
    fun s t _ ht => ?_⟩
  · cases ht
    exact State.endOfReset_motionLaw _ s.powerOnCleared_motionLaw
  · cases source with
    | resetLine => exact s.warmCleared_motionLaw
    | restart => exact .ite (State.endOfReset_motionLaw _ s.warmCleared_motionLaw) hs
  · cases ht
    cases line with
    | estop => exact hs
    | maintKey => exact hs
  · cases ht
    exact .ite (State.endOfReset_motionLaw s hs) hs
  · cases ht
    exact s.powerOnCleared_motionLaw

/-- The rows that write and clear the tables and the records (11:R184). -/
theorem tableRows_keepMotionLaw :
    (∀ row ∈ writeRows, CommandKeepsMotionLaw row.1) ∧ ∀ row ∈ clearRows, CommandKeepsMotionLaw row.1 := by
  simp only [writeRows, clearRows, List.forall_mem_cons, List.not_mem_nil, false_implies, implies_true, and_true]
  have hpoint (n : Nat) (e : Option PointEntry) : KeepsMotionLaw (·.rewritePoint n e) := fun s hs =>
    (s.rewritePoint_noStart n e).motionLaw hs
  have hspan (r : Option SpanRecord) : KeepsMotionLaw (·.writeSpanRecord r) := fun s hs =>
    (s.writeSpanRecord_noStart r).motionLaw hs
  refine ⟨⟨.of_tableWrite (fun _ => rfl) fun n e => hpoint n (some e),
      .of_tableWrite (fun _ => rfl) fun n e => State.writeCondition_motionLaw n (some e),
      .of_tableWrite (fun _ => rfl) fun _ _ _ hs => hs, .of_tableWrite (fun _ => rfl) fun _ _ _ hs => hs,
      .of_tableWrite (fun _ => rfl) fun _ _ _ hs => hs, .of_tableWrite (fun _ => rfl) fun _ _ _ hs => hs,
      .of_tableWrite (fun _ => rfl) fun _ r => hspan (some r), .of_tableWrite (fun _ => rfl) fun _ _ _ hs => hs⟩,
    .of_tableClear (fun _ => rfl) fun n => hpoint n none,
    .of_tableClear (fun _ => rfl) fun n => State.writeCondition_motionLaw n none,
    .of_tableClear (fun _ => rfl) fun _ _ hs => hs, .of_tableClear (fun _ => rfl) fun _ _ hs => hs,
    .of_tableClear (fun _ => rfl) fun _ _ hs => hs, .of_tableClear (fun _ => rfl) fun _ _ hs => hs,
    .of_tableClear (fun _ => rfl) fun _ => hspan none, .of_tableClear (fun _ => rfl) fun _ _ hs => hs⟩

/-- The rows that read (11:R185 to R187). -/
theorem readRows_keepMotionLaw : ∀ row ∈ readRows, CommandKeepsMotionLaw row.1 := by
  simp only [readRows, List.forall_mem_cons, List.not_mem_nil, false_implies, implies_true, and_true]
  refine ⟨.of_request (fun _ => rfl) fun f s hs => .sized f 3 (.ite (.denied _ hs) (.ite (.denied _ hs) (.read _ hs))) hs,
    .of_request (fun _ => rfl) fun f s hs => .sized f 1 (.read _ hs) hs,
    .of_request (fun _ => rfl) fun f s hs => .sized f 3 (rangeRead_keeps f 0 128 _ hs) hs,
    .of_request (fun _ => rfl) fun f s hs => .sized f 1 (fun _ => hs) hs,
    .of_request (fun _ => rfl) fun f s hs => .sized f 3 (rangeRead_keeps f 1 101 _ hs) hs,
    .of_request (fun _ => rfl) fun f s hs => .sized f 1 (.read _ hs) hs,
    .of_request (fun _ => rfl) fun f s hs => .sized f 1 (.read _ hs) hs,
    .of_request (fun _ => rfl) fun f s hs => .sized f 1 (.read _ hs) hs⟩

/-- The requests that write the limits, act, or move the crossing, the vessels or the mode. -/
theorem sizedRows_keepMotionLaw : ∀ row ∈ sizedRows, CommandKeepsMotionLaw row.1 := by
  simp only [sizedRows, List.forall_mem_cons, List.not_mem_nil, false_implies, implies_true, and_true]
  have hrecord (x : RequestRecord) : KeepsMotionLaw (·.record x) := fun s hs => (s.record_held x).motionLaw hs
  refine ⟨.of_request (fun _ => rfl) fun f s hs => .sized f 43 (.ite (.denied _ hs) (.ite (.denied _ hs)
      (.ite (.denied _ hs) ?_))) hs,
    .of_request (fun _ => rfl) fun f s hs => .sized f 2 (.ite (.denied _ hs) ?_) hs,
    .of_request (fun _ => rfl) fun f s hs => .sized f 1 (fun _ => hs) hs,
    .of_request (fun _ => rfl) fun f s hs => .sized f 4 (.ite (.denied _ hs) ?_) hs,
    .of_request (fun _ => rfl) fun f s hs => .sized f 1 (sequenceReply_keeps _ (hrecord .openRequest) hs) hs,
    .of_request (fun _ => rfl) fun f s hs => .sized f 1 (sequenceReply_keeps _ (hrecord .closeRequest) hs) hs,
    .of_request (fun _ => rfl) fun f s hs =>
      .sized f 1 (sequenceReply_keeps _ (fun t ht => t.halt_noStart.motionLaw ht) hs) hs,
    .of_request (fun _ => rfl) fun f s hs => .sized f 1 (entryReply_keeps _ .resume hs) hs,
    .of_request (fun _ => rfl) fun f s hs => .sized f 1 (entryReply_keeps _ .reverse hs) hs,
    .of_request (fun _ => rfl) fun f s hs =>
      .sized f 1 (sequenceReply_keeps _ (fun t ht => t.recover_held.motionLaw ht) hs) hs,
    .of_request (fun _ => rfl) fun f s hs => .sized f 4 (.ite (.denied _ hs) (vesselAddReply_keeps _ _ hs)) hs,
    .of_request (fun _ => rfl) fun f s hs => .sized f 3 (.ite (.accepted [] (fun t ht =>
      (t.channelStep_held _ (t.removeVessel_held _)).motionLaw ht) hs) (.denied _ hs)) hs,
    .of_request (fun _ => rfl) fun f s hs => .sized f 1 (fun c => State.clearCauses_motionLaw (s.setConsole c) _ hs
      s.remainingCauses_empty) hs,
    .of_request (fun _ => rfl) fun f s hs => .sized f 1 (.ite (.denied _ hs) ?_) hs,
    .of_request (fun _ => rfl) fun f s hs => .sized f 1 (.ite (.denied _ hs) (fun _ => hs)) hs⟩
  · split
    · exact fun _ => hs
    · exact .denied _ hs
  · split
    · exact .accepted [] (State.takeDuty_motionLaw _) hs
    · exact .denied _ hs
  · split
    · exact .denied _ hs
    · exact .ite (fun _ => hs) (.denied _ hs)
  · split
    · exact fun _ => hs
    · exact .accepted [] State.validated_enterService_motionLaw hs

/-- The rows that move nothing but the Console Port, the duty counters and the field line. -/
theorem quietRows_keepMotionLaw :
    ∀ c ∈ ([.consoleFrameReceived, .lineMark, .egressFrameStart, .egressFrameSent, .millisecondAdvance,
        .fieldLineMark, .unknownRequest] : List Instr), CommandKeepsMotionLaw c := by
  simp only [List.forall_mem_cons, List.not_mem_nil, false_implies, implies_true, and_true]
  refine ⟨.of_running (fun _ => rfl) fun s hs => ?_, .of_running (fun _ => rfl) fun _ hs => hs,
    .of_running (fun _ => rfl) fun _ hs => .ite hs hs, .of_running (fun _ => rfl) fun _ hs => .ite hs hs,
    .of_running (fun _ => rfl) fun _ hs => hs, .of_running (fun _ => rfl) fun _ hs => hs,
    .of_request (fun _ => rfl) fun _ _ hs => .denied _ hs⟩
  split
  · exact hs
  · exact .ite hs hs

/-- No command breaks the law of R120. -/
theorem exec_keepsMotionLaw (c : Instr) : CommandKeepsMotionLaw c := by
  have hwrite := List.forall_mem_map.mpr tableRows_keepMotionLaw.1
  have hclear := List.forall_mem_map.mpr tableRows_keepMotionLaw.2
  have hread := List.forall_mem_map.mpr readRows_keepMotionLaw
  have hsized := List.forall_mem_map.mpr sizedRows_keepMotionLaw
  cases c with
  | frameComplete l data | truncatedFault l data | lengthFault l data =>
    exact linkRows_keepMotionLaw l false data _ (by simp)
  | badStopBit l | gapFault l => exact linkRows_keepMotionLaw l false 0 _ (by simp)
  | validCharacter l mark data => exact linkRows_keepMotionLaw l mark data _ (by simp)
  | lineBreak | fieldBreak => exact linkRows_keepMotionLaw .field false 0 _ (by simp)
  | arbiterChoice | frameFullySent | contention | turnaroundEnd | replyTimeout | fieldFrameReceived | allStopBreak
  | breakIdleEnd => exact fieldRows_keepMotionLaw _ (by simp)
  | motionHold | holdTimerExpiry | stopTimerExpiry | startWindowExpiry | provingEnd | counterChange
  | conditionTrueEvent | holdRelease | consoleOrderAdmission | holdDeadlineExpiry | gateStanddownCancel =>
    exact eventRows_keepMotionLaw _ (by simp)
  | advanceTest | dwellExpiry | phaseLimitExpiry | sequencerStanddown | passage | greenTimerExpiry
  | changeoverTimerExpiry | retryTimerExpiry | channelStanddownClose => exact crossingRows_keepMotionLaw _ (by simp)
  | warmReset source => exact modeRows_keepMotionLaw source .estop .low _ (by simp)
  | rawLineChange line level => exact modeRows_keepMotionLaw .restart line level _ (by simp)
  | estopAsserted | estopReleased | maintKeyOn | maintKeyOff | powerOnReset | resetLineReleased | supplyLoss =>
    exact modeRows_keepMotionLaw .restart .estop .low _ (by simp)
  | consoleFrameReceived | lineMark | egressFrameStart | egressFrameSent | millisecondAdvance | fieldLineMark
  | unknownRequest => exact quietRows_keepMotionLaw _ (by simp)
  | writeEntryPointMap | writeEntryCondition | writeEntryPermit | writeEntryScanList | writeEntryPhase
  | writeEntryCounterControl | writeEntrySpanRecord | writeEntryChannelRecord => exact hwrite _ (by simp [writeRows])
  | clearEntryPointMap | clearEntryCondition | clearEntryPermit | clearEntryScanList | clearEntryPhase
  | clearEntryCounterControl | clearEntrySpanRecord | clearEntryChannelRecord => exact hclear _ (by simp [clearRows])
  | readEntry | readLimits | readPoints | readStatus | readNodes | readCounters | readResidency | readVessels =>
    exact hread _ (by simp [readRows])
  | writeLimits | counterClear | unfreeze | scanControl | openRequest | closeRequest | haltRequest | resumeRequest
  | reverseRequest | recoverRequest | vesselAdd | vesselRemove | clearStanddown | startService | restartRequest =>
    exact hsized _ (by simp [sizedRows])

/-- Settles O5: each command keeps the law (`exec_keepsMotionLaw`), and an idle step changes nothing. -/
theorem motionOnlyWithChainAllowed : Obligations.MotionOnlyWithChainAllowed := by
  intro s t hs ht
  unfold step at ht
  split at ht
  · cases ht
    exact hs
  · refine exec_keepsMotionLaw _ _ t ?_ ht
    exact hs
end Sys2Proof.Machine
end

section
/-! ### Rounding (00_scope, Conventions) -/

namespace Sys2Proof.Machine

theorem Nearest.neg {n h : Int} {d : Nat} (hn : Nearest n d h) : Nearest (-n) d (-h) := by
  obtain ⟨hle, htie⟩ := hn
  have hneg : (2 * (d * -h - -n)).natAbs = (2 * (d * h - n)).natAbs := by
    rw [Int.mul_neg]
    omega
  unfold Nearest
  rw [hneg, Int.mul_neg, Int.natAbs_neg, Int.natAbs_neg]
  exact ⟨hle, htie⟩

/-- The quotient of a value that is not negative, as the Euclidean division of twice it plus the divisor. -/
theorem nearest_natCast (m d : Nat) (hd : 0 < d) : Nearest m d ((2 * m + d) / (2 * d) : Nat) := by
  have hdiv := Nat.div_add_mod (2 * m + d) (2 * d)
  have hmod := Nat.mod_lt (2 * m + d) (Nat.mul_pos Nat.two_pos hd)
  generalize (2 * m + d) / (2 * d) = q at *
  rw [Nat.mul_assoc] at hdiv
  unfold Nearest
  rw [← Nat.cast_mul]
  generalize d * q = p at *
  omega

theorem roundDiv_nearest (n : Int) (d : Nat) (hd : 0 < d) : Nearest n d (roundDiv n d) := by
  have hnat := nearest_natCast n.natAbs d hd
  unfold roundDiv
  split
  next hn =>
    have hneg := hnat.neg
    rwa [show -(n.natAbs : Int) = n by omega] at hneg
  next hn => rwa [show (n.natAbs : Int) = n by omega] at hnat

theorem roundDiv_neg (n : Int) (d : Nat) : roundDiv (-n) d = -roundDiv n d := by
  unfold roundDiv
  rw [Int.natAbs_neg]
  rcases lt_trichotomy n 0 with hn | rfl | hn
  · rw [if_pos hn, if_neg (by omega), Int.neg_neg]
  · rcases Nat.eq_zero_or_pos d with rfl | hd
    · simp
    · simp [Nat.div_eq_of_lt (show d < 2 * d by omega)]
  · rw [if_pos (by omega), if_neg (by omega)]

/-! ### Heights and trims (06:R103, R111) -/

theorem TowerRecord.rawHeight_nearest (t : TowerRecord) (raw : Nat) :
    Nearest ((if t.negative then (t.zero : Int) - raw else (raw : Int) - t.zero) * t.scale) 16000 (t.rawHeight raw) := by
  have hneg : (t.zero : Int) - raw = -((raw : Int) - t.zero) := by omega
  rw [hneg]
  exact roundDiv_nearest _ _ (by decide)

theorem TowerRecord.outOfRange_iff (t : TowerRecord) (raw : Nat) :
    t.outOfRange raw = true ↔ t.rawHeight raw < -5000 ∨ 80000 < t.rawHeight raw := by
  have hlo : Config.heightMin = -5000 := rfl
  have hhi : Config.heightMax = 80000 := rfl
  unfold TowerRecord.outOfRange TowerRecord.height clampTo
  rw [bne_iff_ne, hlo, hhi]
  split_ifs <;> omega

theorem trimOf_neg (skew : Int) (gain uMax : Nat) : trimOf (-skew) gain uMax = -trimOf skew gain uMax := by
  unfold trimOf clampTo
  rw [Int.neg_mul, roundDiv_neg]
  split_ifs <;> omega

/-- The deadband of R111, also where it is 0. -/
theorem deadband_le_iff (deadband : Nat) (u last : Int) :
    max deadband 1 ≤ (u - last).natAbs ↔ deadband ≤ (u - last).natAbs ∧ u ≠ last := by
  omega

/-- A trim below the deadband is not placed, nor is the last trim again. -/
theorem State.trimStage_unplaced (s : State) (l : LimitRecord) (r : SpanRecord) (skew : Int)
    (h : (trimOf skew (r.gain s.span.correction) l.uMax - s.span.lastTrim).natAbs < r.deadband
      ∨ trimOf skew (r.gain s.span.correction) l.uMax = s.span.lastTrim) : s.trimStage l r skew = s := by
  refine if_neg fun hlarge => ?_
  obtain ⟨hband, hne⟩ := (deadband_le_iff ..).mp hlarge
  exact h.elim (Nat.not_lt.mpr hband) hne

/-- Settles O36: `roundDiv` is nearest (`roundDiv_nearest`) and odd (`roundDiv_neg`); the clamps and the deadband are
comparisons of integers. -/
theorem heightsAndTrimsAreRounded : Obligations.HeightsAndTrimsAreRounded :=
  ⟨fun t raw => ⟨t.rawHeight raw, t.rawHeight_nearest raw, rfl, t.outOfRange_iff raw⟩,
    fun skew gain uMax => ⟨_, roundDiv_nearest _ _ (by decide), rfl, trimOf_neg skew gain uMax⟩,
    fun s l r skew => ⟨s.trimStage_unplaced l r skew, fun hband hne => if_pos ((deadband_le_iff ..).mpr ⟨hband, hne⟩)⟩⟩

end Sys2Proof.Machine
end

section
/-! ### The stages of a pair (06:R99, R100, R110, R112, R117) -/

namespace Sys2Proof.Machine

theorem State.whileMoving_moving {s : State} (f : State → State) (h : Moving s) : s.whileMoving f = f s :=
  if_pos (s.moving_iff.mpr h)

theorem State.whileMoving_rest {s : State} (f : State → State) (h : ¬Moving s) : s.whileMoving f = s :=
  if_neg (mt s.moving_iff.mp h)

theorem State.correctionStage_moving (s : State) (l : LimitRecord) (skew : Int) :
    Moving (s.correctionStage l skew) ↔ Moving s := by
  simp [Moving]

theorem State.bandStage_moving (s : State) (r : SpanRecord) (v : Int) : Moving (s.bandStage r v) ↔ Moving s := by
  simp [Moving]

/-- The stages of motion in turn, each while the state before it still moves (06:R102). -/
theorem State.motionStages_moving (s : State) (l : LimitRecord) (r : SpanRecord) (skew mean v : Int) (h : Moving s) :
    s.motionStages l r skew mean v =
      ((((s.correctionStage l skew).bandStage r v).overspeedStage l mean v).whileMoving (·.arrivalStage r mean)).whileMoving
        (·.trimStage l r skew) := by
  have hc : Moving (s.correctionStage l skew) := (s.correctionStage_moving l skew).mpr h
  have hb : Moving ((s.correctionStage l skew).bandStage r v) := (State.bandStage_moving ..).mpr hc
  unfold State.motionStages
  rw [State.whileMoving_moving _ h, State.whileMoving_moving _ hc, State.whileMoving_moving _ hb]

theorem State.motionStages_rest (s : State) (l : LimitRecord) (r : SpanRecord) (skew mean v : Int) (h : ¬Moving s) :
    s.motionStages l r skew mean v = s := by
  unfold State.motionStages
  iterate 5 rw [State.whileMoving_rest _ h]

/-- R110 in ACQUIRE. -/
theorem State.correctionStage_acquire (s : State) (l : LimitRecord) (skew : Int) (h : s.span.correction = .acquire) :
    (l.eTrk < skew.natAbs → s.correctionStage l skew = s.setSpan { s.span with trackRun := 0 })
      ∧ (skew.natAbs ≤ l.eTrk → min (s.span.trackRun + 1) 15 < l.nTrk →
        s.correctionStage l skew = s.setSpan { s.span with trackRun := min (s.span.trackRun + 1) 15 })
      ∧ (skew.natAbs ≤ l.eTrk → l.nTrk ≤ min (s.span.trackRun + 1) 15 →
        PointWritten (s.setSpan { s.span with trackRun := min (s.span.trackRun + 1) 15, correction := .track })
          (s.correctionStage l skew) 118 1) := by
  have hstage : s.correctionStage l skew =
      if skew.natAbs ≤ l.eTrk then
        if l.nTrk ≤ min (s.span.trackRun + 1) 15 then
          (s.setSpan { s.span with trackRun := min (s.span.trackRun + 1) 15 }).setCorrection .track
        else s.setSpan { s.span with trackRun := min (s.span.trackRun + 1) 15 }
      else s.setSpan { s.span with trackRun := 0 } := by
    unfold State.correctionStage
    rw [h]
    rfl
  rw [hstage]
  refine ⟨fun hout => if_neg (Nat.not_le.mpr hout), fun hin hrun => ?_, fun hin hrun => ?_⟩
  · rw [if_pos hin, if_neg (Nat.not_le.mpr hrun)]
  · rw [if_pos hin, if_pos hrun]
    exact State.writePoint_written _ 118 1

/-- R110 in TRACK. -/
theorem State.correctionStage_track (s : State) (l : LimitRecord) (skew : Int) (h : s.span.correction = .track) :
    (skew.natAbs ≤ l.xTrk → s.correctionStage l skew = s)
      ∧ (l.xTrk < skew.natAbs →
        PointWritten (s.setSpan { s.span with trackRun := 0, correction := .acquire }) (s.correctionStage l skew) 118 0) := by
  have hstage : s.correctionStage l skew =
      if l.xTrk < skew.natAbs then (s.setSpan { s.span with trackRun := 0 }).setCorrection .acquire else s := by
    unfold State.correctionStage
    rw [h]
  rw [hstage]
  refine ⟨fun hin => if_neg (Nat.not_lt.mpr hin), fun hout => ?_⟩
  rw [if_pos hout]
  exact State.writePoint_written _ 118 0

theorem SpanRecord.band_eq_none {r : SpanRecord} {v : Int} (h : r.b4 < v.natAbs) (h12 : r.b1 ≤ r.b2) (h23 : r.b2 ≤ r.b3)
    (h34 : r.b3 ≤ r.b4) : r.band v.natAbs = none := by
  unfold SpanRecord.band
  rw [if_neg (by omega), if_neg (by omega), if_neg (by omega), if_neg (by omega)]

theorem SpanRecord.band_eq_some {r : SpanRecord} {v : Int} {n : Nat} (h : InBand r v n) (h12 : r.b1 ≤ r.b2)
    (h23 : r.b2 ≤ r.b3) : r.band v.natAbs = some n := by
  unfold SpanRecord.band
  rcases h with ⟨rfl, h⟩ | ⟨rfl, hlo, hhi⟩ | ⟨rfl, hlo, hhi⟩ | ⟨rfl, hlo, hhi⟩
  · rw [if_pos h]
  · rw [if_neg (by omega), if_pos hhi]
  · rw [if_neg (by omega), if_neg (by omega), if_pos hhi]
  · rw [if_neg (by omega), if_neg (by omega), if_neg (by omega), if_pos hhi]

theorem Duty.band_frozen {d : Duty} (n : Nat) (h : d.frozen = true) : d.band n = d := if_pos h

theorem Duty.band_counts {d : Duty} (n : Nat) (h : d.frozen = false) :
    d.band n = { d with bands := put d.bands n (min (look d.bands n 0 + 1) 4294967295) } :=
  if_neg (by simp [h])

theorem State.bandStage_frozen (s : State) (r : SpanRecord) (v : Int) (h : s.duty.frozen = true) :
    s.bandStage r v = s := by
  unfold State.bandStage
  split
  · rw [Duty.band_frozen _ h]
    rfl
  · rfl

theorem State.bandStage_above (s : State) (r : SpanRecord) (v : Int) (h : r.band v.natAbs = none) :
    s.bandStage r v = s := by
  unfold State.bandStage
  rw [h]

theorem State.bandStage_counts (s : State) (r : SpanRecord) (v : Int) (n : Nat) (h : r.band v.natAbs = some n)
    (hfrozen : s.duty.frozen = false) : s.bandStage r v =
      s.setDuty { s.duty with bands := put s.duty.bands n (min (look s.duty.bands n 0 + 1) 4294967295) } := by
  unfold State.bandStage
  rw [h]
  exact congrArg s.setDuty (Duty.band_counts n hfrozen)

/-- R117. -/
theorem State.overspeedStage_acts (s : State) (l : LimitRecord) (r : SpanRecord) (mean v : Int)
    (hl : s.unit.limits = some l) (hr : s.span.record = some r) :
    (v.natAbs ≤ ZoneLimit l mean → s.overspeedStage l mean v = s.setSpan { s.span with overspeedRun := 0 })
      ∧ (ZoneLimit l mean < v.natAbs → s.span.overspeedRun = 0 →
        s.overspeedStage l mean v = s.setSpan { s.span with overspeedRun := 1 })
      ∧ (ZoneLimit l mean < v.natAbs → 1 ≤ s.span.overspeedRun → Moving s →
        MotionStopped (s.setSpan { s.span with overspeedRun := 2 }) (s.overspeedStage l mean v) l r .overspeed) := by
  have hzone : l.speedAt mean = ZoneLimit l mean := rfl
  have hpairs : Config.overspeedPairs = 2 := rfl
  unfold State.overspeedStage
  rw [hzone, hpairs]
  refine ⟨fun hin => ?_, fun hout hrun => ?_, fun hout hrun hm => ?_⟩
  · rw [if_neg (Nat.not_lt.mpr hin)]
    exact if_neg (by decide)
  · rw [if_pos hout, hrun]
    exact if_neg (by decide)
  · rw [if_pos hout, show bump 2 s.span.overspeedRun = 2 from Nat.min_eq_right (by omega)]
    exact State.motionStop_stopped _ l r .overspeed hm hr hl

theorem SpanRecord.arrived_iff (r : SpanRecord) (m : MotionState) (mean : Int) :
    r.arrived m mean = true ↔ Arrives r m mean := by
  unfold SpanRecord.arrived Arrives
  cases m <;> simp

/-- R99. -/
theorem State.arrivalStage_arrives (s : State) (l : LimitRecord) (r : SpanRecord) (mean : Int)
    (hl : s.unit.limits = some l) (hr : s.span.record = some r) (h : Arrives r s.span.motion mean) :
    PointWritten
      ((s.setField
        { s.field with
          trimA := none, trimB := none
          stopA := some { node := r.a.hoist, cls := r.stop, arg := 0 }
          stopB := some { node := r.b.hoist, cls := r.stop, arg := 0 } }).setSpan
        { s.span with
          motion := .stopping, stopKind := some .arrival, standstillRun := 0, startWindow := none
          stopTimer := some (s.now + BitVec.ofNat 32 (l.stopLimit * 1000)) }) (s.arrivalStage r mean) 119 3 := by
  have hexpiry : s.stopExpiry = some (s.now + BitVec.ofNat 32 (l.stopLimit * 1000)) := by
    unfold State.stopExpiry
    rw [hl]
    rfl
  unfold State.arrivalStage
  rw [if_pos ((r.arrived_iff _ _).mpr h)]
  unfold State.beginStopping
  rw [s.placeStops_eq r hr, ← hexpiry]
  exact State.writePoint_written _ 119 3

/-- The end of STOPPING after an arrival (06:R100). -/
theorem State.standstillEnd_arrival (s : State) (h : s.span.stopKind = some .arrival) :
    PointWritten (s.setSpan { s.span with motion := .idle, stopTimer := none, stopKind := none }) s.standstillEnd 119 0 := by
  unfold State.standstillEnd
  rw [h]
  exact State.writePoint_written _ 119 0

/-- The end of STOPPING after a fault (06:R100). -/
theorem State.standstillEnd_fault (s : State) (h : s.span.stopKind = some .fault) :
    PointWritten (s.setSpan { s.span with motion := .stopped, stopTimer := none, stopKind := none }) s.standstillEnd 119 4 := by
  unfold State.standstillEnd
  rw [h]
  exact State.writePoint_written _ 119 4

/-- R100. -/
theorem State.standstillStage_acts (s : State) (r : SpanRecord) (v : Int) :
    let ended := fun m => { s.span with motion := m, standstillRun := 3, stopTimer := none, stopKind := none }
    (s.span.motion ≠ .stopping → s.standstillStage r v = s)
      ∧ (s.span.motion = .stopping → r.standstill < v.natAbs →
        s.standstillStage r v = s.setSpan { s.span with standstillRun := 0 })
      ∧ (s.span.motion = .stopping → v.natAbs ≤ r.standstill → s.span.standstillRun < 2 →
        s.standstillStage r v = s.setSpan { s.span with standstillRun := s.span.standstillRun + 1 })
      ∧ (s.span.motion = .stopping → v.natAbs ≤ r.standstill → 2 ≤ s.span.standstillRun →
        (s.span.stopKind = some .arrival → PointWritten (s.setSpan (ended .idle)) (s.standstillStage r v) 119 0)
          ∧ (s.span.stopKind = some .fault → PointWritten (s.setSpan (ended .stopped)) (s.standstillStage r v) 119 4)) := by
  have hpairs : Config.standstillPairs = 3 := rfl
  dsimp only
  unfold State.standstillStage
  rw [hpairs]
  refine ⟨fun h => if_neg h, fun h hout => ?_, fun h hin hrun => ?_, fun h hin hrun => ?_⟩
  · rw [if_pos h, if_neg (Nat.not_le.mpr hout)]
    exact if_neg (by decide)
  · rw [if_pos h, if_pos hin, show bump 3 s.span.standstillRun = s.span.standstillRun + 1 from Nat.min_eq_left (by omega)]
    exact if_neg (by omega)
  · rw [if_pos h, if_pos hin, show bump 3 s.span.standstillRun = 3 from Nat.min_eq_right (by omega)]
    let u := s.setSpan { s.span with standstillRun := 3 }
    exact ⟨u.standstillEnd_arrival, u.standstillEnd_fault⟩

/-- Settles O38, one lemma per stage. -/
theorem pairStagesAct : Obligations.PairStagesAct := by
  intro s l r skew mean v hl hr
  refine ⟨s.motionStages_rest l r skew mean v, fun hm => ?_,
    ⟨s.correctionStage_acquire l skew, s.correctionStage_track l skew⟩, fun h12 h23 h34 => ⟨?_, fun n hn hfrozen => ?_⟩,
    s.overspeedStage_acts l r mean v hl hr,
    ⟨fun h => if_neg (mt (r.arrived_iff _ _).mp h), s.arrivalStage_arrives l r mean hl hr⟩, s.standstillStage_acts r v⟩
  · rw [s.motionStages_moving l r skew mean v hm]
    refine ⟨fun hc => ?_, fun hc ha => ?_, fun ha => ?_⟩
    · rw [State.whileMoving_rest _ hc, State.whileMoving_rest _ hc]
    · rw [State.whileMoving_moving _ hc, State.whileMoving_rest _ ha]
    · have hc := ((State.arrivalStage_noStart _ r mean) ha).1
      rw [State.whileMoving_moving _ hc, State.whileMoving_moving _ ha]
  · rintro (habove | hfrozen)
    · exact s.bandStage_above r v (SpanRecord.band_eq_none habove h12 h23 h34)
    · exact s.bandStage_frozen r v hfrozen
  · exact s.bandStage_counts r v n (SpanRecord.band_eq_some hn h12 h23) hfrozen

end Sys2Proof.Machine
end

section
/-! ### The timers of the Span Supervisor (06:R101, R114, R115) -/

namespace Sys2Proof.Machine

/-- The interval that the hold timer compares is that of `HoldInterval` (06:R115). -/
theorem HoldInterval.eq {s : State} {ms : Nat} (h : HoldInterval s ms) : s.holdInterval = ms := by
  obtain ⟨hsome, hnone⟩ := h
  unfold State.holdInterval
  split
  next l hl => exact (hsome l hl).symm
  next hl => exact (hnone hl).symm

theorem State.holdDue_iff {s : State} {t : Time} {ms : Nat} (hrunning : s.span.holdRunning = true)
    (hhold : s.span.lastHold = some t) (hms : HoldInterval s ms) : s.holdDue = true ↔ ms < (s.now - t).toNat := by
  simp [State.holdDue, hrunning, hhold, hms.eq, elapsed]

theorem State.motionStop_of_rest {s : State} (c : MotionCause) (h : ¬Moving s) : s.motionStop c = s :=
  if_neg (mt s.moving_iff.mp h)

/-- MOTION HOLD (06:R115). -/
theorem exec_motionHold {s : State} {a : Arrival} {rest : List Arrival} (hp : s.power = .running)
    (ha : s.console.arrivals = a :: rest) (hkind : a.frame.kind = 3) :
    exec .motionHold s = .next ((s.setConsole { s.console with arrivals := rest }).takeHold a.time) := by
  show Host.Outcome.next (s.whenRunning _) = _
  rw [State.whenRunning_running _ _ hp, ha]
  exact congrArg _ (if_pos hkind)

/-- The expiry of the hold timer, before its time and at it (06:R115). -/
theorem exec_holdTimerExpiry {s : State} (hp : s.power = .running) :
    exec .holdTimerExpiry s = .next (if s.holdDue then
      ((s.setSpan { s.span with holdRunning := false }).writePoint 125 0).motionStop .holdLapse else s) :=
  congrArg Host.Outcome.next (State.whenRunning_running _ _ hp)

/-- The expiry of the start window, likewise (06:R114). -/
theorem exec_startWindowExpiry {s : State} {w : StartWindow} (hp : s.power = .running)
    (hw : s.span.startWindow = some w) (hm : Moving s) :
    exec .startWindowExpiry s = .next (if due s.now w.expiry then s.motionStop .startFailed else s) := by
  have hdue : s.windowDue = due s.now w.expiry := by
    unfold State.windowDue
    rw [hw]
    rfl
  show Host.Outcome.next (s.whenRunning _) = _
  rw [State.whenRunning_running _ _ hp, hdue]
  simp [s.moving_iff.mpr hm]

/-- The expiry of the stop timer, likewise (06:R101). -/
theorem exec_stopTimerExpiry {s : State} {e : Time} (hp : s.power = .running) (he : s.span.stopTimer = some e)
    (hm : s.span.motion = .stopping) :
    exec .stopTimerExpiry s = .next (if due s.now e then
      (s.setSpan { s.span with stopTimer := none }).latchCause .stopFailed else s) := by
  have hdue : timerDue s.now s.span.stopTimer = due s.now e := by
    rw [he]
    rfl
  show Host.Outcome.next (s.whenRunning _) = _
  rw [State.whenRunning_running _ _ hp, hdue]
  simp [hm]

/-- Settles O41, timer by timer. -/
theorem spanTimersAct : Obligations.SpanTimersAct := by
  intro s hp _
  refine ⟨fun a rest ha hkind => ⟨_, exec_motionHold hp ha hkind, State.writePoint_written _ 125 1⟩,
    fun h ms hrunning hhold hms => ?_, fun w l r hw hm hl hr => ?_, fun e he hm => ?_⟩
  · have hdue := s.holdDue_iff hrunning hhold hms
    let u := (s.setSpan { s.span with holdRunning := false }).writePoint 125 0
    have hu : PointWritten (s.setSpan { s.span with holdRunning := false }) u 125 0 := State.writePoint_written _ 125 0
    have hmotion : Moving u ↔ Moving s := by simp [u, Moving]
    rw [exec_holdTimerExpiry hp]
    refine ⟨fun hearly => ?_, fun hlate hup hdown => ?_, fun l r hlate hm hl hr => ?_⟩
    · rw [if_neg (mt hdue.mp (Nat.not_lt.mpr hearly))]
    · rw [if_pos (hdue.mpr hlate)]
      have hrest : ¬Moving u := fun hm => (hmotion.mp hm).elim hup hdown
      exact ⟨_, rfl, (u.motionStop_of_rest .holdLapse hrest).symm ▸ hu⟩
    · rw [if_pos (hdue.mpr hlate)]
      exact ⟨u, _, rfl, hu, u.motionStop_stopped l r .holdLapse (hmotion.mpr hm) (by simpa [u] using hr)
        (by simpa [u] using hl)⟩
  · rw [exec_startWindowExpiry hp hw hm]
    refine ⟨fun hearly => ?_, fun hdue => ?_⟩
    · simp [hearly]
    · rw [if_pos hdue]
      exact ⟨_, rfl, s.motionStop_stopped l r .startFailed hm hr hl⟩
  · obtain ⟨hentry, hbeside⟩ := (s.setSpan { s.span with stopTimer := none }).latchCause_latches .stopFailed
    rw [exec_stopTimerExpiry hp he hm]
    refine ⟨fun hearly => ?_, fun hdue hempty => ?_, fun hdue hcauses => ?_⟩
    · simp [hearly]
    · rw [if_pos hdue]
      exact ⟨_, rfl, hentry hempty⟩
    · rw [if_pos hdue]
      exact congrArg _ (hbeside hcauses)

end Sys2Proof.Machine
end

section
/-! ### What a close and its REDs leave (08:R152, R153) -/

namespace Sys2Proof.Machine

/-- What the Channel Controller's close leaves, also where a RED is refused and CHANNEL SIGNAL stands the span down: reports
have joined the console's, own orders have joined as REDs only, and the points keep what they hold, but for the motion state
(119), the causes (124) and the channel state (127). -/
structure RedsFollow (s t : State) : Prop where
  console : Reports s.console t.console
  own : ∀ r ∈ t.gate.own, r ∈ s.gate.own ∨ ∃ d, r.origin = .channel d .red
  point : ∀ n, n ≠ 119 → n ≠ 124 → n ≠ 127 → t.point n = s.point n

theorem RedsFollow.trans {s t u : State} (hst : RedsFollow s t) (htu : RedsFollow t u) : RedsFollow s u where
  console := hst.console.trans htu.console
  own := fun r hr => (htu.own r hr).elim (hst.own r) .inr
  point := fun n h119 h124 h127 => (htu.point n h119 h124 h127).trans (hst.point n h119 h124 h127)

theorem State.point_congr {s t : State} (h : t.points = s.points) (n : Nat) : t.point n = s.point n := by
  unfold State.point
  rw [h]

/-- Where the own orders and the points are the same, and only reports are added. -/
theorem RedsFollow.of_reports {s t : State} (hc : Reports s.console t.console) (ho : t.gate.own = s.gate.own)
    (hp : t.points = s.points) : RedsFollow s t :=
  ⟨hc, fun _ hr => .inl (ho ▸ hr), fun n _ _ _ => State.point_congr hp n⟩

/-- From a state with the same reports, own orders and points. -/
theorem RedsFollow.of_start {s u t : State} (h : RedsFollow u t)
    (hsame : u.console = s.console ∧ u.gate.own = s.gate.own ∧ u.points = s.points) : RedsFollow s t := by
  obtain ⟨hc, ho, hp⟩ := hsame
  exact RedsFollow.trans (.of_reports (hc ▸ .refl _) ho hp) h

theorem RedsFollow.refl (s : State) : RedsFollow s s := .of_reports (.refl _) rfl rfl

theorem RedsFollow.ite {p : Prop} [Decidable p] {s t u : State} (ht : RedsFollow s t) (hu : RedsFollow s u) :
    RedsFollow s (if p then t else u) := by
  split
  · exact ht
  · exact hu

theorem State.writePoint_redsFollow (s : State) (n : Nat) (v : Int) (h : n = 119 ∨ n = 124 ∨ n = 127) :
    RedsFollow s (s.writePoint n v) := by
  obtain ⟨hd, hpoints⟩ := (s.writePoint_written n v).drifts
  refine ⟨hd.console, fun r hr => .inl ?_, fun m h119 h124 h127 => ?_⟩
  · rw [hd.gate] at hr
    exact hr
  · rw [point_withValue hpoints (by omega)]
    exact if_neg (by omega)

theorem State.occur_redsFollow (s : State) (e : DutyEvent) : RedsFollow s (s.occur e) :=
  .of_reports (s.occur_reports e) (by simp) (by simp)

theorem State.spanStandDown_redsFollow (s : State) : RedsFollow s s.spanStandDown :=
  .of_start (State.writePoint_redsFollow _ 119 4 (.inl rfl)) ⟨rfl, rfl, rfl⟩

theorem State.standDownEntry_redsFollow (s : State) (c : Cause) : RedsFollow s (s.standDownEntry c) := by
  let u := (s.setUnit { s.unit with firstCause := some c }).writePoint 124 1
  let v := (u.setField { u.field with allStop := true }).alert (.standdown c)
  have hu : RedsFollow s u := .of_start (State.writePoint_redsFollow _ 124 1 (.inr (.inl rfl))) ⟨rfl, rfl, rfl⟩
  have hv : RedsFollow u v := .of_reports (Reports.alert _ _) rfl rfl
  have hhand : RedsFollow v.spanStandDown v.spanStandDown.handStandDown := .of_reports (.refl _) rfl rfl
  exact hu.trans (hv.trans (v.spanStandDown_redsFollow.trans hhand))

theorem State.latchCause_redsFollow (s : State) (c : Cause) : RedsFollow s (s.latchCause c) := by
  let u := s.setUnit ({ s.unit with causes := s.unit.causes.join c } : ModeChain).settleChain
  have hu : RedsFollow s u := .of_reports (.refl _) rfl rfl
  exact .ite (.refl s) (.ite (hu.trans (u.standDownEntry_redsFollow c)) hu)

/-- An own order joins the queue with its originator, or is refused and reported (05:R87, R88). -/
theorem State.offerOwn_cases (s : State) (origin : Origin) (node cls : Nat) (arg : Int) :
    (∃ r : OrderRecord, r.origin = origin
        ∧ s.offerOwn origin node cls arg = (s.setGate { s.gate with own := s.gate.own ++ [r] }, none))
      ∨ ∃ x, s.offerOwn origin node cls arg = (s.occur (.orderOutcome node x), some x) := by
  unfold State.offerOwn
  split
  next r _ _ _ _ => exact .inr ⟨_, rfl⟩
  next => exact .inr ⟨_, rfl⟩
  next n p a c _ =>
    split
    · exact .inl ⟨newRecord origin node cls n p a c, rfl, rfl⟩
    · exact .inr ⟨_, rfl⟩

theorem State.offerRed_redsFollow (s : State) (d : Direction) : RedsFollow s (s.offerRed d) := by
  unfold State.offerRed State.offerSignal
  cases s.chan.record with
  | none => exact .refl s
  | some r =>
    dsimp only
    rcases s.offerOwn_cases (.channel d .red) (r.node d) r.cls SignalKind.red.arg with ⟨o, ho, h⟩ | ⟨x, h⟩
    · rw [h]
      refine ⟨.refl _, fun q hq => ?_, fun n _ _ _ => rfl⟩
      rcases List.mem_append.mp hq with hq | hq
      · exact .inl hq
      · exact .inr ⟨d, List.mem_singleton.mp hq ▸ ho⟩
    · rw [h]
      exact (s.occur_redsFollow _).trans (.of_start (State.latchCause_redsFollow _ .channelSignal) ⟨rfl, rfl, rfl⟩)

theorem State.closeRed_redsFollow (s : State) (due : Bool) (d : Direction) : RedsFollow s (s.closeRed due d) :=
  .ite (.ite (.refl s) (s.offerRed_redsFollow d)) (.refl s)

theorem State.close_redsFollow (s : State) : RedsFollow s s.close := by
  unfold State.close
  dsimp only
  split
  · exact .of_start (State.writePoint_redsFollow _ 127 0 (.inr (.inr rfl))) ⟨rfl, rfl, rfl⟩
  · refine .trans ?_ (State.closeRed_redsFollow _ _ .south)
    exact .of_start (State.closeRed_redsFollow _ _ .north) ⟨rfl, rfl, rfl⟩

end Sys2Proof.Machine
end

section
/-! ### MAINTENANCE that was pending begins (07:R141, 10:R172) -/

namespace Sys2Proof.Machine

/-- MAINTENANCE has begun from a state whose sequencer is q: the mode on point 123, the sequencer INACTIVE, and of the own
orders none but the REDs of the close are new. -/
structure Maintained (s t : State) : Prop where
  mode : t.unit.mode = .maintenance ∧ t.unit.maintenancePending = false ∧ (t.point 123).value = 1
    ∧ (t.point 120).value = 13 ∧ t.chan.phaseSeen = .inactive
  seq : t.seq = InactiveSequencer s t
  own : ∀ r ∈ t.gate.own, r ∈ s.gate.own ∨ ∃ d, r.origin = .channel d .red

theorem State.enterMaintenance_maintained (s : State) : Maintained s s.enterMaintenance := by
  let a := s.modeBase .maintenance
  let b := (a.setSeq a.seq.deactivated).phaseBase .inactive .mode
  let c := b.setChan { b.chan with phaseSeen := .inactive }
  obtain ⟨hda, ha⟩ := (s.modeBase_written .maintenance).drifts
  have hb : PhaseMoves (a.setSeq a.seq.deactivated) b .inactive .mode := (State.phaseBase_changed _ _ _).moves
  have hclose := c.close_redsFollow
  have ht : s.enterMaintenance = c.close := by
    rw [s.enterMaintenance_eq, State.sequencerInactive_eq]
  have hpoint : ∀ n, b.point n = if n = 120 then { a.point 120 with value := 13 } else a.point n :=
    point_withValue hb.points (by decide)
  have hpointA : ∀ n, a.point n = if n = 123 then { s.point 123 with value := 1 } else s.point n :=
    point_withValue ha (by decide)
  rw [ht]
  refine ⟨⟨?_, ?_, ?_, ?_, ?_⟩, ?_, fun r hr => (hclose.own r hr).imp_left fun hr => ?_⟩
  · simp [c, b, a, State.modeBase, ModeChain.settleChain]
  · simp [c, b, a, State.modeBase]
  · rw [hclose.point 123 (by decide) (by decide) (by decide)]
    show (b.point 123).value = 1
    simp [hpoint, hpointA]
  · rw [hclose.point 120 (by decide) (by decide) (by decide)]
    show (b.point 120).value = 13
    simp [hpoint]
  · simp [c]
  · have hkept : SequencerKept c.seq c.close.seq := c.close_keeps
    have hcseq : c.seq = { a.seq.deactivated with phase := .inactive, sets := b.seq.sets } := hb.seq
    have haseq : a.seq = { s.seq with sets := a.seq.sets } := hda.seq
    unfold SequencerKept at hkept
    unfold InactiveSequencer
    rw [hkept, hcseq, haseq]
    rfl
  · have hgate : b.gate = { a.gate with sets := b.gate.sets } := hb.gate
    have hagate : a.gate = { s.gate with sets := a.gate.sets } := hda.gate
    change r ∈ b.gate.own at hr
    rw [hgate, hagate] at hr
    exact hr

/-- A phase fault with MAINTENANCE pending: the change into HALTED begins it (07:R130, R141). -/
theorem State.phaseFault_maintained (s : State) (cause : PhaseCause) (hw : Working s.seq.phase)
    (hp : s.unit.maintenancePending = true) (hm : s.unit.mode = .service) :
    Maintained s (s.phaseFault cause) := by
  let u := s.setSeq { s.seq with
    interrupted := some (.phase s.seq.phase), tracking := [], dwell := .absent, limit := none, request := .none }
  let b := u.phaseBase .halted cause
  let c := b.setChan { b.chan with phaseSeen := .halted }
  have hb : PhaseMoves u b .halted cause := (State.phaseBase_changed _ _ _).moves
  have hunit : c.unit = s.unit := hb.power.2.2.2.1
  have ht : s.phaseFault cause = c.enterMaintenance := by
    unfold State.phaseFault
    rw [if_pos ((Phase.working_iff _).mpr hw)]
    unfold State.haltPhase
    rw [State.channelEvent_phase _ id .halted (by decide) (by decide)]
    exact if_pos ⟨(congrArg ModeChain.maintenancePending hunit).trans hp, (congrArg ModeChain.mode hunit).trans hm, .inr rfl⟩
  rw [ht]
  obtain ⟨hmode, hseq, hown⟩ := c.enterMaintenance_maintained
  refine ⟨hmode, hseq.trans ?_, fun r hr => (hown r hr).imp_left fun hr => ?_⟩
  · have hcseq : c.seq = { u.seq with phase := .halted, sets := b.seq.sets } := hb.seq
    unfold InactiveSequencer
    rw [hcseq]
    rfl
  · have hgate : b.gate = { s.gate with sets := b.gate.sets } := hb.gate
    change r ∈ b.gate.own at hr
    rw [hgate] at hr
    exact hr

/-- An entry into phase 0 with MAINTENANCE pending begins it, and offers no entry orders (07:R126, R141). -/
theorem State.enterRoadOpen_maintained (s : State) (cause : PhaseCause) (hp : s.unit.maintenancePending = true)
    (hm : s.unit.mode = .service) : Maintained (s.setSeq (s.entrySeq .roadOpen)) (s.enter .roadOpen cause) := by
  let u := s.setSeq (s.entrySeq .roadOpen)
  let b := u.phaseBase .roadOpen cause
  let c := b.setChan { b.chan with phaseSeen := .roadOpen }
  have hb : PhaseMoves u b .roadOpen cause := (State.phaseBase_changed _ _ _).moves
  have hunit : c.unit = s.unit := hb.power.2.2.2.1
  have hhanded : s.entryHanded .roadOpen cause State.advanceTest = c.enterMaintenance := by
    rw [s.entryHanded_eq]
    exact if_pos ⟨(congrArg ModeChain.maintenancePending hunit).trans hp, (congrArg ModeChain.mode hunit).trans hm, .inl rfl⟩
  have hc := c.enterMaintenance_maintained
  have hinactive : c.enterMaintenance.seq.phase ≠ .roadOpen := by
    rw [hc.seq]
    exact nofun
  have ht : s.enter .roadOpen cause = c.enterMaintenance := by
    rw [s.enter_eq, hhanded]
    exact if_neg hinactive
  rw [ht]
  obtain ⟨hmode, hseq, hown⟩ := hc
  refine ⟨hmode, hseq.trans ?_, fun r hr => (hown r hr).imp_left fun hr => ?_⟩
  · have hcseq : c.seq = { u.seq with phase := .roadOpen, sets := b.seq.sets } := hb.seq
    unfold InactiveSequencer
    rw [hcseq]
  · have hgate : b.gate = { s.gate with sets := b.gate.sets } := hb.gate
    change r ∈ b.gate.own at hr
    rw [hgate] at hr
    exact hr

/-! ### The phase limit, a stand-down entry and HALT (07:R129, R132, R135) -/

/-- HALT of the right size is judged by the mode and the phase (07:R133, R135). -/
theorem exec_haltRequest {s : State} {f : Frame} {rest : List Frame} (hs : Serves s f rest) (hf : Request f 17 1) :
    exec .haltRequest s = .next
      (let r := sequenceReply (s.seq.phase.working && s.seq.phase != .roadOpen) State.halt s
      r.effect (responded s f rest r.status r.detail r.data)) := by
  refine congrArg Host.Outcome.next ((s.request_served f rest 17 1 _ hs hf).trans ?_)
  obtain ⟨-, -, hlen⟩ := hf
  simp only [sized, if_pos hlen]
  rfl

theorem exec_haltRequest_wrongMode {s : State} {f : Frame} {rest : List Frame} (hs : Serves s f rest)
    (hf : Request f 17 1) (hm : s.unit.mode ≠ .service) : Denies .haltRequest s f rest 1 := by
  unfold Denies
  rw [exec_haltRequest hs hf, sequenceReply, if_pos hm]
  rfl

theorem exec_haltRequest_wrongPhase {s : State} {f : Frame} {rest : List Frame} (hs : Serves s f rest)
    (hf : Request f 17 1) (hm : s.unit.mode = .service) (hphase : ¬Working s.seq.phase ∨ s.seq.phase = .roadOpen) :
    Denies .haltRequest s f rest 2 := by
  have hno : ¬(s.seq.phase.working && s.seq.phase != .roadOpen) = true := by
    simp only [Bool.and_eq_true, Phase.working_iff, bne_iff_ne, not_and_or, ne_eq, not_not]
    exact hphase
  unfold Denies
  rw [exec_haltRequest hs hf, sequenceReply, if_neg (not_not_intro hm), if_neg hno]
  rfl

theorem exec_haltRequest_accepted {s : State} {f : Frame} {rest : List Frame} (hs : Serves s f rest)
    (hf : Request f 17 1) (hm : s.unit.mode = .service) (hw : Working s.seq.phase) (hopen : s.seq.phase ≠ .roadOpen) :
    exec .haltRequest s = .next (((responded s f rest 0 0 []).phaseFault .haltRequest).motionStop .haltRequest) := by
  have hok : (s.seq.phase.working && s.seq.phase != .roadOpen) = true := by
    simp [(Phase.working_iff _).mpr hw, hopen]
  rw [exec_haltRequest hs hf, sequenceReply, if_neg (not_not_intro hm), if_pos hok]
  rfl

theorem exec_phaseLimitExpiry {s : State} (hp : s.power = .running) :
    exec .phaseLimitExpiry s =
      .next (if timerDue s.now s.seq.limit then (s.setSeq { s.seq with limit := none }).phaseFault .limit else s) :=
  congrArg Host.Outcome.next (State.whenRunning_running _ _ hp)

theorem exec_phaseLimitExpiry_due {s : State} {e : Time} (hp : s.power = .running) (he : s.seq.limit = some e)
    (hdue : due s.now e = true) :
    exec .phaseLimitExpiry s = .next ((s.setSeq { s.seq with limit := none }).phaseFault .limit) := by
  rw [exec_phaseLimitExpiry hp, he]
  exact congrArg _ (if_pos hdue)

theorem exec_sequencerStanddown {s : State} {k : Nat} (hp : s.power = .running) (hk : s.seq.standdowns = k + 1) :
    exec .sequencerStanddown s = .next ((s.setSeq { s.seq with standdowns := k }).phaseFault .standdown) := by
  show Host.Outcome.next (s.whenRunning _) = _
  rw [State.whenRunning_running _ _ hp, hk]

theorem exec_advanceTest {s : State} {k : Nat} (hp : s.power = .running) (hk : s.seq.sets = k + 1) :
    exec .advanceTest s = .next (s.setSeq { s.seq with sets := k }).advanceTest := by
  show Host.Outcome.next (s.whenRunning _) = _
  rw [State.whenRunning_running _ _ hp, hk]

/-- The motion stop of a HALT comes after the phase fault: it faults no phase, and stops the span alone (06:R119). -/
theorem Halts.stops {s v : State} {l : LimitRecord} {r : SpanRecord} {cause : PhaseCause} (h : Halts s v cause)
    (c : MotionCause) (hm : Moving s) (hl : s.unit.limits = some l) (hr : s.span.record = some r) :
    StopsMotion v (v.motionStop c) l r c := by
  obtain ⟨-, -, -, hunit, -, hspan⟩ := h.handed.power
  have hmoving : Moving v := by
    unfold Moving
    rw [hspan]
    exact hm
  refine (v.motionStop_stopped l r c hmoving (hspan ▸ hr) (hunit ▸ hl)).alone ?_
  rw [h.seq]
  exact nofun

/-- Settles O45: `phaseFault_faults` says what a phase fault is, `Faults.halts` what it leaves while no MAINTENANCE is
pending, and `Maintained` what it leaves where one is. -/
theorem phaseFaultsHaltTheCrossing : Obligations.PhaseFaultsHaltTheCrossing := by
  intro s hpower hg
  refine ⟨s.phaseFault_faults, fun hearly => ?_, fun e he hdue => exec_phaseLimitExpiry_due hpower he hdue,
    fun k hk => exec_sequencerStanddown hpower hk,
    fun f rest hs hf hm hw hopen => exec_haltRequest_accepted hs hf hm hw hopen, s.enterMaintenance_begun,
    fun hp => ⟨fun e he hdue hw => ?_, fun k hk hw => ?_, fun k hk hw => ?_, fun f rest hs hf => ?_⟩,
    fun hp hm => ⟨fun e he hdue hw => ?_, fun k hk hphase hready => ?_⟩⟩
  · rw [exec_phaseLimitExpiry hpower]
    refine congrArg _ (if_neg ?_)
    cases he : s.seq.limit with
    | none => exact nofun
    | some e => simp [timerDue, hearly e he]
  · have hhalts := ((s.setSeq { s.seq with limit := none }).phaseFault_faults .limit).halts hw hg hp
    exact ⟨_, exec_phaseLimitExpiry_due hpower he hdue, hhalts.seq, hhalts.gate, hhalts.handed.of_setSeq⟩
  · exact ⟨_, exec_sequencerStanddown hpower hk, (State.phaseFault_faults _ .standdown).halts hw hg hp⟩
  · rw [exec_sequencerStanddown hpower hk]
    exact congrArg _ ((State.phaseFault_faults _ .standdown).1 hw)
  · refine ⟨exec_haltRequest_wrongMode hs hf, exec_haltRequest_wrongPhase hs hf, fun hm hw hopen => ?_⟩
    let u := responded s f rest 0 0 []
    have hhalts : Halts u (u.phaseFault .haltRequest) .haltRequest := (u.phaseFault_faults .haltRequest).halts hw hg hp
    have hspan : (u.phaseFault .haltRequest).span = s.span := hhalts.handed.power.2.2.2.2.2
    rw [exec_haltRequest_accepted hs hf hm hw hopen]
    refine ⟨_, hhalts, fun hup hdown => ?_, fun l r hmoving hl hr => ⟨_, rfl, hhalts.stops .haltRequest hmoving hl hr⟩⟩
    refine congrArg _ (State.motionStop_of_rest _ ?_)
    unfold Moving
    rw [hspan]
    exact not_or_intro hup hdown
  · obtain ⟨hmode, hseq, -⟩ := (s.setSeq { s.seq with limit := none }).phaseFault_maintained .limit hw hp hm
    exact ⟨_, exec_phaseLimitExpiry_due hpower he hdue, hmode, hseq⟩
  · let u := s.setSeq { s.seq with sets := k }
    have hadvance : u.advanceTest = (u.setSeq { u.seq with limit := none }).enter .roadOpen .advance := by
      refine (if_pos (u.ready_iff.mpr hready)).trans ?_
      rw [show u.seq.phase = .roadRelease from hphase]
      rfl
    obtain ⟨hmode, hseq, hown⟩ := (u.setSeq { u.seq with limit := none }).enterRoadOpen_maintained .advance hp hm
    refine ⟨_, exec_advanceTest hpower hk, ?_⟩
    rw [show (s.setSeq { s.seq with sets := k }).advanceTest = _ from hadvance]
    exact ⟨hmode, hseq, hown⟩

end Sys2Proof.Machine
end

section
/-! ### The level indicator (06:R105, R106, R109) -/

namespace Sys2Proof.Machine

/-- An indicator that changes is counted and written (06:R109). -/
theorem State.setLevel_written (s : State) (v : Level) (h : s.span.level ≠ v) :
    PointWritten (s.setSpan { s.span with level := v, levelChanges := min (s.span.levelChanges + 1) 255 }) (s.setLevel v)
      117 v.num := by
  rw [show s.setLevel v = _ from if_neg h]
  exact State.writePoint_written _ 117 v.num

/-- The level run and the indicator are set together (06:R109). -/
theorem State.setLevel_levelSet (s : State) (run : Nat) (v : Level) :
    LevelSet s ((s.setSpan { s.span with levelRun := run }).setLevel v)
      { s.span with
        levelRun := run, level := v
        levelChanges := if v = s.span.level then s.span.levelChanges else min (s.span.levelChanges + 1) 255 } := by
  refine ⟨fun h => ?_, fun h => ?_⟩
  · have hv : v = s.span.level := h
    subst hv
    rw [if_pos rfl]
    exact if_pos rfl
  · have hv : v ≠ s.span.level := h
    rw [if_neg hv]
    exact (s.setSpan { s.span with levelRun := run }).setLevel_written v hv.symm

theorem unlevelled_eq (p : Span) :
    Unlevelled p = { p with
      levelRun := 0, level := .notLevel
      levelChanges := if .notLevel = p.level then p.levelChanges else min (p.levelChanges + 1) 255 } := by
  unfold Unlevelled
  cases p.level <;> rfl

theorem State.unlevel_levelSet (s : State) : LevelSet s s.unlevel (Unlevelled s.span) := by
  rw [unlevelled_eq]
  exact s.setLevel_levelSet 0 .notLevel

/-- R109 on a pair. -/
theorem State.levelStage_levelSet (s : State) (l : LimitRecord) (skew : Int) :
    LevelSet s (s.levelStage l skew) (Levelled s.span l skew) := by
  unfold State.levelStage Levelled
  by_cases hin : skew.natAbs ≤ l.lTol
  · simp only [if_pos hin]
    by_cases hrun : l.nLvl ≤ min (s.span.levelRun + 1) 15
    · rw [if_pos hrun]
      exact (show (if l.nLvl ≤ bump 15 s.span.levelRun then _ else _) = _ from if_pos hrun) ▸
        s.setLevel_levelSet (bump 15 s.span.levelRun) .level
    · rw [if_neg hrun]
      refine ⟨fun _ => ?_, fun h => absurd rfl h⟩
      rw [if_pos rfl]
      exact if_neg hrun
  · simp only [if_neg hin]
    have h := s.setLevel_levelSet 0 .notLevel
    exact h

/-! ### Pair misses and lost encoders (06:R105, R106) -/

theorem State.pairMiss_below (s : State) (l : LimitRecord) (h : min (s.span.pairMisses + 1) 255 < l.missLimit) :
    s.pairMiss l = (s.setSpan { s.span with pairMisses := min (s.span.pairMisses + 1) 255 }).occur .pairMiss :=
  if_neg (Nat.not_le.mpr h)

/-- Pair loss is announced (06:R105). -/
theorem State.announceLoss_announces (s : State) (henc : EncodersInField s) :
    ∃ p, PointsMoved (s.setSpan { s.span with pairLost := true }) p s.points.firstPair true
      ∧ SpanPoints s p (fun n => (s.point n).value) ∧ LevelSet p s.announceLoss (Unlevelled p.span) := by
  obtain ⟨-, -, -, -, hmoved, hpoints⟩ := spanPointsAreSettled.2 (s.setSpan { s.span with pairLost := true }) henc
  exact ⟨_, hmoved, hpoints, State.unlevel_levelSet _⟩

/-- R105 at the miss limit. -/
theorem State.pairMiss_atLimit (s : State) (l : LimitRecord) (r : SpanRecord) (hl : s.unit.limits = some l)
    (hr : s.span.record = some r) (henc : EncodersInField s) (h : l.missLimit ≤ min (s.span.pairMisses + 1) 255) :
    let u := (s.setSpan { s.span with pairMisses := min (s.span.pairMisses + 1) 255 }).occur .pairMiss
    ∃ p w, (s.span.pairLost = true → w = u)
      ∧ (s.span.pairLost = false →
        PointsMoved (u.setSpan { u.span with pairLost := true }) p s.points.firstPair true
          ∧ SpanPoints s p (fun n => (s.point n).value) ∧ LevelSet p w (Unlevelled p.span))
      ∧ (¬Moving s → s.pairMiss l = w) ∧ (Moving s → MotionStopped w (s.pairMiss l) l r .skewUnknown) := by
  intro u
  let w := if u.span.pairLost then u else u.announceLoss
  have hmiss : s.pairMiss l = w.motionStop .skewUnknown := if_pos h
  have hlost : u.span.pairLost = s.span.pairLost := by simp [u]
  have hmoving : Moving w ↔ Moving s := by
    unfold Moving
    simp only [w, State.announceLoss]
    split <;> simp [u]
  have hunit : w.unit = s.unit := by
    simp only [w, State.announceLoss]
    split <;> simp [u]
  have hrecord : w.span.record = s.span.record := by
    simp only [w, State.announceLoss]
    split <;> simp [u]
  have hupoints : u.points = s.points := by simp [u]
  have huenc : EncodersInField u := by
    have hspan : u.span.record = s.span.record := by simp [u]
    unfold EncodersInField
    rw [hspan]
    exact henc
  obtain ⟨p, hmoved, hpoints, hlevel⟩ := u.announceLoss_announces huenc
  rw [hupoints] at hmoved
  refine ⟨p, w, fun hl => if_pos (hlost.trans hl), fun hl => ⟨hmoved, ?_, ?_⟩, fun hm => ?_, fun hm => ?_⟩
  · obtain ⟨hsettled, hother, hvalues⟩ := hpoints
    simp only [State.point_congr hupoints] at hother hvalues
    exact ⟨hsettled, hother, hvalues⟩
  · rw [show w = u.announceLoss from if_neg (by simp [hlost, hl])]
    exact hlevel
  · rw [hmiss]
    exact w.motionStop_of_rest _ (mt hmoving.mp hm)
  · rw [hmiss]
    exact w.motionStop_stopped l r _ (hmoving.mpr hm) (hrecord.trans hr) (hunit ▸ hl)

theorem State.encoderLoss_kept (s before : State) (r : SpanRecord) (x : Tower)
    (h : (before.point (r.tower x).encoder).freshness ≠ .fresh ∨ (s.point (r.tower x).encoder).freshness = .fresh) :
    s.encoderLoss before r x = s := by
  refine if_neg fun hlost => ?_
  obtain ⟨hwas, his⟩ := Bool.and_eq_true_iff.mp hlost
  simp only [State.encoderFresh, beq_iff_eq, Bool.not_eq_true', beq_eq_false_iff_ne] at hwas his
  exact h.elim (· hwas) his

theorem State.encoderLoss_lost (s before : State) (r : SpanRecord) (x : Tower)
    (hwas : (before.point (r.tower x).encoder).freshness = .fresh) (his : (s.point (r.tower x).encoder).freshness ≠ .fresh) :
    s.encoderLoss before r x = s.encoderLost := by
  refine if_pos ?_
  simp [State.encoderFresh, hwas, his]

/-- R106. -/
theorem State.encoderLost_stops (s : State) (l : LimitRecord) (r : SpanRecord) (hl : s.unit.limits = some l)
    (hr : s.span.record = some r) (hm : s.unit.mode ≠ .init) :
    ∃ w, LevelSet s w (Unlevelled s.span) ∧ (¬Moving s → s.encoderLost = w)
      ∧ (Moving s → MotionStopped w s.encoderLost l r .skewUnknown) := by
  have hlost : s.encoderLost = s.unlevel.motionStop .skewUnknown := if_neg (by simp [hm, hl])
  have hmoving : Moving s.unlevel ↔ Moving s := by simp [Moving]
  rw [hlost]
  exact ⟨s.unlevel, s.unlevel_levelSet, fun h => State.motionStop_of_rest _ (mt hmoving.mp h),
    fun h => State.motionStop_stopped _ l r _ (hmoving.mpr h) (by simpa using hr) (by simpa using hl)⟩

/-! ### Stalls, trims and stops (06:R101, R116, R118) -/

/-- A tower stalls: a run of unchanged updates after the grace (06:R116). -/
def Stalls (s : State) (r : SpanRecord) (x : Tower) : Prop :=
  ∃ t0, s.span.motionStart = some t0 ∧ r.stallGrace ≤ (s.now - t0).toNat ∧ r.stallLimit ≤ (s.span.tower x).unchanged

theorem State.stallWatch_passes (s : State) (r : SpanRecord) (x : Tower) (h : ¬Stalls s r x) : s.stallWatch r x = s := by
  unfold State.stallWatch
  split
  · rfl
  next t0 ht0 => exact if_neg fun hstalls => h ⟨t0, ht0, hstalls⟩

theorem State.stallWatch_stalls (s : State) (r : SpanRecord) (x : Tower) (h : Stalls s r x) :
    s.stallWatch r x = s.motionStop (if x = .a then .encoderStallA else .encoderStallB) := by
  obtain ⟨t0, ht0, hstalls⟩ := h
  unfold State.stallWatch
  rw [ht0]
  refine (if_pos hstalls).trans ?_
  cases x <;> rfl

theorem Result.failedOnLink_iff (x : Result) : x.failedOnLink = true ↔ FailedOnLink x := by
  cases x <;> simp [Result.failedOnLink, Result.afterRecheck, FailedOnLink]

theorem State.trimOutcome_rest (s : State) (x : Tower) (y : Result) (h : ¬Moving s) : s.trimOutcome x y = s :=
  if_neg (mt s.moving_iff.mp h)

/-- R118, by the result. -/
theorem State.trimOutcome_moving (s : State) (x : Tower) (y : Result) (h : Moving s) :
    (y = .done → s.trimOutcome x y = s.setTrimLoss x 0)
      ∧ (y ≠ .done → ¬FailedOnLink y → s.trimOutcome x y = s)
      ∧ (FailedOnLink y → (s.span.tower x).trimLoss < 2 →
        s.trimOutcome x y = s.setTrimLoss x ((s.span.tower x).trimLoss + 1))
      ∧ (FailedOnLink y → 2 ≤ (s.span.tower x).trimLoss →
        s.trimOutcome x y = (s.setTrimLoss x 3).motionStop .trimLost) := by
  have hlimit : Config.trimLossLimit = 3 := rfl
  have hfailed : FailedOnLink y → y ≠ .done := by rintro (rfl | rfl | rfl | rfl) <;> exact nofun
  unfold State.trimOutcome
  rw [if_pos (s.moving_iff.mpr h), hlimit]
  refine ⟨fun hy => if_pos hy, fun hy hf => ?_, fun hf hn => ?_, fun hf hn => ?_⟩
  · rw [if_neg hy, if_neg (mt y.failedOnLink_iff.mp hf)]
  · rw [if_neg (hfailed hf), if_pos (y.failedOnLink_iff.mpr hf),
      show bump 3 (s.span.tower x).trimLoss = (s.span.tower x).trimLoss + 1 from Nat.min_eq_left (by omega)]
    exact if_neg (by omega)
  · rw [if_neg (hfailed hf), if_pos (y.failedOnLink_iff.mpr hf),
      show bump 3 (s.span.tower x).trimLoss = 3 from Nat.min_eq_right (by omega)]
    exact if_pos (by decide)

theorem State.setTrimLoss_moving (s : State) (x : Tower) (n : Nat) : Moving (s.setTrimLoss x n) ↔ Moving s := by
  cases x <;> rfl

theorem State.setTrimLoss_record (s : State) (x : Tower) (n : Nat) : (s.setTrimLoss x n).span.record = s.span.record := by
  cases x <;> rfl

/-- R101. -/
theorem State.stopOutcome_latches (s : State) (y : Result) :
    (¬FailedOnLink y → s.stopOutcome y = s) ∧ (FailedOnLink y → Latches s (s.stopOutcome y) .stopFailed) := by
  refine ⟨fun h => if_neg (mt y.failedOnLink_iff.mp h), fun h => ?_⟩
  rw [show s.stopOutcome y = s.latchCause .stopFailed from if_pos (y.failedOnLink_iff.mpr h)]
  exact s.latchCause_latches .stopFailed

end Sys2Proof.Machine
end

section
/-! ### What stands behind a motion stop (06:R98) -/

namespace Sys2Proof.Machine

/-- The stop orders stand, the span moves no more than it did, the latest updates are the same, and reports have been added.
So it is behind a motion stop, whatever else its event does (06:R98, R102). -/
structure StopStands (s t : State) : Prop where
  stops : t.field.stopA = s.field.stopA ∧ t.field.stopB = s.field.stopB
  motion : t.span.motion = s.span.motion ∨ t.span.motion = .stopped
  latest : ∀ x, (t.span.tower x).latest = (s.span.tower x).latest
  console : Reports s.console t.console

theorem StopStands.of_span {s t : State} (hstops : t.field.stopA = s.field.stopA ∧ t.field.stopB = s.field.stopB)
    (hspan : SpanHeld s t) (hconsole : Reports s.console t.console) : StopStands s t := by
  refine ⟨hstops, ?_, fun x => ?_, hconsole⟩
  · rcases hspan with h | ⟨h, -⟩
    · exact .inr (by rw [h]; rfl)
    · exact .inl (by rw [h])
  · rcases hspan with h | ⟨h, -⟩
    · rw [h]
      cases x <;> rfl
    · rw [h]

theorem StopStands.trans {s t u : State} (hst : StopStands s t) (htu : StopStands t u) : StopStands s u where
  stops := ⟨htu.stops.1.trans hst.stops.1, htu.stops.2.trans hst.stops.2⟩
  motion := htu.motion.elim (fun h => hst.motion.imp h.trans h.trans) .inr
  latest := fun x => (htu.latest x).trans (hst.latest x)
  console := hst.console.trans htu.console

theorem StopStands.refl (s : State) : StopStands s s := .of_span ⟨rfl, rfl⟩ (.refl s) (.refl _)

theorem StopStands.ite {p : Prop} [Decidable p] {s t u : State} (ht : StopStands s t) (hu : StopStands s u) :
    StopStands s (if p then t else u) := by
  split
  · exact ht
  · exact hu

/-! Reports are all that the events of a phase change add to the console's queue. -/

theorem ReportsAround.reports {c d : Console} {k : Byte} {payload : List Byte} (h : ReportsAround c d k payload)
    (hk : k = kindConditionReport ∨ k = kindPhaseReport ∨ k = kindAlert) : Reports c d := by
  obtain ⟨m, hm, hd⟩ := h
  exact hm.trans ((Reports.of_offer m k payload hk).trans hd)

theorem State.phaseBase_reports (s : State) (p : Phase) (cause : PhaseCause) :
    Reports s.console (s.phaseBase p cause).console :=
  (s.phaseBase_changed p cause).moves.report.reports (.inr (.inl rfl))

theorem State.enterMaintenance_reports (s : State) : Reports s.console s.enterMaintenance.console := by
  let a := s.modeBase .maintenance
  have hmode : Reports s.console a.console := (s.modeBase_written .maintenance).drifts.1.console
  have hphase := (a.setSeq a.seq.deactivated).phaseBase_reports .inactive .mode
  rw [s.enterMaintenance_eq, State.sequencerInactive_eq]
  refine hmode.trans (.trans ?_ (State.close_redsFollow _).console)
  exact hphase

theorem State.phaseHandMode_reports (s : State) (p : Phase) : Reports s.console (s.phaseHandMode p).console := by
  unfold State.phaseHandMode
  split
  · exact s.enterMaintenance_reports
  · exact .refl _

theorem State.haltPhase_reports (s : State) (cause : PhaseCause) : Reports s.console (s.haltPhase cause).console := by
  let b := s.phaseBase .halted cause
  have hb : Reports s.console b.console := s.phaseBase_reports .halted cause
  have hmode := (b.setChan { b.chan with phaseSeen := .halted }).phaseHandMode_reports .halted
  unfold State.haltPhase
  rw [State.channelEvent_phase _ id .halted (by decide) (by decide)]
  exact hb.trans hmode

theorem State.phaseFault_reports (s : State) (cause : PhaseCause) : Reports s.console (s.phaseFault cause).console := by
  unfold State.phaseFault
  split
  · exact .trans (.refl _) (State.haltPhase_reports (s.setSeq _) cause)
  · exact .refl _

theorem State.phaseFault_stopStands (s : State) (cause : PhaseCause) : StopStands s (s.phaseFault cause) :=
  .of_span (by simp) (s.phaseFault_held cause) (s.phaseFault_reports cause)

theorem State.occur_stopStands (s : State) (e : DutyEvent) : StopStands s (s.occur e) :=
  .of_span (by simp) (.of_eq (by simp) (by simp)) (s.occur_reports e)

theorem State.latchCause_stopStands (s : State) (c : Cause) : StopStands s (s.latchCause c) :=
  .of_span (by simp) (s.latchCause_held c) (s.latchCause_redsFollow c).console

/-- What stands behind the first four steps of a motion stop (06:R98). -/
theorem State.motionStop_stands (s : State) (c : MotionCause) (h : Moving s) :
    StopStands ((s.beginStopping .fault).alert (.motionStop c)) (s.motionStop c) := by
  rw [show s.motionStop c = _ from if_pos (s.moving_iff.mpr h)]
  exact .trans (.ite (State.phaseFault_stopStands _ .motionStop) (.refl _)) (State.occur_stopStands _ _)

/-- A motion stop keeps the latest updates (06:R98). -/
theorem State.motionStop_latest (s : State) (c : MotionCause) (x : Tower) :
    ((s.motionStop c).span.tower x).latest = (s.span.tower x).latest := by
  by_cases hm : Moving s
  · rw [(s.motionStop_stands c hm).latest x]
    cases x <;> simp [Span.tower]
  · rw [s.motionStop_of_rest c hm]

end Sys2Proof.Machine
end

section
/-! ### A pair behind a motion stop (06:R102, R104, R105, R107 to R109) -/

namespace Sys2Proof.Machine

/-- The points that an event of the Point Image moves add reports alone (03:R53). -/
theorem PointsMoved.reports {s t : State} {firstPair pairLoss : Bool} (h : PointsMoved s t firstPair pairLoss) :
    Reports s.console t.console := by
  cases hg : s.points.gather with
  | none => exact (h.walks hg).2.1.1
  | some ns =>
    rw [(h.joins ns hg).1]
    exact .refl _

theorem LevelSet.reports {s t : State} {p : Span} (h : LevelSet s t p) : Reports s.console t.console := by
  by_cases hp : p.level = s.span.level
  · rw [h.1 hp]
    exact .refl _
  · exact (h.2 hp).drifts.1.console

theorem clampTo_eq_max_min {lo hi : Int} (h : lo ≤ hi) (v : Int) : clampTo lo hi v = max lo (min hi v) := by
  unfold clampTo
  split_ifs <;> omega

theorem elapsed_eq_zero_iff (t u : Time) : elapsed t u = 0 ↔ t = u := by
  unfold elapsed
  bv_omega

/-- The speed of a pair (06:R107). -/
theorem Span.pairSpeed_first {p : Span} (mean : Int) (t : Time) (h : p.previous = none) : p.pairSpeed mean t = 0 := by
  unfold Span.pairSpeed
  rw [h]

theorem Span.pairSpeed_next {p : Span} {q : PairBase} (mean : Int) (t : Time) (h : p.previous = some q) :
    p.pairSpeed mean t = if t = q.time then p.speed
      else max (-3000) (min 3000 (((mean - q.mean) * 1000).tdiv (t - q.time).toNat)) := by
  have hmax : Config.speedMax = 3000 := rfl
  unfold Span.pairSpeed
  rw [h]
  dsimp only
  simp only [elapsed_eq_zero_iff, hmax]
  rw [clampTo_eq_max_min (by decide)]
  rfl

/-- What a pair leaves before its watches, by its speed (06:R104, R107). -/
theorem State.pairStage_eq (s : State) (hA hB v : Int) (t : Time) (hv : s.span.pairSpeed ((hA + hB) / 2) t = v) :
    s.pairStage hA hB t =
      (s.setSpan { s.span with
        pairMisses := 0, pairLost := false, previous := some { mean := (hA + hB) / 2, time := t }, speed := v
        lastSkew := some (hA - hB) }).pairWrite hA hB (hA - hB) ((hA + hB) / 2) v := by
  subst hv
  rfl

/-- R108. -/
theorem State.skewStage_latches (s : State) (l : LimitRecord) (skew : Int) :
    (l.tSkew < skew.natAbs → Latches s (s.skewStage l skew) .skewTrip)
      ∧ (skew.natAbs ≤ l.tSkew → s.skewStage l skew = s) := by
  refine ⟨fun h => ?_, fun h => if_neg (Nat.not_lt.mpr h)⟩
  rw [show s.skewStage l skew = s.latchCause .skewTrip from if_pos h]
  exact s.latchCause_latches .skewTrip

end Sys2Proof.Machine
end

section
/-! ### An encoder update in motion (06:R102 to R106, R116) -/

namespace Sys2Proof.Machine

/-- The stages of a pair of a span that is not STOPPING (06:R102, R104, R107 to R109). -/
theorem State.takePair_stages (s : State) (l : LimitRecord) (r : SpanRecord) (hA hB v : Int) (t : Time)
    (hv : s.span.pairSpeed ((hA + hB) / 2) t = v) :
    s.takePair l r false hA hB t =
      (((s.pairStage hA hB t).skewStage l (hA - hB)).levelStage l (hA - hB)).motionStages l r (hA - hB) ((hA + hB) / 2) v := by
  have hspeed : (s.pairStage hA hB t).span.speed = v := by
    rw [s.pairStage_eq hA hB v t hv]
    simp
  unfold State.takePair
  dsimp only
  rw [hspeed]
  rfl

/-- A span at rest stays at rest up to the stages of motion. -/
theorem State.levelled_rest (s : State) (l : LimitRecord) (hA hB skew : Int) (t : Time) (hm : ¬Moving s) :
    ¬Moving (((s.pairStage hA hB t).skewStage l skew).levelStage l skew) := by
  have hpair : ¬Moving (s.pairStage hA hB t) := by
    rw [s.pairStage_eq hA hB _ t rfl]
    simpa [Moving] using hm
  have hskew : ¬Moving ((s.pairStage hA hB t).skewStage l skew) := (State.skewStage_noStart _ l skew).rest hpair
  simpa [Moving] using hskew

/-- A pair of a span at rest (06:R102). -/
theorem State.takePair_rest (s : State) (l : LimitRecord) (r : SpanRecord) (hA hB : Int) (t : Time) (hm : ¬Moving s) :
    s.takePair l r false hA hB t = ((s.pairStage hA hB t).skewStage l (hA - hB)).levelStage l (hA - hB) := by
  rw [s.takePair_stages l r hA hB _ t rfl]
  exact State.motionStages_rest _ _ _ _ _ _ (s.levelled_rest l hA hB _ t hm)

/-- A pair that the update of tower x forms with the update u of the other tower (06:R104). -/
def State.pairWith (s : State) (l : LimitRecord) (r : SpanRecord) (x : Tower) (h : Int) (time : Time) (u : Update) : State :=
  s.takePair l r false (if x = .a then h else u.height) (if x = .a then u.height else h)
    (if (time - u.time).toNat ≤ l.window then time else u.time)

theorem State.pairWith_taken (s : State) (l : LimitRecord) (r : SpanRecord) (x : Tower) (h : Int) (time : Time) (u : Update)
    (henc : EncodersInField s) : PairTaken s (s.pairWith l r x h time u) l r x h time u false := by
  unfold PairTaken State.pairWith
  intro tp hA hB skew mean v
  have hv : s.span.pairSpeed ((hA + hB) / 2) tp = v := by
    cases hp : s.span.previous with
    | none =>
      rw [Span.pairSpeed_first _ _ hp]
      simp only [v, hp]
    | some q =>
      rw [Span.pairSpeed_next _ _ hp]
      simp only [v, hp]
      rfl
  let p := s.pairStage hA hB tp
  let c := p.skewStage l skew
  let w := c.levelStage l skew
  have hp := s.pairStage_eq hA hB v tp hv
  have ht : s.takePair l r false hA hB tp = w.motionStages l r skew mean v := s.takePair_stages l r hA hB v tp hv
  obtain ⟨-, -, -, hpair, -⟩ := spanPointsAreSettled.2
    (s.setSpan { s.span with
      pairMisses := 0, pairLost := false, previous := some { mean := mean, time := tp }, speed := v
      lastSkew := some skew }) henc
  obtain ⟨hmoved, hpoints⟩ := hpair hA hB skew mean v
  obtain ⟨htrip, hwithin⟩ := p.skewStage_latches l skew
  refine ⟨p, c, w, ?_, ?_, htrip, hwithin, c.levelStage_levelSet l skew, fun hm _ => ?_, fun _ _ => ht, nofun⟩
  · rw [show p = _ from hp]
    exact hmoved
  · rw [show p = _ from hp]
    exact hpoints
  · exact s.takePair_rest l r hA hB tp hm

theorem pairTime_within {l : LimitRecord} {time : Time} {u : Update} (h : WithinWindow l time u) :
    pairTime l.window time u.time = some (if (time - u.time).toNat ≤ l.window then time else u.time) := by
  unfold pairTime elapsed
  split
  · rfl
  next hx => exact if_pos (h.resolve_left hx)

theorem pairTime_outside {l : LimitRecord} {time : Time} {u : Update} (h : ¬WithinWindow l time u) :
    pairTime l.window time u.time = none := by
  obtain ⟨hx, hy⟩ := not_or.mp h
  exact (if_neg hx).trans (if_neg hy)

theorem State.pairing_alone (s : State) (l : LimitRecord) (r : SpanRecord) (stopping : Bool) (x : Tower) (h : Int)
    (time : Time) (halone : ∀ u, (s.span.tower x.other).latest = some u → ¬WithinWindow l time u) :
    s.pairing l r stopping x h time = s.pairMiss l := by
  unfold State.pairing
  split
  · rfl
  next u hu => rw [pairTime_outside (halone u hu)]

theorem State.pairing_within (s : State) (l : LimitRecord) (r : SpanRecord) (x : Tower) (h : Int) (time : Time) (u : Update)
    (hu : (s.span.tower x.other).latest = some u) (hwithin : WithinWindow l time u) :
    s.pairing l r false x h time = s.pairWith l r x h time u := by
  unfold State.pairing State.pairWith
  rw [hu]
  dsimp only
  rw [pairTime_within hwithin]
  cases x <;> rfl

/-- Stages 1 to 3 of an encoder update (06:R102). -/
def State.updated (s : State) (r : SpanRecord) (x : Tower) (raw : Nat) (time : Time) : State :=
  (s.setSpan (Updated s.span r x raw time)).heightWrite x ((r.tower x).height raw)

/-- Stage 4 (06:R102, R116). -/
def State.watched (s : State) (r : SpanRecord) (x : Tower) (raw : Nat) : State :=
  (if (r.tower x).outOfRange raw then s.motionStop .heightRange else s).whileMoving fun s => s.stallWatch r x

theorem State.encoderUpdate_eq (s : State) (l : LimitRecord) (r : SpanRecord) (x : Tower) (raw : Nat) (time : Time)
    (hl : s.unit.limits = some l) (hr : s.span.record = some r) (hm : s.unit.mode ≠ .init) :
    s.encoderUpdate x raw time =
      ((s.updated r x raw time).watched r x raw).pairing l r (s.span.motion == .stopping) x ((r.tower x).height raw)
        time := by
  unfold State.encoderUpdate
  rw [hl, hr]
  exact if_neg hm

theorem Updated.motion (p : Span) (r : SpanRecord) (x : Tower) (raw : Nat) (time : Time) :
    (Updated p r x raw time).motion = p.motion ∧ (Updated p r x raw time).motionStart = p.motionStart
      ∧ (Updated p r x raw time).record = p.record
      ∧ ((Updated p r x raw time).tower x.other).latest = (p.tower x.other).latest := by
  cases x <;> exact ⟨rfl, rfl, rfl, rfl⟩

theorem State.updated_frame (s : State) (r : SpanRecord) (x : Tower) (raw : Nat) (time : Time) :
    (s.updated r x raw time).span = Updated s.span r x raw time ∧ (s.updated r x raw time).unit = s.unit
      ∧ (s.updated r x raw time).now = s.now ∧ (s.updated r x raw time).field = s.field := by
  simp [State.updated]

theorem State.updated_moving (s : State) (r : SpanRecord) (x : Tower) (raw : Nat) (time : Time) :
    Moving (s.updated r x raw time) ↔ Moving s := by
  obtain ⟨hspan, -⟩ := s.updated_frame r x raw time
  obtain ⟨hmotion, -⟩ := Updated.motion s.span r x raw time
  unfold Moving
  rw [hspan, hmotion]

/-- The height write of stage 3 (06:R102). -/
theorem State.updated_moved (s : State) (r : SpanRecord) (x : Tower) (raw : Nat) (time : Time) (henc : EncodersInField s) :
    PointsMoved (s.setSpan (Updated s.span r x raw time)) (s.updated r x raw time) s.points.firstPair s.points.pairLoss
      ∧ SpanPoints s (s.updated r x raw time) (HeightValues s x ((r.tower x).height raw)) := by
  obtain ⟨-, -, hrecord, -⟩ := Updated.motion s.span r x raw time
  have hencU : EncodersInField (s.setSpan (Updated s.span r x raw time)) := fun q hq => henc q (hrecord.symm.trans hq)
  obtain ⟨-, -, hheight, -⟩ := spanPointsAreSettled.2 (s.setSpan (Updated s.span r x raw time)) hencU
  exact hheight x ((r.tower x).height raw)

/-- Whether the tower stalls at stage 4 (06:R116). -/
theorem State.updated_stalls (s : State) (r : SpanRecord) (x : Tower) (raw : Nat) (time : Time) :
    Stalls (s.updated r x raw time) r x ↔
      ∃ t0, s.span.motionStart = some t0 ∧ r.stallGrace ≤ (s.now - t0).toNat
        ∧ r.stallLimit ≤ ((Updated s.span r x raw time).tower x).unchanged := by
  obtain ⟨hspan, -, hnow, -⟩ := s.updated_frame r x raw time
  obtain ⟨-, hstart, -⟩ := Updated.motion s.span r x raw time
  unfold Stalls
  rw [hspan, hnow, hstart]

/-- Stage 4 finds nothing (06:R102, R116). -/
theorem State.watched_passes (s : State) (r : SpanRecord) (x : Tower) (raw : Nat) (time : Time)
    (h : WatchesPass s r x raw time) : (s.updated r x raw time).watched r x raw = s.updated r x raw time := by
  unfold State.watched
  by_cases hm : Moving s
  · obtain ⟨hrange, hstall⟩ := h hm
    have hno : ¬Stalls (s.updated r x raw time) r x := fun hs => by
      obtain ⟨t0, ht0, hgrace, hlimit⟩ := (s.updated_stalls r x raw time).mp hs
      rcases hstall t0 ht0 with hlt | hlt <;> omega
    rw [if_neg (by simp [hrange]), State.whileMoving_moving _ ((s.updated_moving r x raw time).mpr hm)]
    exact State.stallWatch_passes _ r x hno
  · have hrest : ¬Moving (s.updated r x raw time) := mt (s.updated_moving r x raw time).mp hm
    rw [State.motionStop_of_rest _ hrest, ite_self, State.whileMoving_rest _ hrest]

/-- Stage 4 stops the motion (06:R102, R116). -/
theorem State.watched_stops (s : State) (r : SpanRecord) (x : Tower) (raw : Nat) (time : Time) (c : MotionCause)
    (h : WatchStops s r x raw time c) :
    (s.updated r x raw time).watched r x raw = (s.updated r x raw time).motionStop c := by
  obtain ⟨hm, ⟨hrange, rfl⟩ | ⟨hrange, hstall, rfl⟩⟩ := h
  · unfold State.watched
    rw [if_pos hrange]
    exact State.whileMoving_rest _ (State.motionStop_rest _ _)
  · unfold State.watched
    rw [if_neg (by simp [hrange]), State.whileMoving_moving _ ((s.updated_moving r x raw time).mpr hm)]
    exact State.stallWatch_stalls _ r x ((s.updated_stalls r x raw time).mpr hstall)

/-! What a pair and a pair miss leave of a motion stop before them. -/

theorem LevelSet.stopStands {s t : State} {p : Span} (h : LevelSet s t p) (hmotion : p.motion = s.span.motion)
    (htowers : p.towerA = s.span.towerA ∧ p.towerB = s.span.towerB) : StopStands s t := by
  have hspan : t.span = p ∧ t.field = s.field := by
    by_cases hp : p.level = s.span.level
    · rw [h.1 hp]
      exact ⟨rfl, rfl⟩
    · obtain ⟨-, -, -, hfield, hspan, -⟩ := (h.2 hp).drifts.1.blocks
      exact ⟨hspan, hfield⟩
  refine ⟨by simp [hspan], .inl (by rw [hspan.1, hmotion]), fun x => ?_, h.reports⟩
  rw [hspan.1]
  cases x with
  | a => exact congrArg TowerState.latest htowers.1
  | b => exact congrArg TowerState.latest htowers.2

theorem State.announceLoss_stopStands (s : State) (henc : EncodersInField s) : StopStands s s.announceLoss := by
  obtain ⟨-, -, -, -, hmoved, -⟩ := spanPointsAreSettled.2 (s.setSpan { s.span with pairLost := true }) henc
  have hloss : StopStands s (s.setSpan { s.span with pairLost := true }).pairLossWrite :=
    ⟨by simp, .inl (by simp), fun x => by cases x <;> simp [Span.tower], hmoved.reports⟩
  exact hloss.trans ((State.unlevel_levelSet _).stopStands rfl ⟨rfl, rfl⟩)

/-- A pair miss of a span at rest (06:R105). -/
theorem State.pairMiss_stopStands (s : State) (l : LimitRecord) (henc : EncodersInField s) (hm : ¬Moving s) :
    StopStands s (s.pairMiss l) := by
  let v := s.setSpan { s.span with pairMisses := bump 255 s.span.pairMisses }
  let u := v.occur .pairMiss
  have hcount : StopStands s v := ⟨⟨rfl, rfl⟩, .inl rfl, fun x => by cases x <;> rfl, .refl _⟩
  have hu : StopStands s u := hcount.trans (v.occur_stopStands .pairMiss)
  have hspan : u.span = v.span := by simp [u]
  have huenc : EncodersInField u := fun r hr => henc r (by rwa [hspan] at hr)
  have hw : StopStands s (if u.span.pairLost then u else u.announceLoss) :=
    .ite hu (hu.trans (u.announceLoss_stopStands huenc))
  have hrest : ¬Moving (if u.span.pairLost then u else u.announceLoss) := by
    have hurest : ¬Moving u := by simpa [Moving, hspan, v] using hm
    split
    · exact hurest
    · simpa [Moving, State.announceLoss] using hurest
  have hstop := State.motionStop_of_rest .skewUnknown hrest
  exact .ite (hstop.symm ▸ hw) hu

theorem State.skewStage_stopStands (s : State) (l : LimitRecord) (skew : Int) : StopStands s (s.skewStage l skew) :=
  .ite (s.latchCause_stopStands .skewTrip) (.refl s)

/-- A pair of a span at rest leaves a motion stop before it (06:R102, R107 to R109). -/
theorem State.pairWith_stopStands (s : State) (l : LimitRecord) (r : SpanRecord) (x : Tower) (h : Int) (time : Time)
    (u : Update) (henc : EncodersInField s) (hm : ¬Moving s) : StopStands s (s.pairWith l r x h time u) := by
  unfold State.pairWith
  rw [s.takePair_rest l r _ _ _ hm]
  generalize (if x = .a then h else u.height) = hA
  generalize (if x = .a then u.height else h) = hB
  generalize (if (time - u.time).toNat ≤ l.window then time else u.time) = tp
  have hpair : StopStands s (s.pairStage hA hB tp) := by
    obtain ⟨-, -, -, hwrite, -⟩ := spanPointsAreSettled.2
      (s.setSpan { s.span with
        pairMisses := 0, pairLost := false, previous := some { mean := (hA + hB) / 2, time := tp }
        speed := s.span.pairSpeed ((hA + hB) / 2) tp, lastSkew := some (hA - hB) }) henc
    have hmoved := (hwrite hA hB (hA - hB) ((hA + hB) / 2) (s.span.pairSpeed ((hA + hB) / 2) tp)).1
    rw [s.pairStage_eq hA hB _ tp rfl]
    exact ⟨by simp, .inl (by simp), fun x => by cases x <;> simp [Span.tower], hmoved.reports⟩
  refine hpair.trans (.trans (State.skewStage_stopStands _ l (hA - hB)) ?_)
  exact (State.levelStage_levelSet _ l _).stopStands rfl ⟨rfl, rfl⟩

theorem State.pairing_stopStands (s : State) (l : LimitRecord) (r : SpanRecord) (x : Tower) (h : Int) (time : Time)
    (henc : EncodersInField s) (hm : ¬Moving s) : StopStands s (s.pairing l r false x h time) := by
  by_cases halone : ∀ u, (s.span.tower x.other).latest = some u → ¬WithinWindow l time u
  · rw [s.pairing_alone l r false x h time halone]
    exact s.pairMiss_stopStands l henc hm
  · obtain ⟨u, hpaired⟩ := not_forall.mp halone
    obtain ⟨hu, hwithin⟩ := Classical.not_imp.mp hpaired
    rw [not_not] at hwithin
    rw [s.pairing_within l r x h time u hu hwithin]
    exact s.pairWith_stopStands l r x h time u henc hm

end Sys2Proof.Machine
end

section
/-! ### Losses that stop the motion (06:R101, R103, R105, R106, R116, R118) -/

namespace Sys2Proof.Machine

/-- An update that finds no partner and stops nothing is a pair miss behind its height write (06:R105). -/
theorem State.encoderUpdate_alone (s : State) (l : LimitRecord) (r : SpanRecord) (x : Tower) (raw : Nat) (time : Time)
    (hl : s.unit.limits = some l) (hr : s.span.record = some r) (hm : s.unit.mode ≠ .init)
    (halone : ∀ u, (s.span.tower x.other).latest = some u → ¬WithinWindow l time u) (hpass : WatchesPass s r x raw time) :
    s.encoderUpdate x raw time = (s.updated r x raw time).pairMiss l := by
  rw [s.encoderUpdate_eq l r x raw time hl hr hm, s.watched_passes r x raw time hpass]
  refine State.pairing_alone _ l r _ x _ time ?_
  obtain ⟨-, -, -, hlatest⟩ := Updated.motion s.span r x raw time
  rw [(s.updated_frame r x raw time).1, hlatest]
  exact halone

/-- An update whose watch stops the motion is paired behind the stop (06:R102, R116). -/
theorem State.encoderUpdate_stops (s : State) (l : LimitRecord) (r : SpanRecord) (x : Tower) (raw : Nat) (time : Time)
    (c : MotionCause) (hl : s.unit.limits = some l) (hr : s.span.record = some r) (hm : s.unit.mode ≠ .init)
    (hw : WatchStops s r x raw time c) :
    s.encoderUpdate x raw time =
      ((s.updated r x raw time).motionStop c).pairing l r false x ((r.tower x).height raw) time := by
  have hstopping : (s.span.motion == .stopping) = false := by
    rcases hw.1 with h | h <;> rw [h] <;> rfl
  rw [s.encoderUpdate_eq l r x raw time hl hr hm, s.watched_stops r x raw time c hw, hstopping]

theorem State.stopped_latest (s : State) (r : SpanRecord) (x : Tower) (raw : Nat) (time : Time) (c : MotionCause) :
    (((s.updated r x raw time).motionStop c).span.tower x.other).latest = (s.span.tower x.other).latest := by
  obtain ⟨-, -, -, hlatest⟩ := Updated.motion s.span r x raw time
  rw [State.motionStop_latest, (s.updated_frame r x raw time).1, hlatest]

/-- The records of an update behind its height write (06:R102). -/
theorem State.updated_records (s : State) (l : LimitRecord) (r : SpanRecord) (x : Tower) (raw : Nat) (time : Time)
    (hl : s.unit.limits = some l) (hr : s.span.record = some r) :
    (s.updated r x raw time).unit.limits = some l ∧ (s.updated r x raw time).span.record = some r := by
  obtain ⟨hspan, hunit, -⟩ := s.updated_frame r x raw time
  obtain ⟨-, -, hrecord, -⟩ := Updated.motion s.span r x raw time
  exact ⟨hunit ▸ hl, by rw [hspan, hrecord, hr]⟩

theorem State.stopped_encoders (s : State) (r : SpanRecord) (x : Tower) (raw : Nat) (time : Time) (c : MotionCause)
    (henc : EncodersInField s) : EncodersInField ((s.updated r x raw time).motionStop c) := by
  obtain ⟨-, -, hrecord, -⟩ := Updated.motion s.span r x raw time
  intro q hq
  refine henc q ?_
  rw [← hrecord, ← (s.updated_frame r x raw time).1, ← hq]
  simp

/-- Stage 4 stops the motion, and the update is paired or is a pair miss all the same (06:R102, R103, R116). -/
theorem State.encoderUpdate_watchStops (s : State) (l : LimitRecord) (r : SpanRecord) (x : Tower) (raw : Nat) (time : Time)
    (c : MotionCause) (hl : s.unit.limits = some l) (hr : s.span.record = some r) (henc : EncodersInField s)
    (hm : s.unit.mode ≠ .init) (hw : WatchStops s r x raw time c) :
    let h := (r.tower x).height raw
    let t := s.encoderUpdate x raw time
    ∃ u v, PointsMoved (s.setSpan (Updated s.span r x raw time)) u s.points.firstPair s.points.pairLoss
      ∧ SpanPoints s u (HeightValues s x h) ∧ MotionStopped u v l r c
      ∧ ((∀ w, (s.span.tower x.other).latest = some w → ¬WithinWindow l time w) → t = v.pairMiss l)
      ∧ ∀ w, (s.span.tower x.other).latest = some w → WithinWindow l time w → PairTaken v t l r x h time w false := by
  intro h t
  let u := s.updated r x raw time
  let v := u.motionStop c
  obtain ⟨hmoved, hpoints⟩ := s.updated_moved r x raw time henc
  obtain ⟨hlu, hru⟩ := s.updated_records l r x raw time hl hr
  have ht : t = v.pairing l r false x h time := s.encoderUpdate_stops l r x raw time c hl hr hm hw
  have hlatest := s.stopped_latest r x raw time c
  have hmu : Moving u := (s.updated_moving r x raw time).mpr hw.1
  refine ⟨u, v, hmoved, hpoints, u.motionStop_stopped l r c hmu hru hlu, fun halone => ?_, fun w hlw hwithin => ?_⟩
  · rw [ht]
    exact v.pairing_alone l r false x h time (hlatest ▸ halone)
  · rw [ht, v.pairing_within l r x h time w (hlatest.trans hlw) hwithin]
    exact v.pairWith_taken l r x h time w (s.stopped_encoders r x raw time c henc)

/-- A saturated height stops the motion, and the stop stands at the end of the update (06:R98, R103). -/
theorem State.encoderUpdate_outOfRange (s : State) (l : LimitRecord) (r : SpanRecord) (x : Tower) (raw : Nat) (time : Time)
    (hl : s.unit.limits = some l) (hr : s.span.record = some r) (henc : EncodersInField s) (hm : s.unit.mode ≠ .init)
    (hmoving : Moving s) (hrange : (r.tower x).outOfRange raw = true) :
    let t := s.encoderUpdate x raw time
    (t.span.motion = .stopping ∨ t.span.motion = .stopped)
      ∧ t.field.stopA = some { node := r.a.hoist, cls := r.stop, arg := 0 }
      ∧ t.field.stopB = some { node := r.b.hoist, cls := r.stop, arg := 0 }
      ∧ ReportsAround s.console t.console 21 [2, 0, 7] := by
  intro t
  let u := s.updated r x raw time
  let b := (u.beginStopping .fault).alert (.motionStop .heightRange)
  obtain ⟨hlu, hru⟩ := s.updated_records l r x raw time hl hr
  have hmu : Moving u := (s.updated_moving r x raw time).mpr hmoving
  have ht : t = (u.motionStop .heightRange).pairing l r false x ((r.tower x).height raw) time :=
    s.encoderUpdate_stops l r x raw time .heightRange hl hr hm ⟨hmoving, .inl ⟨hrange, rfl⟩⟩
  have hbegun : StopMoves u b l r .heightRange := (u.beginStopping_begins l r .heightRange hru hlu).moves
  have hstands : StopStands b t := by
    rw [ht]
    exact (u.motionStop_stands .heightRange hmu).trans (State.pairing_stopStands _ l r x _ time
      (s.stopped_encoders r x raw time .heightRange henc) (u.motionStop_rest .heightRange))
  have hmotion : b.span.motion = .stopping := by rw [hbegun.span]
  obtain ⟨hA, hB⟩ := hstands.stops
  obtain ⟨m, hm, halert⟩ := hbegun.alert
  refine ⟨hmotion ▸ hstands.motion, hA.trans (by rw [hbegun.field]), hB.trans (by rw [hbegun.field]), m, ?_, ?_⟩
  · exact (s.updated_moved r x raw time henc).1.reports.trans hm
  · have hcode : byte MotionCause.heightRange.code = 7 := rfl
    rw [hcode] at halert
    exact halert ▸ hstands.console

/-- Settles O39, loss by loss. -/
theorem lossesStopTheMotion : Obligations.LossesStopTheMotion := by
  refine ⟨fun s h => if_pos h, fun s l r hl hr henc => ⟨fun x raw time hm halone hpass => ?_,
    ⟨s.pairMiss_below l, s.pairMiss_atLimit l r hl hr henc⟩,
    fun before x => ⟨s.encoderLoss_kept before r x, s.encoderLoss_lost before r x⟩, s.encoderLost_stops l r hl hr,
    fun x raw time c => s.encoderUpdate_watchStops l r x raw time c hl hr henc,
    fun x raw time => s.encoderUpdate_outOfRange l r x raw time hl hr henc, fun x => ⟨s.stallWatch_passes r x, fun h hm => ?_⟩,
    fun x y => ?_, s.stopOutcome_latches⟩⟩
  · obtain ⟨hmoved, hpoints⟩ := s.updated_moved r x raw time henc
    refine ⟨_, hmoved, hpoints, s.encoderUpdate_alone l r x raw time hl hr hm (fun u hu hwithin => ?_) hpass⟩
    obtain ⟨hafter, hbefore⟩ := halone u hu
    exact hwithin.elim (Nat.not_le.mpr hafter) (Nat.not_le.mpr hbefore)
  · rw [s.stallWatch_stalls r x h]
    exact s.motionStop_stopped l r _ hm hr hl
  · by_cases hm : Moving s
    · obtain ⟨hdone, hkept, hcounted, hthird⟩ := s.trimOutcome_moving x y hm
      refine ⟨fun h => ?_, fun _ => hdone, fun _ => hcounted, fun _ hf hn => ?_⟩
      · obtain ⟨hy, hf⟩ := h.resolve_left (not_not_intro hm)
        exact hkept hy hf
      · rw [hthird hf hn]
        exact State.motionStop_stopped _ l r .trimLost ((s.setTrimLoss_moving x 3).mpr hm)
          ((s.setTrimLoss_record x 3).trans hr) hl
    · exact ⟨fun _ => s.trimOutcome_rest x y hm, fun h => absurd h hm, fun h => absurd h hm, fun h => absurd h hm⟩

end Sys2Proof.Machine
end
